-- ==== Sys2Proof/Word.lean ====
section
/-! DEFINITION. Bytes, words and addresses of the Arpsel 6230 (spec/00_scope.md, Terms and Conventions). -/

namespace Sys2Proof

/-- A byte: serial links send bytes, digests are byte strings. -/
abbrev Byte := BitVec 8

/-- A word, 16 bits: the unit of the Controller Port and of the Flash Port. -/
abbrev Word := BitVec 16

/-- A 24-bit address: a Controller Port word address (CP_A[23:0]) or an Engine Link byte address. -/
abbrev Addr := BitVec 24

end Sys2Proof
end

