-- ==== Sys2Proof/Syntax.lean ====
section
/-! DEFINITION. The commands: one constructor for every row of spec/opcode_table.json, with the operands the
row's event carries from outside the part. -/

namespace Sys2Proof

/-- The steps of the part (spec/95_what_each_step_holds.md): each is whole and indivisible. -/
inductive Instr where
  /-- POWER_ON (R3). `flash` is absent where the back flash kept its own supply; else the flash powers up with
  the part, and the list gives the words that an operation it was running left at its target (log 5, log 8). -/
  | powerOn (flash : Option (List Word))
  /-- NRST_FALL (R4). -/
  | nrstFall
  /-- PART_RESET_END (R5): the straps FSZ and SWL as sampled at that moment (R1, R2), and whether the supply is
  below the warning level that SWL selects (R5, R168). -/
  | partResetEnd (fsz swl : BitVec 2) (low : Bool)
  /-- BROWN_OUT_FALL (R169). -/
  | brownOutFall
  /-- BROWN_OUT_RECOVERY (R3). -/
  | brownOutRecovery
  /-- SUPPLY_WARNING_FALL (R168). -/
  | supplyWarningFall
  /-- SUPPLY_WARNING_RISE (R168). -/
  | supplyWarningRise
  /-- CRST_IN_ASSERT (R111). -/
  | crstInAssert
  /-- CRST_IN_DEASSERT (R99). -/
  | crstInDeassert
  /-- INTAKE_DEADLINE_EXPIRY (R14). -/
  | intakeDeadlineExpiry
  /-- BOOT_DEADLINE_EXPIRY (R160). -/
  | bootDeadlineExpiry
  /-- PATROL_INTERVAL_EXPIRY (R154). -/
  | patrolIntervalExpiry
  /-- PGATE_HALF_PERIOD (R162). -/
  | pgateHalfPeriod
  /-- FLASH_GRANT (R87). -/
  | flashGrant
  /-- BURST_WORD_BOUNDARY (R89). -/
  | burstWordBoundary
  /-- BURST_COMPLETE (R74). -/
  | burstComplete
  /-- CHUNK_HASH_COMPLETE (R78). -/
  | chunkHashComplete
  /-- LIST_PIECE_HASH_COMPLETE (R81). -/
  | listPieceHashComplete
  /-- KEY_PASS_COMPLETE (R81). -/
  | keyPassComplete
  /-- SPAN_PASS_COMPLETE (R81). -/
  | spanPassComplete
  /-- SIGNATURE_CHECK_END (R82). -/
  | signatureCheckEnd
  /-- CP_READ_ARRIVAL (R101): the address sampled at the arrival. -/
  | cpReadArrival (addr : Addr)
  /-- CP_WORD_RETURN (R107). -/
  | cpWordReturn
  /-- CP_READ_ABANDON (R112). -/
  | cpReadAbandon
  /-- CP_ACCESS_END (R99). -/
  | cpAccessEnd
  /-- CP_WRITE_ARRIVAL (R116): the address and the data on CP_D. -/
  | cpWriteArrival (addr : Addr) (value : Word)
  /-- SEQUENCE_SENT (R122). -/
  | sequenceSent
  /-- FLASH_OPERATION_END (R93): `error` says that the flash could not complete the operation; the list gives the
  words a failed operation left from its target upward (log 8). -/
  | flashOperationEnd (error : Bool) (left : List Word)
  /-- POLL_PAIR_COMPLETE (R94). -/
  | pollPairComplete
  /-- POLL_RETRY_TICK (R124). -/
  | pollRetryTick
  /-- WIPE_SECTOR_START (R131). -/
  | wipeSectorStart
  /-- EL_FRAME_BEGIN (R137). -/
  | elFrameBegin
  /-- EL_READ (R138): the 24-bit link byte address the three address bytes form. -/
  | elRead (addr : Addr)
  /-- EL_STATUS (R145). -/
  | elStatus
  /-- EL_IDENT (R146). -/
  | elIdent
  /-- EL_UNKNOWN_COMMAND (R138): the command byte. -/
  | elUnknownCommand (code : Byte)
  /-- EL_READ_BYTE_BOUNDARY (R142). -/
  | elReadByteBoundary
  /-- EL_STATUS_BYTE_BOUNDARY (R145). -/
  | elStatusByteBoundary
  /-- EL_WORD_RETURN (R141). -/
  | elWordReturn
  /-- EL_FRAME_END (R144). -/
  | elFrameEnd
  /-- SL_FRAME_END (R176). -/
  | slFrameEnd
  /-- SL_STATUS (R178). -/
  | slStatus
  /-- SL_REGION (R55): n. -/
  | slRegion (n : Byte)
  /-- SL_CHUNKS (R55): n and start. -/
  | slChunks (n : Byte) (start : Word)
  /-- SL_CAPTURE (R128). -/
  | slCapture
  /-- SL_COUNTERS (R178). -/
  | slCounters
  /-- SL_KEYS (R178). -/
  | slKeys
  /-- SL_PROVISION (R179): the slot and the 32 digest bytes, in the order received. -/
  | slProvision (slot : Byte) (digest : List Byte)
  /-- SL_REVOKE (R179): the slot. -/
  | slRevoke (slot : Byte)
  /-- SL_CLOSE (R179). -/
  | slClose
  /-- SL_LOCK (R180). -/
  | slLock
  /-- SL_WIPE (R130). -/
  | slWipe
  /-- SL_PATROL (R154). -/
  | slPatrol
  /-- SL_UNKNOWN (R176): the command byte. -/
  | slUnknown (code : Byte)
  /-- FUSE_STEP_END (R172). -/
  | fuseStepEnd
  /-- FUSE_OPERATION_END (R173). -/
  | fuseOperationEnd
  /-- SL_FRAME_BEGIN (R176). -/
  | slFrameBegin
deriving DecidableEq, Repr

end Sys2Proof
end

