-- ==== Sys2Proof/WellFormed.lean ====
section
/-! DEFINITION. Which terms of `Instr` are commands a bus partner can send: the operand checks that the types
do not already make. -/

namespace Sys2Proof

/-- The Engine Link's command bytes READ, STATUS and IDENT (R185). -/
def elCommandCodes : List Byte := [0x4C#8, 0x5D#8, 0x6E#8]

/-- The Service Link's command bytes (R186). -/
def slCommandCodes : List Byte :=
  [0x10#8, 0x11#8, 0x12#8, 0x13#8, 0x14#8, 0x15#8, 0x20#8, 0x21#8, 0x22#8, 0x23#8, 0x24#8, 0x25#8]

/-- The words of one sector (00_scope.md, Sector). -/
def sectorWords : Nat := 32768

/-- A command whose operands the row's event can carry:
a flash operation leaves at most one sector of words (R92); an unknown Engine Link command is none of R185's;
an unknown Service Link command is none of R186's; PROVISION carries 32 digest bytes (R177). -/
def Instr.wellFormed : Instr → Bool
  | .powerOn flash => decide ((flash.getD []).length ≤ sectorWords)
  | .flashOperationEnd _ left => decide (left.length ≤ sectorWords)
  | .elUnknownCommand code => !elCommandCodes.contains code
  | .slUnknown code => !slCommandCodes.contains code
  | .slProvision _ digest => decide (digest.length = 32)
  | .nrstFall | .partResetEnd _ _ _ | .brownOutFall | .brownOutRecovery
  | .supplyWarningFall | .supplyWarningRise | .crstInAssert | .crstInDeassert
  | .intakeDeadlineExpiry | .bootDeadlineExpiry | .patrolIntervalExpiry | .pgateHalfPeriod
  | .flashGrant | .burstWordBoundary | .burstComplete
  | .chunkHashComplete | .listPieceHashComplete | .keyPassComplete | .spanPassComplete | .signatureCheckEnd
  | .cpReadArrival _ | .cpWordReturn | .cpReadAbandon | .cpAccessEnd | .cpWriteArrival _ _
  | .sequenceSent | .pollPairComplete | .pollRetryTick | .wipeSectorStart
  | .elFrameBegin | .elRead _ | .elStatus | .elIdent | .elReadByteBoundary | .elStatusByteBoundary
  | .elWordReturn | .elFrameEnd
  | .slFrameBegin | .slFrameEnd | .slStatus | .slRegion _ | .slChunks _ _ | .slCapture | .slCounters | .slKeys
  | .slRevoke _ | .slClose | .slLock | .slWipe | .slPatrol
  | .fuseStepEnd | .fuseOperationEnd => true

end Sys2Proof
end

