-- ==== Sys2Proof/Decode.lean ====
section
/-! DEFINITION. The command a word spells by the bits of spec/opcode_table.json, and the link commands that the bytes of a
frame spell by the codes of R185 and R186, with the bytes of each and the bits they are sampled from. -/

namespace Sys2Proof

/-- The part is a block and its table gives no row any bits, so no word spells a command: every word is refused. -/
def decodeTableWord (_nbits _w : Nat) : Option Instr := none

/-! ## Bits and bytes of a link's frame (R137, R176) -/

/-- The bytes completed by the bits that a link samples from its select line's fall on: eight bits a byte, most significant
first; a last byte with fewer bits than eight is discarded without effect (R137, R176). -/
def bytesOfBits : List Bool → List Byte
  | b7 :: b6 :: b5 :: b4 :: b3 :: b2 :: b1 :: b0 :: rest =>
    (BitVec.ofBoolListBE [b7, b6, b5, b4, b3, b2, b1, b0] : Byte) :: bytesOfBits rest
  | _ => []

/-! ## Engine Link frames (R138, R185) -/

def elReadCode : Byte := 0x4C#8
def elStatusCode : Byte := 0x5D#8
def elIdentCode : Byte := 0x6E#8

/-- The command completed by the last of the bytes received since EL_SEL# fell: READ with its third address byte, most
significant byte first; any other with its command byte (R138, R185). None where that byte completes no command. -/
def elDecode : List Byte → Option Instr
  | [c] =>
    if c = elReadCode then none
    else if c = elStatusCode then some .elStatus
    else if c = elIdentCode then some .elIdent
    else some (.elUnknownCommand c)
  | [c, high, mid, low] => if c = elReadCode then some (.elRead (high ++ mid ++ low)) else none
  | _ => none

/-- The bytes by which an Engine Link command is sent (R185). -/
def elEncode : Instr → Option (List Byte)
  | .elRead a => some [elReadCode, a.extractLsb' 16 8, a.extractLsb' 8 8, a.extractLsb' 0 8]
  | .elStatus => some [elStatusCode]
  | .elIdent => some [elIdentCode]
  | .elUnknownCommand c => some [c]
  | _ => none

/-! ## Service Link frames (R176, R177, R186) -/

/-- The commands of one byte (R186). -/
def slPlain (c : Byte) : Option Instr :=
  if c = 0x10#8 then some .slStatus
  else if c = 0x13#8 then some .slCapture
  else if c = 0x14#8 then some .slCounters
  else if c = 0x15#8 then some .slKeys
  else if c = 0x22#8 then some .slClose
  else if c = 0x23#8 then some .slLock
  else if c = 0x24#8 then some .slWipe
  else if c = 0x25#8 then some .slPatrol
  else if slCommandCodes.contains c then none
  else some (.slUnknown c)

/-- The command whose decision event is the completion of the last of the bytes received since SL_SEL# fell: its last argument
byte, or its command byte where it has no arguments (R176, R177, R186). CHUNKS takes the low byte of `start` first. -/
def slDecode : List Byte → Option Instr
  | [] => none
  | [c] => slPlain c
  | [c, n] =>
    if c = 0x11#8 then some (.slRegion n)
    else if c = 0x21#8 then some (.slRevoke n)
    else none
  | [c, n, low, high] => if c = 0x12#8 then some (.slChunks n (high ++ low)) else none
  | c :: slot :: digest => if c = 0x20#8 ∧ digest.length = 32 then some (.slProvision slot digest) else none

/-- The bytes by which a Service Link command is sent (R186). -/
def slEncode : Instr → Option (List Byte)
  | .slStatus => some [0x10#8]
  | .slRegion n => some [0x11#8, n]
  | .slChunks n start => some [0x12#8, n, start.extractLsb' 0 8, start.extractLsb' 8 8]
  | .slCapture => some [0x13#8]
  | .slCounters => some [0x14#8]
  | .slKeys => some [0x15#8]
  | .slProvision slot digest => some (0x20#8 :: slot :: digest)
  | .slRevoke slot => some [0x21#8, slot]
  | .slClose => some [0x22#8]
  | .slLock => some [0x23#8]
  | .slWipe => some [0x24#8]
  | .slPatrol => some [0x25#8]
  | .slUnknown c => some [c]
  | _ => none

end Sys2Proof
end

