-- ==== Sys2Proof/Machine/State.lean ====
section
/-! DEFINITION. The state of the Arpsel 6230: every register, table, queue, buffer, cell and pin the spec gives
the part, block by block (spec/00_scope.md, Block overview), the back flash behind its Flash Port, and the queue
of commands waiting. Plain data throughout. -/

namespace Sys2Proof.Machine

/-! ## Shared names -/

/-- A bank: one half of the flash (R1). -/
inductive Bank where
  | bank0
  | bank1
deriving DecidableEq, Repr

/-- A list of (byte address, byte) pairs, addresses rising, no pair that an unlisted address reads as. -/
abbrev Memory := List Host.Cell

/-- The class of an IMAGE region (R46, R183). -/
inductive ImageClass where
  | boot
  | print
  | optional
deriving DecidableEq, Repr

/-- A set of classes (R22, R183). -/
structure ClassMask where
  boot : Bool
  print : Bool
  optional : Bool
deriving DecidableEq, Repr

/-! ## Lines, straps and reset (R1 to R5, R20) -/

/-- The source that began a part reset (R4). -/
inductive ResetCause where
  | powerOn
  | pin
  | brownOut
deriving DecidableEq, Repr

/-- Input lines, sampled straps, reset outputs and the reset in progress. -/
structure Lines where
  /-- A part reset is in progress (R3). -/
  inReset : Bool
  /-- The recorded reset cause (R4). -/
  cause : ResetCause
  /-- nRST is low. -/
  nrstLow : Bool
  /-- The supply is below the brown-out level (R169). -/
  belowBrownOut : Bool
  /-- CRST_IN is asserted: the main controller's own reset, sensed (R99). -/
  crstIn : Bool
  /-- CRST_OUT holds the main controller (R20). -/
  crstOut : Bool
  /-- ERST_OUT holds the engine controller (R20). -/
  erstOut : Bool
  /-- The flash size code FSZ, sampled when the part reset ended (R1). -/
  fsz : BitVec 2
  /-- The warning level straps SWL, sampled at the same moment (R2, R168). -/
  swl : BitVec 2
deriving DecidableEq, Repr

/-! ## Boot Controller (R5 to R19) -/

/-- The seven boot states (spec/01, 1.3). -/
inductive BootState where
  | selecting
  | walking
  | preverify
  | released
  | noBank
  | halted
  | transparent
deriving DecidableEq, Repr

/-- The alert mask bits (R6, R164). -/
structure AlertMask where
  bad : Bool
  late : Bool
  violation : Bool
  supplyLow : Bool
deriving DecidableEq, Repr

/-- The operating parameters (R6). -/
structure Params where
  fillWord : Word
  halfPeriod : Nat
  bootDeadline : Nat
  patrolInterval : Nat
  overflowStrict : Bool
  holdFill : Bool
  mask : AlertMask
deriving DecidableEq, Repr

/-- Where the judgement of a manifest stands (R8, R32): its slot filling, its key pass, its span pass, its
signature check. -/
inductive JudgeStep where
  | fill
  | key
  | span
  | check
deriving DecidableEq, Repr

/-- The judgement of one bank's root manifest (R7, R8). -/
inductive RootJudgement where
  | notJudged
  | judging (slot : Fin 8) (at_ : JudgeStep) (keyDigest : List Byte)
  | rejected
  | candidate (slot : Fin 8) (keyDigest : List Byte)
deriving DecidableEq, Repr

/-- An entry of the candidate list (R9), with the slot that keeps its manifest (R10). -/
structure Candidate where
  bank : Bank
  sequence : Nat
  keyDigest : List Byte
  demoted : Bool
  slot : Fin 8
deriving DecidableEq, Repr

/-- The Boot Controller's own state (R5). -/
structure Boot where
  state : BootState
  active : Option Bank
  candidates : List Candidate
  /-- The current candidate, as its index in the list counted from 0 (R9). -/
  current : Option Nat
  /-- The reserve root slot (R10). -/
  reserve : Option (Fin 8)
  params : Params
  root0 : RootJudgement
  root1 : RootJudgement
deriving DecidableEq, Repr

/-! ## Print gate, alerts, timer (R158 to R166) -/

inductive GateState where
  | closed
  | opened
  | latched
deriving DecidableEq, Repr

inductive GateCause where
  | chunkBad
  | late
deriving DecidableEq, Repr

/-- The gate with its cause and the PGATE clock (R158, R162). -/
structure Gate where
  state : GateState
  cause : Option GateCause
  /-- The level of PGATE. -/
  pgate : Bool
  /-- Ticks since PGATE last changed level. -/
  count : Nat
  /-- The gate has opened and the first tick after the opening event is still to come. -/
  fresh : Bool
deriving DecidableEq, Repr

/-- The alert conditions (R163). -/
structure Alerts where
  bad : Bool
  late : Bool
  violation : Bool
  supplyLow : Bool
  noBank : Bool
deriving DecidableEq, Repr

inductive TimerPurpose where
  | intake
  | bootDeadline
  | patrol
deriving DecidableEq, Repr

/-- The Interval Timer (R165). -/
structure Timer where
  counter : Nat
  compare : Nat
  running : Bool
  purpose : TimerPurpose
deriving DecidableEq, Repr

/-! ## Manifest Walker (R22 to R25, R29, R32) -/

/-- The kinds of walk fault (R24). -/
inductive WalkFault where
  | rollback
  | scope
  | capacity
  | engineTwice
  | overflow
  | delegateBad
  | listBad
  | overlap
deriving DecidableEq, Repr

/-- The reference of a walk fault (R24). -/
inductive WalkRef where
  | entry (signer index : Nat)
  | region (index : Nat)
deriving DecidableEq, Repr

/-- How a walk ended (R24). -/
inductive WalkOutcome where
  | success
  | fault (kind : WalkFault) (ref : WalkRef)
deriving DecidableEq, Repr

/-- A frame of the walk stack (R22). -/
structure Frame where
  slot : Fin 8
  signer : Nat
  next : Nat
  base : Nat
  count : Nat
  mask : ClassMask
deriving DecidableEq, Repr

/-- A record of the key table (R23). -/
structure KeyRecord where
  digest : List Byte
  parent : Option Nat
  depth : Nat
  entry : Option Nat
deriving DecidableEq, Repr

/-- A SHA-256 computation that has been begun: chaining value, bytes of the unfinished block, bytes taken. -/
structure ShaCtx where
  a : BitVec 32
  b : BitVec 32
  c : BitVec 32
  d : BitVec 32
  e : BitVec 32
  f : BitVec 32
  g : BitVec 32
  h : BitVec 32
  tail : List Byte
  len : Nat
deriving DecidableEq, Repr

/-- The digest list being streamed (R29). -/
structure ListJob where
  /-- Region Table index of the region in LOADING. -/
  region : Nat
  /-- The list hash the entry carries. -/
  hash : List Byte
  /-- Bank-relative word location of the next piece. -/
  loc : Nat
  /-- Digests still to come. -/
  left : Nat
  /-- Digest Store index of the next digest's record. -/
  record : Nat
  /-- The running list hash. -/
  running : ShaCtx
deriving DecidableEq, Repr

/-- The delegation in the second phase of its judgement (R32). -/
structure DelegateJob where
  slot : Fin 8
  at_ : JudgeStep
  base : Nat
  count : Nat
  mask : ClassMask
  keyDigest : List Byte
deriving DecidableEq, Repr

/-- What the walker waits for at the Chunk Verifier. -/
inductive WalkJob where
  | none
  | list (j : ListJob)
  | delegate (j : DelegateJob)
deriving DecidableEq, Repr

/-- The Manifest Walker's state (R40). The top frame is the head of `stack`. -/
structure Walk where
  stack : List Frame
  keys : List KeyRecord
  outcome : Option WalkOutcome
  lastFault : Option (WalkFault × WalkRef)
  engineUsed : Bool
  job : WalkJob
deriving DecidableEq, Repr

/-! ## Region Table and Digest Store (R46, R51) -/

inductive RegionState where
  | loading
  | checking
  | complete
  | failed
deriving DecidableEq, Repr

/-- An IMAGE record (R46). -/
structure ImageRegion where
  imageId : Word
  cls : ImageClass
  signer : Nat
  base : Nat
  count : Nat
  first : Nat
  counter : Fin 8
  version : Nat
  engine : Bool
  state : RegionState
  good : Nat
  bad : Nat
deriving DecidableEq, Repr

/-- A DATA record (R46), its range in chunks. -/
structure DataRegion where
  signer : Nat
  base : Nat
  count : Nat
deriving DecidableEq, Repr

/-- A record of the Region Table. -/
inductive Region where
  | image (r : ImageRegion)
  | data (r : DataRegion)
deriving DecidableEq, Repr

inductive ChunkState where
  | unchecked
  | good
  | bad
deriving DecidableEq, Repr

/-- A record of the Digest Store (R51). -/
structure ChunkRecord where
  expected : Option (List Byte)
  owner : Nat
  state : ChunkState
deriving DecidableEq, Repr

/-- The Region Table and the Digest Store. The next free index is the length of `chunks`. -/
structure Tables where
  regions : List Region
  chunks : List ChunkRecord
deriving DecidableEq, Repr

/-! ## Scanner (R148) -/

/-- The purpose of a slot's claim (R66). -/
inductive Purpose where
  | demand
  | scan
  | patrol
  | manifest
  | list
deriving DecidableEq, Repr

inductive Pass where
  | none
  | first
  | patrol
  | patrolStopping
deriving DecidableEq, Repr

/-- The Scanner's cursor: a list position counted from 1 and a chunk index, or the end mark (R148). -/
inductive Cursor where
  | at_ (pos chunk : Nat)
  | endMark
deriving DecidableEq, Repr

/-- What the Scanner does at a position (R150, R155). -/
inductive ScanAction where
  | skipRegion
  | advance
  | claim (purpose : Purpose) (region : Nat)
deriving DecidableEq, Repr

structure Scan where
  list : List Nat
  pass : Pass
  cursor : Option Cursor
deriving DecidableEq, Repr

/-! ## Chunk Verifier (R63 to R84) -/

inductive SlotState where
  | free
  | filling
  | queued
  | hashing
  | held
deriving DecidableEq, Repr

/-- What a slot holds (R63): a region chunk by Region Table index and chunk index, or an intake piece by its
bank and the chunk of that bank its words come from. -/
inductive Content where
  | chunk (region index : Nat)
  | piece (bank : Bank) (chunk : Nat)
deriving DecidableEq, Repr

/-- A slot with its record (R63). A waiter is the held read with its word offset. -/
structure Slot where
  state : SlotState
  purpose : Option Purpose
  content : Option Content
  bursts : Nat
  order : Option Nat
  waiter : Option Nat
  flag : Bool
  buffer : Memory
deriving DecidableEq, Repr

/-- The pending demand (R71). -/
structure PendingDemand where
  region : Nat
  index : Nat
  waiter : Option Nat
deriving DecidableEq, Repr

/-- A check request of the signature unit (R82). -/
structure CheckRequest where
  slot : Fin 8
  spanHash : List Byte
deriving DecidableEq, Repr

structure Verifier where
  slots : Vector Slot 8
  hashQueue : List (Fin 8)
  engine : Option (Fin 8)
  checking : Option CheckRequest
  checkWaiting : Option CheckRequest
  pendingDemand : Option PendingDemand
deriving DecidableEq, Repr

/-- The answers to a claim (R67). -/
inductive ClaimResult where
  | taken (slot : Fin 8)
  | joined (slot : Fin 8)
  | pending
  | dropped
  | notMade
deriving DecidableEq, Repr

/-! ## Flash Arbiter (R85 to R97) -/

inductive BankCondition where
  | settling
  | idle
  | busy
deriving DecidableEq, Repr

/-- The classes a slot's burst request can carry (R86). -/
inductive BurstClass where
  | class3
  | class5
deriving DecidableEq, Repr

/-- Commands of the back flash (R92). -/
inductive SequenceKind where
  | program
  | erase
  | reset
deriving DecidableEq, Repr

/-- A word read for the Controller Port: Flash Port address, bank, and whether its Window Map class is
IMAGE_CHUNK (R91). -/
structure CpWordRequest where
  bank : Bank
  addr : Nat
  image : Bool
deriving DecidableEq, Repr

/-- A read-ahead word of the Engine Link: window word, bank and Flash Port address (R141). -/
structure ElWordRequest where
  window : Nat
  bank : Bank
  addr : Nat
deriving DecidableEq, Repr

/-- A command sequence: its writes at Flash Port addresses, in order (R85). -/
structure SequenceRequest where
  bank : Bank
  kind : SequenceKind
  writes : List (Nat × Word)
deriving DecidableEq, Repr

/-- A poll pair (R94). -/
structure PollRequest where
  bank : Bank
  addr : Nat
deriving DecidableEq, Repr

/-- The Controller Port's one request: a pass-through read or a forwarded sequence (R86). -/
inductive CpRequest where
  | read (r : CpWordRequest)
  | sequence (q : SequenceRequest)
deriving DecidableEq, Repr

/-- What becomes of the words of a granted burst: written to its slot; discarded while the burst runs to its
64th word (preemption, R90); discarded, the burst stopping at its next word boundary (abandonment, R90). -/
inductive BurstFate where
  | live
  | discard
  | stop
deriving DecidableEq, Repr

/-- A granted burst (R74, R85): its slot, bank, the Flash Port address of its first word, its number within the
fill, the words read, and what becomes of them. -/
structure Burst where
  slot : Fin 8
  bank : Bank
  base : Nat
  number : Nat
  read : Nat
  fate : BurstFate
deriving DecidableEq, Repr

/-- The access in progress (R85). `keep` is false where the word's requester no longer wants it. A poll pair
carries the word of its first read. -/
inductive Access where
  | cpRead (r : CpWordRequest) (keep : Bool)
  | elRead (r : ElWordRequest) (keep : Bool)
  | burst (b : Burst)
  | cpSequence (q : SequenceRequest)
  | maintenance (q : SequenceRequest)
  | settleSequence (q : SequenceRequest)
  | filterPoll (p : PollRequest) (first : Word)
  | settlePoll (p : PollRequest) (first : Word)
deriving DecidableEq, Repr

/-- What settling has to do next for its bank (R97). `sending` and `polling`: that access is on the port;
`retry`: the next poll pair comes at the next tick. -/
inductive SettleStep where
  | resetDue
  | sending
  | pollDue
  | polling
  | retry
deriving DecidableEq, Repr

structure Settle where
  bank : Bank
  step : SettleStep
deriving DecidableEq, Repr

/-- The judgement of a poll pair (R94). -/
inductive Judgement where
  | endedClean
  | endedError
  | running
deriving DecidableEq, Repr

structure Arbiter where
  cond0 : BankCondition
  cond1 : BankCondition
  access : Option Access
  cpWait : Option CpRequest
  elWait : Option ElWordRequest
  slotWait : Vector (Option BurstClass) 8
  pollWait : Option PollRequest
  maintWait : Option SequenceRequest
  suspended : Option Burst
  parked : Option Burst
  rr3 : Fin 8
  rr5 : Fin 8
  settle : Option Settle
deriving DecidableEq, Repr

/-! ## The back flash (R92, R93, R184) -/

/-- The operation a bank is RUNNING: its target at Flash Port addresses. -/
inductive FlashOp where
  | program (addr : Nat) (data : Word)
  | erase (sector : Nat)
deriving DecidableEq, Repr

inductive FlashMode where
  | array
  | running (op : FlashOp)
  | failed
deriving DecidableEq, Repr

/-- A bank of the flash: its mode and the TOGGLE value its next status read returns. -/
structure FlashBank where
  mode : FlashMode
  toggle : Bool
deriving DecidableEq, Repr

/-- The command sequence the flash is following (R92). -/
inductive FlashSequence where
  | none
  | enabled1 (bank : Bank)
  | enabled2 (bank : Bank)
  | programWait (bank : Bank)
  | eraseWait (bank : Bank)
deriving DecidableEq, Repr

structure Flash where
  /-- The array: word a is at byte addresses 2a and 2a + 1. -/
  cells : Memory
  bank0 : FlashBank
  bank1 : FlashBank
  following : FlashSequence
deriving DecidableEq, Repr

/-! ## Controller Port (R99, R100) -/

/-- The classes of the Window Map (spec/03, 3.3). -/
inductive WindowClass where
  | imageChunk
  | data
  | manifest
  | uncovered
  | inactive
  | outOfRange
  | unclassified
  | noMap
deriving DecidableEq, Repr

/-- The chunk a decode names: Region Table index, chunk index, Digest Store index, word offset (R57, R100). -/
structure ChunkRef where
  region : Nat
  index : Nat
  record : Nat
  offset : Nat
deriving DecidableEq, Repr

/-- What the Window Map answers for a Controller Port address (R56, R57, R60). -/
structure Decode where
  cls : WindowClass
  /-- Bank, bank-relative offset and Flash Port address; absent where the class has no flash word. -/
  loc : Option (Bank × Nat × Nat)
  /-- The Region Table index of the record that holds the chunk, for IMAGE_CHUNK and DATA. -/
  region : Option Nat
  /-- The chunk, for IMAGE_CHUNK. -/
  chunk : Option ChunkRef
  /-- The chunk's state at the decode, for IMAGE_CHUNK. -/
  state : Option ChunkState
deriving DecidableEq, Repr

/-- What the held read waits for (R100). -/
inductive HeldWait where
  | flash
  | proof
deriving DecidableEq, Repr

/-- The held read's record (R100). `bank` and `flash` are the word the decode gave at the arrival. -/
structure HeldRead where
  addr : Addr
  cls : WindowClass
  chunk : Option ChunkRef
  bank : Bank
  flash : Nat
  wait : HeldWait
deriving DecidableEq, Repr

/-- The access on the Controller Port (R99, R122). -/
inductive Port where
  /-- No access. -/
  | free
  /-- A read has been answered; its word is driven on CP_D until the access ends. -/
  | answered (word : Word)
  /-- A read is held, CP_READY low. -/
  | held (h : HeldRead)
  /-- A write has been taken with CP_READY high; its strobe has not risen. -/
  | written
  /-- The final write of a forwarded sequence is held, CP_READY low, until the sequence has been sent. -/
  | writeHeld
deriving DecidableEq, Repr

/-! ## Write Filter and bank wipe (R116, R122, R127, R130) -/

inductive TrackerState where
  | idle
  | en1
  | enabled
  | programWait
  | eraseWait
  | flashBusy
deriving DecidableEq, Repr

/-- An absorbed write (R116). -/
structure AbsorbedWrite where
  addr : Addr
  offset : Nat
  value : Word
deriving DecidableEq, Repr

structure Tracker where
  state : TrackerState
  bank : Option Bank
  writes : List AbsorbedWrite
deriving DecidableEq, Repr

inductive OperationOwner where
  | tracker
  | wipe
deriving DecidableEq, Repr

inductive OperationPhase where
  | sending
  | polling
  | recovering
deriving DecidableEq, Repr

/-- The operation in flight (spec/07, 7.3). `retry`: the next poll request comes at the next tick (R124). -/
structure Operation where
  owner : OperationOwner
  kind : SequenceKind
  bank : Bank
  pollAddr : Nat
  phase : OperationPhase
  retry : Bool
deriving DecidableEq, Repr

/-- Refusal reasons (R127). -/
inductive Reason where
  | activeImage
  | manifestSector
  | uncovered
  | updateLocked
  | wipeRunning
  | supplyLow
  | outOfRange
  | stray
  | flashBusy
deriving DecidableEq, Repr

/-- A capture record (R127). -/
structure Capture where
  reason : Reason
  addr : Addr
  value : Word
  boot : BootState
  gate : GateState
deriving DecidableEq, Repr

/-- How the tracker takes a write in EN1, ENABLED, PROGRAM_WAIT and ERASE_WAIT (R118, R119). -/
inductive TrackerStep where
  | absorb (next : TrackerState)
  | final (kind : SequenceKind)
  | breaks
deriving DecidableEq, Repr

structure Filter where
  tracker : Tracker
  op : Option Operation
  /-- The flag "last forwarded operation failed". -/
  failed : Bool
  violations : Nat
  capture : Option Capture
deriving DecidableEq, Repr

inductive WipeState where
  | off
  | waiting
  | erasing
  | suspended
  | clearing
  | failed
deriving DecidableEq, Repr

inductive WipeOutcome where
  | none
  | completed
  | failed
deriving DecidableEq, Repr

structure Wipe where
  state : WipeState
  k : Nat
  bank : Option Bank
  last : WipeOutcome
deriving DecidableEq, Repr

/-! ## Fuse Block (R171, R173) -/

inductive Lifecycle where
  | factory
  | deployed
deriving DecidableEq, Repr

inductive KeyState where
  | empty
  | active
  | revoked
deriving DecidableEq, Repr

structure KeySlot where
  state : KeyState
  digest : List Byte
deriving DecidableEq, Repr

/-- Items of the fuse work list (R167). -/
inductive FuseItem where
  | commit
  | undemote
  | demote
deriving DecidableEq, Repr

/-- The operation the programmer performs (R173), with what it fixed at its beginning: COMMIT the counters
still below their targets, in ascending index order; DEMOTE the bank (R175). -/
inductive FuseOp where
  | commit (todo : List (Fin 8 × Nat))
  | demote (bank : Option Bank)
  | undemote
  | lockClear
  | lockSet
  | provision (slot : Fin 4) (digest : List Byte)
  | revoke (slot : Fin 4)
  | close
deriving DecidableEq, Repr

structure Fuse where
  lifecycle : Lifecycle
  keys : Vector KeySlot 4
  counters : Vector Nat 8
  lock : Bool
  demoted : Option Bank
  op : Option FuseOp
  work : List FuseItem
  lockClear : Bool
deriving DecidableEq, Repr

/-! ## Engine Link (R137, R138, R141) and Service Link (R176) -/

/-- The phases of an Engine Link frame (R138). READ_DATA holds the next byte address p and whether a window
existed when it was reached; STATUS_OUT the captured UNDER; IDENT_OUT the IDENT bytes still to be sent. -/
inductive ElPhase where
  | none
  | command
  | address
  | readData (p : Nat) (window : Bool)
  | statusOut (under : Bool)
  | identOut (left : List Byte)
  | discard
deriving DecidableEq, Repr

/-- The ahead buffer (R141). -/
inductive Ahead where
  | empty
  | pending (word : Nat)
  | held (word : Nat) (value : Word)
deriving DecidableEq, Repr

structure EngineLink where
  /-- EL_SEL# is low. -/
  selected : Bool
  phase : ElPhase
  /-- The byte chosen at the last boundary, which EL_DOUT sends (EngineLink.dout); 0xFF while not selected. -/
  out : Byte
  latch : Option (Nat × Word)
  ahead : Ahead
  under : Bool
deriving DecidableEq, Repr

/-- A Service Link frame (R176): receiving until its decision event; then its result and record bytes, after
which, and in place of which where the frame was discarded, 0x00 is sent. -/
inductive SlFrame where
  | none
  | receiving
  | decided (response : List Byte)
deriving DecidableEq, Repr

structure ServiceLink where
  /-- SL_SEL# is low. -/
  selected : Bool
  frame : SlFrame
deriving DecidableEq, Repr

/-! ## The machine -/

/-- The state of the part, of the back flash and of the queue of commands. -/
structure State where
  lines : Lines
  boot : Boot
  gate : Gate
  alerts : Alerts
  timer : Timer
  walk : Walk
  tables : Tables
  scan : Scan
  verifier : Verifier
  arbiter : Arbiter
  flash : Flash
  port : Port
  filter : Filter
  wipe : Wipe
  fuse : Fuse
  el : EngineLink
  sl : ServiceLink
  /-- The commands waiting, first in, first out (the task's interface). -/
  pending : List Instr
deriving DecidableEq, Repr

/-- The faults of a step. None: the spec names no event that stops the part (INVENTORY.md, Faults), and no meaning
raises one; the type has no constructor, which is safe. -/
inductive Fault where
deriving DecidableEq, Repr

/-- The refusals of a step. -/
inductive Refusal where
  /-- Raised by exec's arm of a command that has no meaning yet, with its mnemonic; safe. No arm raises it now. -/
  | notModelled (mnemonic : String)
deriving DecidableEq, Repr

/-! ## Values after part reset -/

/-- The parameters' reset values (R6). -/
def Params.reset : Params :=
  { fillWord := 0xFFFF#16, halfPeriod := 0, bootDeadline := 0, patrolInterval := 0,
    overflowStrict := false, holdFill := false,
    mask := { bad := true, late := true, violation := true, supplyLow := true } }

/-- The parameters TRANSPARENT uses (R19). -/
def Params.transparent : Params := { Params.reset with halfPeriod := 16 }

/-- A slot after part reset (R63); its buffer's words are the model's choice (log 18). -/
def Slot.reset : Slot :=
  { state := .free, purpose := none, content := none, bursts := 0, order := none, waiter := none, flag := false,
    buffer := [] }

/-- R84. -/
def Verifier.reset : Verifier :=
  { slots := Vector.replicate 8 Slot.reset, hashQueue := [], engine := none, checking := none,
    checkWaiting := none, pendingDemand := none }

/-- R40. -/
def Walk.reset : Walk :=
  { stack := [], keys := [], outcome := none, lastFault := none, engineUsed := false, job := .none }

/-- R62. -/
def Tables.reset : Tables := { regions := [], chunks := [] }

/-- R148. -/
def Scan.reset : Scan := { list := [], pass := .none, cursor := none }

/-- R85, R97: both banks SETTLING, settling about to send bank 0 its RESET sequence. -/
def Arbiter.reset : Arbiter :=
  { cond0 := .settling, cond1 := .settling, access := none, cpWait := none, elWait := none,
    slotWait := Vector.replicate 8 none, pollWait := none, maintWait := none, suspended := none, parked := none,
    rr3 := 7, rr5 := 7, settle := some { bank := .bank0, step := .resetDue } }

/-- R136. -/
def Filter.reset : Filter :=
  { tracker := { state := .idle, bank := none, writes := [] }, op := none, failed := false, violations := 0,
    capture := none }

/-- R130. -/
def Wipe.reset : Wipe := { state := .off, k := 0, bank := none, last := .none }

/-- R158, R162. That the clock of a CLOSED gate has the count 0 is the model's choice (log 37). -/
def Gate.reset : Gate := { state := .closed, cause := none, pgate := false, count := 0, fresh := false }

/-- R5, R165: RUNNING, 0 of 2^20, INTAKE. -/
def Timer.reset : Timer := { counter := 0, compare := 2 ^ 20, running := true, purpose := .intake }

/-- R5: the Boot Controller of a DEPLOYED part when its reset ends, before the Manifest Walker's first claims. -/
def Boot.reset : Boot :=
  { state := .selecting, active := none, candidates := [], current := none, reserve := none,
    params := Params.reset, root0 := .notJudged, root1 := .notJudged }

/-- The cells as delivered, the programmer after part reset (R171, R181). -/
def Fuse.delivered : Fuse :=
  { lifecycle := .factory, keys := Vector.replicate 4 { state := .empty, digest := List.replicate 32 0#8 },
    counters := Vector.replicate 8 0, lock := false, demoted := none, op := none, work := [], lockClear := false }

/-- The flash at power-up (R93), nothing written yet (log 7). -/
def Flash.powerUp : Flash :=
  { cells := [], bank0 := { mode := .array, toggle := false }, bank1 := { mode := .array, toggle := false },
    following := .none }

/-- R147. -/
def EngineLink.reset : EngineLink :=
  { selected := false, phase := .none, out := 0xFF#8, latch := none, ahead := .empty, under := false }

/-- R181. -/
def ServiceLink.reset : ServiceLink := { selected := false, frame := .none }

/-- The machine right after reset: a part as delivered whose first power-on reset has just ended, with both FSZ
and both SWL straps low and the supply above the warning level (log 18). Its lifecycle is FACTORY, so it is in
TRANSPARENT: both processors released, the gate OPEN, the timer stopped (R5, R19). -/
def State.reset : State :=
  { lines := { inReset := false, cause := .powerOn, nrstLow := false, belowBrownOut := false, crstIn := false,
               crstOut := false, erstOut := false, fsz := 0#2, swl := 0#2 }
    boot := { Boot.reset with state := .transparent, params := Params.transparent }
    gate := { Gate.reset with state := .opened, fresh := true }
    alerts := { bad := false, late := false, violation := false, supplyLow := false, noBank := false }
    timer := { Timer.reset with running := false }
    walk := Walk.reset
    tables := Tables.reset
    scan := Scan.reset
    verifier := Verifier.reset
    arbiter := Arbiter.reset
    flash := Flash.powerUp
    port := .free
    filter := Filter.reset
    wipe := Wipe.reset
    fuse := Fuse.delivered
    el := EngineLink.reset
    sl := ServiceLink.reset
    pending := [] }

/-! ## Replacing one block -/

def State.withLines (s : State) (v : Lines) : State := { s with lines := v }
def State.withBoot (s : State) (v : Boot) : State := { s with boot := v }
def State.withGate (s : State) (v : Gate) : State := { s with gate := v }
def State.withAlerts (s : State) (v : Alerts) : State := { s with alerts := v }
def State.withTimer (s : State) (v : Timer) : State := { s with timer := v }
def State.withWalk (s : State) (v : Walk) : State := { s with walk := v }
def State.withTables (s : State) (v : Tables) : State := { s with tables := v }
def State.withScan (s : State) (v : Scan) : State := { s with scan := v }
def State.withVerifier (s : State) (v : Verifier) : State := { s with verifier := v }
def State.withArbiter (s : State) (v : Arbiter) : State := { s with arbiter := v }
def State.withFlash (s : State) (v : Flash) : State := { s with flash := v }
def State.withPort (s : State) (v : Port) : State := { s with port := v }
def State.withFilter (s : State) (v : Filter) : State := { s with filter := v }
def State.withWipe (s : State) (v : Wipe) : State := { s with wipe := v }
def State.withFuse (s : State) (v : Fuse) : State := { s with fuse := v }
def State.withEl (s : State) (v : EngineLink) : State := { s with el := v }
def State.withSl (s : State) (v : ServiceLink) : State := { s with sl := v }
def State.withPending (s : State) (v : List Instr) : State := { s with pending := v }

end Sys2Proof.Machine
end

