-- ==== Sys2Proof/Machine/Ops.lean ====
section
/-! DEFINITION. Named operations over memory, words, banks and slots; the geometry of the flash (R1, R2). -/

namespace Sys2Proof.Machine

/-! ## Sparse memory in canonical form

`d` is what an unlisted address reads as: 0xFF in the flash array (log 7), 0x00 in a slot buffer (log 18). -/

/-- The byte at an address. -/
def Memory.read (d : Byte) : Memory → Nat → Byte
  | [], _ => d
  | (k, v) :: m, a => if k = a then v else Memory.read d m a

/-- Replaces the byte at an address, keeping the form: writing `d` removes the entry. -/
def Memory.write (d : Byte) : Memory → Nat → Byte → Memory
  | [], a, v => if v = d then [] else [(a, v)]
  | (k, w) :: m, a, v =>
    if a < k then (if v = d then (k, w) :: m else (a, v) :: (k, w) :: m)
    else if a = k then (if v = d then m else (k, v) :: m)
    else (k, w) :: Memory.write d m a v

/-- Every listed address is above `lo` and rising, and no listed byte is `d`. -/
def Memory.wfAbove (d : Byte) : Option Nat → Memory → Bool
  | _, [] => true
  | lo, (k, v) :: m =>
    (match lo with | none => true | some l => decide (l < k)) && decide (v ≠ d) && Memory.wfAbove d (some k) m

/-- The canonical form. -/
def Memory.wf (d : Byte) (m : Memory) : Bool := Memory.wfAbove d none m

/-- Every byte address from `lo` up to but not including `hi` reads as an unlisted one. -/
def Memory.clear (m : Memory) (lo hi : Nat) : Memory := m.filter fun c => decide (c.1 < lo) || decide (hi ≤ c.1)

/-- The word at a word address: its low byte at the lower byte address (00_scope.md, Byte order). -/
def Memory.readWord (d : Byte) (m : Memory) (a : Nat) : Word :=
  (Memory.read d m (2 * a + 1)) ++ (Memory.read d m (2 * a))

def lowByte (w : Word) : Byte := w.extractLsb' 0 8

def highByte (w : Word) : Byte := w.extractLsb' 8 8

/-- Replaces the word at a word address. -/
def Memory.writeWord (d : Byte) (m : Memory) (a : Nat) (w : Word) : Memory :=
  Memory.write d (Memory.write d m (2 * a) (lowByte w)) (2 * a + 1) (highByte w)

/-- Replaces words from a word address upward. -/
def Memory.writeWords (d : Byte) : Memory → Nat → List Word → Memory
  | m, _, [] => m
  | m, a, w :: ws => Memory.writeWords d (Memory.writeWord d m a w) (a + 1) ws

/-- `n` bytes from a byte address upward. -/
def Memory.bytes (d : Byte) (m : Memory) (start : Nat) : Nat → List Byte
  | 0 => []
  | n + 1 => Memory.read d m start :: Memory.bytes d m (start + 1) n

/-- What an unlisted byte of the flash array reads as (log 7). -/
def flashDefault : Byte := 0xFF#8

/-- What an unlisted byte of a slot buffer reads as (log 18). -/
def bufferDefault : Byte := 0x00#8

/-! ## Numbers from bytes -/

/-- A little-endian number (00_scope.md, Byte order). -/
def leNat : List Byte → Nat
  | [] => 0
  | b :: bs => b.toNat + 256 * leNat bs

/-- A big-endian number. -/
def beNat (bs : List Byte) : Nat := leNat bs.reverse

/-- The `n` low bytes of a number, low byte first. -/
def leBytes : Nat → Nat → List Byte
  | 0, _ => []
  | n + 1, v => BitVec.ofNat 8 v :: leBytes n (v / 256)

/-! ## Banks and geometry (R1, R2) -/

def Bank.toNat : Bank → Nat
  | .bank0 => 0
  | .bank1 => 1

def Bank.other : Bank → Bank
  | .bank0 => .bank1
  | .bank1 => .bank0

/-- B, the words per bank. -/
def bankWords (fsz : BitVec 2) : Nat := 2 ^ 20 * 2 ^ fsz.toNat

def bankSectors (fsz : BitVec 2) : Nat := 32 * 2 ^ fsz.toNat

def bankChunks (fsz : BitVec 2) : Nat := 512 * 2 ^ fsz.toNat

/-- The first chunk of the manifest sector. -/
def manifestChunk (fsz : BitVec 2) : Nat := bankChunks fsz - 16

def State.bankWords (s : State) : Nat := Machine.bankWords s.lines.fsz

/-- Flash Port address of a bank-relative word (R1). -/
def State.flashAddr (s : State) (b : Bank) (offset : Nat) : Nat := b.toNat * s.bankWords + offset

/-- The bank a Flash Port address lies in. -/
def bankOfFlash (words addr : Nat) : Bank := if addr < words then .bank0 else .bank1

/-- Words of a chunk. -/
def chunkWords : Nat := 2048

/-- Words of a burst (R74). -/
def burstWords : Nat := 64

/-- The part acts: it is not in a part reset and not HALTED (R3, R18). -/
def State.live (s : State) : Bool := !s.lines.inReset && decide (s.boot.state ≠ .halted)

/-! ## Slots -/

def allSlots : List (Fin 8) := [0, 1, 2, 3, 4, 5, 6, 7]

def State.slot (s : State) (i : Fin 8) : Slot := s.verifier.slots[i]

def State.setSlot (s : State) (i : Fin 8) (v : Slot) : State :=
  s.withVerifier { s.verifier with slots := s.verifier.slots.set i v }

/-- Changes every slot record; written out, so that the kernel evaluates it. -/
def mapSlots (f : Slot → Slot) (v : Vector Slot 8) : Vector Slot 8 :=
  #v[f v[0], f v[1], f v[2], f v[3], f v[4], f v[5], f v[6], f v[7]]

/-- In use: any state but FREE (R64). -/
def Slot.inUse (v : Slot) : Bool := decide (v.state ≠ .free)

/-- The lowest-numbered FREE slot (R69). -/
def State.lowestFree (s : State) : Option (Fin 8) := allSlots.find? fun i => !(s.slot i).inUse

/-- How many slots are in use (R65). -/
def State.inUseCount (s : State) : Nat := allSlots.countP fun i => (s.slot i).inUse

end Sys2Proof.Machine
end

