-- ==== Sys2Proof/Machine/FlashArray.lean ====
section
/-! DEFINITION. The back flash: its command scheme, its modes and its answers (R92, R93, R184). `words` is B, the
words per bank. -/

namespace Sys2Proof.Machine

def Flash.bank (f : Flash) : Bank → FlashBank
  | .bank0 => f.bank0
  | .bank1 => f.bank1

def Flash.setBank (f : Flash) (b : Bank) (v : FlashBank) : Flash :=
  match b with
  | .bank0 => { f with bank0 := v }
  | .bank1 => { f with bank1 := v }

def FlashBank.isRunning (b : FlashBank) : Bool :=
  match b.mode with
  | .running _ => true
  | .array => false
  | .failed => false

/-- The array word at a Flash Port address. -/
def Flash.arrayWord (f : Flash) (addr : Nat) : Word := Memory.readWord flashDefault f.cells addr

/-- The status word's TOGGLE bit (R184). -/
def toggleBit (t : Bool) : Word := if t then 0x0008#16 else 0x0000#16

/-- One read of the flash: the word, and the flash after it. In RUNNING and FAILED the word is the status word and
TOGGLE takes its other value for the bank's next read (R93, R184). -/
def Flash.read (words : Nat) (f : Flash) (addr : Nat) : Word × Flash :=
  let b := bankOfFlash words addr
  let k := f.bank b
  match k.mode with
  | .array => (f.arrayWord addr, f)
  | .running _ => (0x1000#16 ||| toggleBit k.toggle, f.setBank b { k with toggle := !k.toggle })
  | .failed => (0x0200#16 ||| toggleBit k.toggle, f.setBank b { k with toggle := !k.toggle })

/-- Offset and value of the first enable (R92). -/
def isFirstEnable (offset : Nat) (value : Word) : Bool := decide (offset = 0x1E00) && decide (value = 0x5A3C#16)

/-- Offset and value of the second enable (R92). -/
def isSecondEnable (offset : Nat) (value : Word) : Bool := decide (offset = 0x0E1E) && decide (value = 0xA5C3#16)

/-- The final write of a PROGRAM or ERASE. It is ignored unless its bank is in ARRAY and no bank is RUNNING (R93);
the first status read after it returns TOGGLE 0 (R184). -/
def Flash.start (f : Flash) (b : Bank) (op : FlashOp) : Flash :=
  let f := { f with following := .none }
  if f.bank0.isRunning || f.bank1.isRunning then f
  else match (f.bank b).mode with
    | .array => f.setBank b { mode := .running op, toggle := false }
    | .running _ => f
    | .failed => f

/-- The final write of a RESET: FAILED goes to ARRAY, ARRAY stays (R93). -/
def Flash.resetBank (f : Flash) (b : Bank) : Flash :=
  let f := { f with following := .none }
  match (f.bank b).mode with
  | .failed => f.setBank b { (f.bank b) with mode := .array }
  | .array => f
  | .running _ => f

/-- One write of the flash (R92): it continues the sequence the flash is following, or ends it and is taken as the
first write of a new one. A bank in RUNNING ignores every write (R93). -/
def Flash.write (words : Nat) (f : Flash) (addr : Nat) (value : Word) : Flash :=
  let b := bankOfFlash words addr
  let offset := addr - b.toNat * words
  let afresh : Flash := { f with following := if isFirstEnable offset value then .enabled1 b else .none }
  if (f.bank b).isRunning then f
  else match f.following with
    | .none => afresh
    | .enabled1 b' => if b = b' ∧ isSecondEnable offset value then { f with following := .enabled2 b } else afresh
    | .enabled2 b' =>
      if b = b' ∧ offset = 0x1E00 then
        if value = 0x0071#16 then { f with following := .programWait b }
        else if value = 0x0026#16 then { f with following := .eraseWait b }
        else if value = 0x00F5#16 then f.resetBank b
        else afresh
      else afresh
    | .programWait b' => if b = b' then f.start b (.program addr value) else afresh
    | .eraseWait b' =>
      if b = b' ∧ value = 0x00D9#16 then f.start b (.erase (addr / 32768 * 32768)) else afresh

/-- The writes of a sequence, in order. -/
def Flash.writes (words : Nat) : Flash → List (Nat × Word) → Flash
  | f, [] => f
  | f, (a, v) :: ws => Flash.writes words (f.write words a v) ws

/-- What an operation that did not complete leaves: `left` holds the words from its target upward, at most the
target's one word or sector; words it does not name stay as they stood (log 8). -/
def Flash.leave (f : Flash) (op : FlashOp) (left : List Word) : Flash :=
  match op with
  | .program addr _ => { f with cells := Memory.writeWords flashDefault f.cells addr (left.take 1) }
  | .erase sector => { f with cells := Memory.writeWords flashDefault f.cells sector (left.take 32768) }

/-- A RUNNING bank's operation ends (R92, R93). A PROGRAM whose data has a 1 where the word holds a 0 always ends
with ERROR, the word ANDed with the data. Else `error` says whether the flash could complete the operation. -/
def Flash.endOp (f : Flash) (b : Bank) (op : FlashOp) (error : Bool) (left : List Word) : Flash :=
  let k := f.bank b
  let failed := { k with mode := .failed }
  let clean := { k with mode := .array }
  match op with
  | .program addr data =>
    let old := f.arrayWord addr
    let now := old &&& data
    if now ≠ data then
      ({ f with cells := Memory.writeWord flashDefault f.cells addr now }).setBank b failed
    else if error then (f.leave op left).setBank b failed
    else ({ f with cells := Memory.writeWord flashDefault f.cells addr now }).setBank b clean
  | .erase sector =>
    if error then (f.leave op left).setBank b failed
    else ({ f with cells := Memory.clear f.cells (2 * sector) (2 * (sector + 32768)) }).setBank b clean

/-- The bank that is RUNNING with its operation; at most one is (R93). -/
def Flash.runningOp (f : Flash) : Option (Bank × FlashOp) :=
  match f.bank0.mode with
  | .running op => some (.bank0, op)
  | .array | .failed =>
    match f.bank1.mode with
    | .running op => some (.bank1, op)
    | .array | .failed => none

/-- The flash's own power-up (R93): both banks in ARRAY, no sequence followed; `left` is what an operation cut off by
the loss of supply left at its target (log 8). -/
def Flash.powerCycle (f : Flash) (left : List Word) : Flash :=
  let g := match f.runningOp with
    | some (_, op) => f.leave op left
    | none => f
  { g with bank0 := { mode := .array, toggle := false }, bank1 := { mode := .array, toggle := false },
           following := .none }

end Sys2Proof.Machine
end

