-- ==== Sys2Proof/Machine/Sha256.lean ====
section
/-! DEFINITION. SHA-256, as its published standard FIPS 180-4 defines it (00_scope.md, What this manual covers;
PRESUMED from the standard, log 10). Bytes are taken one at a time, so that a running list hash (R29) is a value of
the state. -/

namespace Sys2Proof.Machine

/-- The constants K of FIPS 180-4, 4.2.2. -/
def shaK1 : List (BitVec 32) :=
  [0x428a2f98#32, 0x71374491#32, 0xb5c0fbcf#32, 0xe9b5dba5#32, 0x3956c25b#32, 0x59f111f1#32, 0x923f82a4#32,
   0xab1c5ed5#32, 0xd807aa98#32, 0x12835b01#32, 0x243185be#32, 0x550c7dc3#32, 0x72be5d74#32, 0x80deb1fe#32,
   0x9bdc06a7#32, 0xc19bf174#32]
def shaK2 : List (BitVec 32) :=
  [0xe49b69c1#32, 0xefbe4786#32, 0x0fc19dc6#32, 0x240ca1cc#32, 0x2de92c6f#32, 0x4a7484aa#32, 0x5cb0a9dc#32,
   0x76f988da#32, 0x983e5152#32, 0xa831c66d#32, 0xb00327c8#32, 0xbf597fc7#32, 0xc6e00bf3#32, 0xd5a79147#32,
   0x06ca6351#32, 0x14292967#32]
def shaK3 : List (BitVec 32) :=
  [0x27b70a85#32, 0x2e1b2138#32, 0x4d2c6dfc#32, 0x53380d13#32, 0x650a7354#32, 0x766a0abb#32, 0x81c2c92e#32,
   0x92722c85#32, 0xa2bfe8a1#32, 0xa81a664b#32, 0xc24b8b70#32, 0xc76c51a3#32, 0xd192e819#32, 0xd6990624#32,
   0xf40e3585#32, 0x106aa070#32]
def shaK4 : List (BitVec 32) :=
  [0x19a4c116#32, 0x1e376c08#32, 0x2748774c#32, 0x34b0bcb5#32, 0x391c0cb3#32, 0x4ed8aa4a#32, 0x5b9cca4f#32,
   0x682e6ff3#32, 0x748f82ee#32, 0x78a5636f#32, 0x84c87814#32, 0x8cc70208#32, 0x90befffa#32, 0xa4506ceb#32,
   0xbef9a3f7#32, 0xc67178f2#32]
def shaK : List (BitVec 32) := shaK1 ++ shaK2 ++ shaK3 ++ shaK4

/-- FIPS 180-4, 5.3.3. -/
def shaInit : ShaCtx :=
  { a := 0x6a09e667#32, b := 0xbb67ae85#32, c := 0x3c6ef372#32, d := 0xa54ff53a#32,
    e := 0x510e527f#32, f := 0x9b05688c#32, g := 0x1f83d9ab#32, h := 0x5be0cd19#32, tail := [], len := 0 }

/-- The four bytes of a word, most significant first. -/
def shaWordBytes (w : BitVec 32) : List Byte :=
  [w.extractLsb' 24 8, w.extractLsb' 16 8, w.extractLsb' 8 8, w.extractLsb' 0 8]

/-- The words of a block, each from four bytes, most significant first. -/
def shaWords : List Byte → List (BitVec 32)
  | b0 :: b1 :: b2 :: b3 :: bs => (b0 ++ b1 ++ b2 ++ b3 : BitVec 32) :: shaWords bs
  | _ => []

/-- The schedule word that follows a window of 16 (FIPS 180-4, 6.2.2 step 1). -/
def shaNextWord (win : List (BitVec 32)) : BitVec 32 :=
  let w0 := win.getD 0 0
  let w1 := win.getD 1 0
  let w9 := win.getD 9 0
  let w14 := win.getD 14 0
  let s0 := w1.rotateRight 7 ^^^ w1.rotateRight 18 ^^^ (w1 >>> 3)
  let s1 := w14.rotateRight 17 ^^^ w14.rotateRight 19 ^^^ (w14 >>> 10)
  s1 + w9 + s0 + w0

/-- The 64 rounds (FIPS 180-4, 6.2.2 step 3), the window holding the schedule words from this round on. -/
def shaRounds : List (BitVec 32) → List (BitVec 32) → ShaCtx → ShaCtx
  | [], _, x => x
  | k :: ks, win, x =>
    let ch := (x.e &&& x.f) ^^^ (~~~x.e &&& x.g)
    let maj := (x.a &&& x.b) ^^^ (x.a &&& x.c) ^^^ (x.b &&& x.c)
    let e1 := x.e.rotateRight 6 ^^^ x.e.rotateRight 11 ^^^ x.e.rotateRight 25
    let e0 := x.a.rotateRight 2 ^^^ x.a.rotateRight 13 ^^^ x.a.rotateRight 22
    let t1 := x.h + e1 + ch + k + win.getD 0 0
    shaRounds ks (win.drop 1 ++ [shaNextWord win])
      { x with a := t1 + (e0 + maj), b := x.a, c := x.b, d := x.c, e := x.d + t1, f := x.e, g := x.f, h := x.g }

/-- One block of 64 bytes taken into the chaining value (FIPS 180-4, 6.2.2). -/
def shaBlock (x : ShaCtx) (block : List Byte) : ShaCtx :=
  let y := shaRounds shaK (shaWords block) x
  { x with a := x.a + y.a, b := x.b + y.b, c := x.c + y.c, d := x.d + y.d,
           e := x.e + y.e, f := x.f + y.f, g := x.g + y.g, h := x.h + y.h }

/-- One more byte of the message. -/
def shaByte (x : ShaCtx) (v : Byte) : ShaCtx :=
  let t := x.tail ++ [v]
  if t.length = 64 then { shaBlock x t with tail := [], len := x.len + 1 }
  else { x with tail := t, len := x.len + 1 }

/-- More bytes of the message. -/
def shaUpdate : ShaCtx → List Byte → ShaCtx
  | x, [] => x
  | x, v :: vs => shaUpdate (shaByte x v) vs

/-- The padding of a message of `len` bytes (FIPS 180-4, 5.1.1). -/
def shaPadding (len : Nat) : List Byte :=
  0x80#8 :: (List.replicate ((119 - len % 64) % 64) 0x00#8 ++ (leBytes 8 (8 * len)).reverse)

/-- The 32 digest bytes of the message taken so far. -/
def shaFinish (x : ShaCtx) : List Byte :=
  let y := shaUpdate x (shaPadding x.len)
  shaWordBytes y.a ++ shaWordBytes y.b ++ shaWordBytes y.c ++ shaWordBytes y.d ++
  shaWordBytes y.e ++ shaWordBytes y.f ++ shaWordBytes y.g ++ shaWordBytes y.h

/-- SHA-256 of a whole message. -/
def sha256 (message : List Byte) : List Byte := shaFinish (shaUpdate shaInit message)

/-- A chunk digest: the first 16 bytes of SHA-256 (R53, R183). -/
def chunkDigest (bytes : List Byte) : List Byte := (sha256 bytes).take 16

end Sys2Proof.Machine
end

