-- ==== Sys2Proof/Machine/Operands.lean ====
section
/-! DEFINITION. What the part reads out of bytes and addresses: the fields of a manifest held in a slot buffer (R182,
R183), the Window Map (R56 to R61), and the engine window (R140). -/

namespace Sys2Proof.Machine

/-! ## Manifest fields (R182) -/

/-- The `n` bytes of a buffer from byte offset `off`. -/
def manifestBytes (m : Memory) (off n : Nat) : List Byte := Memory.bytes bufferDefault m off n

/-- A little-endian field of `n` bytes at byte offset `off`. -/
def manifestField (m : Memory) (off n : Nat) : Nat := leNat (manifestBytes m off n)

def manifestMagic (m : Memory) : Nat := manifestField m 0 4
def manifestFormat (m : Memory) : Nat := manifestField m 4 2
def manifestCount (m : Memory) : Nat := manifestField m 6 1
def manifestHalfPeriod (m : Memory) : Nat := manifestField m 7 1
def manifestSequence (m : Memory) : Nat := manifestField m 8 4
def manifestFlag (m : Memory) (bit : Nat) : Bool := (manifestField m 12 2).testBit bit
def manifestFillWord (m : Memory) : Word := BitVec.ofNat 16 (manifestField m 14 2)
def manifestDeadline (m : Memory) : Nat := manifestField m 16 3
def manifestInterval (m : Memory) : Nat := manifestField m 19 3
def manifestKey (m : Memory) : List Byte := manifestBytes m 64 64

/-- The signed span: the magic through the last entry (R183). -/
def manifestSpan (m : Memory) : List Byte := manifestBytes m 0 (128 + 64 * manifestCount m)

/-- The 64 signature bytes, after the last entry (R183). -/
def manifestSignature (m : Memory) : List Byte := manifestBytes m (128 + 64 * manifestCount m) 64

def rootMagic : Nat := 0x36A30E51
def delegateMagic : Nat := 0x36A30ED7
def manifestFormatValue : Nat := 0x0001

/-- The operating parameters of a root manifest (R6, R182). -/
def manifestParams (m : Memory) : Params :=
  { fillWord := manifestFillWord m, halfPeriod := manifestHalfPeriod m, bootDeadline := manifestDeadline m,
    patrolInterval := manifestInterval m, overflowStrict := manifestFlag m 0, holdFill := manifestFlag m 1,
    mask := { bad := manifestFlag m 4, late := manifestFlag m 5, violation := manifestFlag m 6,
              supplyLow := manifestFlag m 7 } }

/-! ## Manifest entries (R183) -/

/-- A little-endian field of entry `i`, `off` bytes into it. -/
def entryField (m : Memory) (i off n : Nat) : Nat := manifestField m (128 + 64 * i + off) n

def entryKind (m : Memory) (i : Nat) : Nat := entryField m i 0 1
def kindImage : Nat := 0x01
def kindData : Nat := 0x02
def kindDelegate : Nat := 0x03

/-- The class of an IMAGE entry; none for a class byte outside 0x01 to 0x03. -/
def entryClass (m : Memory) (i : Nat) : Option ImageClass :=
  match entryField m i 1 1 with
  | 1 => some .boot
  | 2 => some .print
  | 3 => some .optional
  | _ => none

def entryCounter (m : Memory) (i : Nat) : Nat := entryField m i 2 1
def entryVersion (m : Memory) (i : Nat) : Nat := entryField m i 3 1
def entryEngine (m : Memory) (i : Nat) : Bool := (entryField m i 4 1).testBit 0
def entryImageId (m : Memory) (i : Nat) : Word := BitVec.ofNat 16 (entryField m i 6 2)
def entryBase (m : Memory) (i : Nat) : Nat := entryField m i 8 2
def entryCount (m : Memory) (i : Nat) : Nat := entryField m i 10 2
def entryListLoc (m : Memory) (i : Nat) : Nat := entryField m i 12 4
def entryDigest (m : Memory) (i : Nat) : List Byte := manifestBytes m (128 + 64 * i + 32) 32
def entryBaseSector (m : Memory) (i : Nat) : Nat := entryField m i 4 2
def entrySectorCount (m : Memory) (i : Nat) : Nat := entryField m i 6 2
def entryManifestLoc (m : Memory) (i : Nat) : Nat := entryField m i 4 4

/-- The class mask of a DELEGATE entry. -/
def entryMask (m : Memory) (i : Nat) : ClassMask :=
  let v := entryField m i 1 1
  { boot := v.testBit 0, print := v.testBit 1, optional := v.testBit 2 }

def ClassMask.has (k : ClassMask) : ImageClass → Bool
  | .boot => k.boot
  | .print => k.print
  | .optional => k.optional

/-- Every class of `k` is in `l` (R32). -/
def ClassMask.inside (k l : ClassMask) : Bool :=
  (!k.boot || l.boot) && (!k.print || l.print) && (!k.optional || l.optional)

/-- A range of chunks lies inside another (R27). -/
def rangeInside (base count scopeBase scopeCount : Nat) : Bool :=
  decide (scopeBase ≤ base) && decide (base + count ≤ scopeBase + scopeCount)

/-- One entry has a valid kind and, if it is an IMAGE entry, a counter index of at most 7 and a version of at most 63
(check 4 of R8, check 5 of R32). -/
def entryFormed (m : Memory) (i : Nat) : Bool :=
  if entryKind m i = kindImage then decide (entryCounter m i ≤ 7) && decide (entryVersion m i ≤ 63)
  else decide (entryKind m i = kindData) || decide (entryKind m i = kindDelegate)

/-- Every entry is formed. -/
def entriesFormed (m : Memory) : Bool := (List.range (manifestCount m)).all (entryFormed m)

/-- A rollback counter by its number; numbers above 7 name none and do not reach a check. -/
def Fuse.counter (f : Fuse) (i : Nat) : Nat := f.counters.toList.getD i 0

/-- An IMAGE entry's version is not behind its rollback counter (check 5 of R8, check 1 of R27). -/
def entryFresh (f : Fuse) (m : Memory) (i : Nat) : Bool := decide (f.counter (entryCounter m i) ≤ entryVersion m i)

/-- Checks 1 to 5 of R8 on the bytes of a root manifest. -/
def rootChecks (f : Fuse) (m : Memory) : Bool :=
  decide (manifestMagic m = rootMagic) && decide (manifestFormat m = manifestFormatValue) &&
  decide (1 ≤ manifestCount m) && decide (manifestCount m ≤ 32) &&
  decide (manifestDeadline m ≠ 0) && decide (manifestHalfPeriod m ≠ 0) &&
  entriesFormed m &&
  (List.range (manifestCount m)).all fun i => decide (entryKind m i ≠ kindImage) || entryFresh f m i

/-- Checks 4 and 5 of R32 on the bytes of a delegate manifest. -/
def delegateChecks (m : Memory) : Bool :=
  decide (manifestMagic m = delegateMagic) && decide (manifestFormat m = manifestFormatValue) &&
  decide (1 ≤ manifestCount m) && decide (manifestCount m ≤ 32) && entriesFormed m

/-- Check 6 of R8: a key digest equals the digest of an ACTIVE root key slot. -/
def Fuse.keyActive (f : Fuse) (digest : List Byte) : Bool :=
  f.keys.toList.any fun k => decide (k.state = .active) && decide (k.digest = digest)

/-! ## The Window Map (R56 to R60) -/

def Region.base : Region → Nat
  | .image r => r.base
  | .data r => r.base

def Region.count : Region → Nat
  | .image r => r.count
  | .data r => r.count

/-- The record's range holds a chunk (R57). -/
def Region.holds (r : Region) (chunk : Nat) : Bool := decide (r.base ≤ chunk) && decide (chunk < r.base + r.count)

/-- The first record in table order, from index `i`, whose range holds a chunk (R57). -/
def findRegion : List Region → Nat → Nat → Option (Nat × Region)
  | [], _, _ => none
  | r :: rs, i, chunk => if r.holds chunk then some (i, r) else findRegion rs (i + 1) chunk

/-- The state of a chunk record; a record that does not exist reads as BAD and is never served. -/
def Tables.chunkState (t : Tables) (record : Nat) : ChunkState :=
  match t.chunks[record]? with
  | some c => c.state
  | none => .bad

/-- The decode of an address that reaches no flash word. -/
def Decode.nowhere (c : WindowClass) : Decode :=
  { cls := c, loc := none, region := none, chunk := none, state := none }

/-- The decode of an address whose class names no record. -/
def Decode.plain (c : WindowClass) (loc : Bank × Nat × Nat) : Decode :=
  { cls := c, loc := some loc, region := none, chunk := none, state := none }

/-- R57: the class of an offset in the active half. -/
def State.decodeActive (s : State) (b : Bank) (offset : Nat) : Decode :=
  let loc := (b, offset, s.flashAddr b offset)
  let c := offset / chunkWords
  if manifestChunk s.lines.fsz ≤ c then .plain .manifest loc
  else match findRegion s.tables.regions 0 c with
    | some (i, .image r) =>
      let record := r.first + (c - r.base)
      { cls := .imageChunk, loc := some loc, region := some i,
        chunk := some { region := i, index := c - r.base, record := record, offset := offset % chunkWords },
        state := some (s.tables.chunkState record) }
    | some (i, .data _) => { Decode.plain .data loc with region := some i }
    | none => .plain .uncovered loc

/-- R56: the bank halves around the active bank. -/
def State.decodeMapped (s : State) (active : Bank) (a : Nat) : Decode :=
  let words := s.bankWords
  if a < words then s.decodeActive active a
  else if a < 2 * words then
    .plain .inactive (active.other, a - words, s.flashAddr active.other (a - words))
  else .nowhere .outOfRange

/-- R60: bank 0 below bank 1, nothing classified. -/
def State.decodeTransparent (s : State) (a : Nat) : Decode :=
  let words := s.bankWords
  if a < words then .plain .unclassified (.bank0, a, a)
  else if a < 2 * words then .plain .unclassified (.bank1, a - words, a)
  else .nowhere .outOfRange

/-- The Window Map (R56, R59, R60). -/
def State.windowMap (s : State) (a : Addr) : Decode :=
  match s.boot.state, s.boot.active with
  | .walking, some b | .preverify, some b | .released, some b => s.decodeMapped b a.toNat
  | .transparent, _ => s.decodeTransparent a.toNat
  | _, _ => .nowhere .noMap

/-- The IMAGE record at a Region Table index. -/
def Tables.image (t : Tables) (i : Nat) : Option ImageRegion :=
  match t.regions[i]? with
  | some (.image r) => some r
  | some (.data _) => none
  | none => none

/-- The first ENGINE-flagged record from index `i` of the Region Table, with its index (R42). -/
def findEngine : List Region → Nat → Option (Nat × ImageRegion)
  | [], _ => none
  | .image r :: rs, i => if r.engine then some (i, r) else findEngine rs (i + 1)
  | .data _ :: rs, i => findEngine rs (i + 1)

/-- The engine region, which is the engine window in RELEASED (R140); none elsewhere (R139). -/
def State.engineWindow (s : State) : Option (Nat × ImageRegion) :=
  if s.boot.state = .released then findEngine s.tables.regions 0 else none

end Sys2Proof.Machine
end

