-- ==== Sys2Proof/Machine/Arbiter.lean ====
section
/-! DEFINITION. The Flash Arbiter: bank conditions, waiting requests, the gate of busy banks and the grant (R85 to R97). -/

namespace Sys2Proof.Machine

def Arbiter.cond (a : Arbiter) : Bank → BankCondition
  | .bank0 => a.cond0
  | .bank1 => a.cond1

def Arbiter.setCond (a : Arbiter) (b : Bank) (c : BankCondition) : Arbiter :=
  match b with
  | .bank0 => { a with cond0 := c }
  | .bank1 => { a with cond1 := c }

def State.bankCond (s : State) (b : Bank) : BankCondition := s.arbiter.cond b

/-- A bank is reported idle (R91). -/
def State.reportIdle (s : State) (b : Bank) : State := s.withArbiter (s.arbiter.setCond b .idle)

/-- A read of the flash, with the state after it. -/
def State.readFlash (s : State) (addr : Nat) : Word × State :=
  let r := Flash.read s.bankWords s.flash addr
  (r.1, s.withFlash r.2)

/-! ## Requests -/

/-- The class of a slot's burst requests (R66, R86). -/
def Slot.burstClass (v : Slot) : BurstClass :=
  if v.waiter.isSome || v.flag then .class3
  else match v.purpose with
    | some .manifest | some .list | some .demand => .class3
    | some .scan | some .patrol => .class5
    | none => .class5

/-- Bank and first Flash Port word of a slot's content (R61). -/
def State.contentAddr (s : State) : Content → Option (Bank × Nat)
  | .piece b c => some (b, s.flashAddr b (c * chunkWords))
  | .chunk r i =>
    match s.boot.active, s.tables.image r with
    | some b, some g => some (b, s.flashAddr b ((g.base + i) * chunkWords))
    | _, _ => none

/-- Bank and first Flash Port word of what a slot holds. -/
def State.slotAddr (s : State) (i : Fin 8) : Option (Bank × Nat) :=
  match (s.slot i).content with
  | some c => s.contentAddr c
  | none => none

/-- A slot's next burst request, at the class its record gives now (R74, R66). -/
def State.requestBurst (s : State) (i : Fin 8) : State :=
  s.withArbiter { s.arbiter with slotWait := s.arbiter.slotWait.set i (some (s.slot i).burstClass) }

/-- A slot's waiting request is withdrawn (R85). -/
def State.withdrawBurst (s : State) (i : Fin 8) : State :=
  s.withArbiter { s.arbiter with slotWait := s.arbiter.slotWait.set i none }

/-- A waiting request of a slot that has gained a waiter or the demand flag is filed again at class 3 (R86). -/
def State.refile (s : State) (i : Fin 8) : State :=
  match s.arbiter.slotWait[i] with
  | some _ => s.requestBurst i
  | none => s

/-- A preempted slot's granted burst runs on with its words discarded (R90). -/
def Burst.discardFor (i : Fin 8) (b : Burst) : Burst :=
  if b.slot = i ∧ b.fate = .live then { b with fate := .discard } else b

def Access.discardFor (i : Fin 8) : Access → Access
  | .burst b => .burst (b.discardFor i)
  | .cpRead r k => .cpRead r k
  | .elRead r k => .elRead r k
  | .cpSequence q => .cpSequence q
  | .maintenance q => .maintenance q
  | .settleSequence q => .settleSequence q
  | .filterPoll p w => .filterPoll p w
  | .settlePoll p w => .settlePoll p w

/-- Preemption of a slot at the arbiter: its request withdrawn, its granted burst's words discarded (R70, R90). -/
def State.preemptBurst (s : State) (i : Fin 8) : State :=
  let s := s.withdrawBurst i
  s.withArbiter { s.arbiter with
    access := s.arbiter.access.map (Access.discardFor i)
    suspended := s.arbiter.suspended.map (Burst.discardFor i)
    parked := s.arbiter.parked.map (Burst.discardFor i) }

def Access.stopBurst : Access → Access
  | .burst b => .burst { b with fate := .stop }
  | .cpRead r k => .cpRead r k
  | .elRead r k => .elRead r k
  | .cpSequence q => .cpSequence q
  | .maintenance q => .maintenance q
  | .settleSequence q => .settleSequence q
  | .filterPoll p w => .filterPoll p w
  | .settlePoll p w => .settlePoll p w

/-- Abandonment of the slots by a fallback or entry to NO_BANK: a running burst stops at its next word boundary,
suspended and parked bursts are discarded, the slots' requests withdrawn (R90). -/
def Arbiter.abandonBursts (a : Arbiter) : Arbiter :=
  { a with access := a.access.map Access.stopBurst, suspended := none, parked := none,
           slotWait := Vector.replicate 8 none }

/-! ## The writes of the part's own sequences (R92) -/

/-- Flash Port writes of a RESET sequence. -/
def State.resetWrites (s : State) (b : Bank) : List (Nat × Word) :=
  [(s.flashAddr b 0x1E00, 0x5A3C#16), (s.flashAddr b 0x0E1E, 0xA5C3#16), (s.flashAddr b 0x1E00, 0x00F5#16)]

/-- Flash Port writes of an ERASE sequence confirmed at a bank-relative word. -/
def State.eraseWrites (s : State) (b : Bank) (offset : Nat) : List (Nat × Word) :=
  [(s.flashAddr b 0x1E00, 0x5A3C#16), (s.flashAddr b 0x0E1E, 0xA5C3#16), (s.flashAddr b 0x1E00, 0x0026#16),
   (s.flashAddr b offset, 0x00D9#16)]

/-! ## What may be granted (R91) -/

def State.cpGrantable (s : State) : Bool :=
  match s.arbiter.cpWait with
  | none => false
  | some (.read r) =>
    match s.bankCond r.bank with
    | .idle => true
    | .busy => !r.image
    | .settling => false
  | some (.sequence q) => decide (s.bankCond q.bank = .idle)

def State.elGrantable (s : State) : Bool :=
  match s.arbiter.elWait with
  | none => false
  | some r => decide (s.bankCond r.bank = .idle)

/-- A class 1 or class 2 request may be granted. -/
def State.urgentGrantable (s : State) : Bool := s.cpGrantable || s.elGrantable

def State.burstGrantable (s : State) (c : BurstClass) (i : Fin 8) : Bool :=
  decide (s.arbiter.slotWait[i] = some c) &&
  match s.slotAddr i with
  | some (b, _) => decide (s.bankCond b = .idle)
  | none => false

/-- A poll pair and a maintenance sequence wait only for a SETTLING bank. -/
def State.pollGrantable (s : State) : Bool :=
  match s.arbiter.pollWait with
  | none => false
  | some p => decide (s.bankCond p.bank ≠ .settling)

def State.maintGrantable (s : State) : Bool :=
  match s.arbiter.maintWait with
  | none => false
  | some q => decide (s.bankCond q.bank ≠ .settling)

/-- Round-robin by slot number (R88): the lowest waiting slot above the pointer, else the lowest. -/
def State.pickSlot (s : State) (c : BurstClass) (pointer : Fin 8) : Option (Fin 8) :=
  let waiting := allSlots.filter (s.burstGrantable c)
  match waiting.find? fun i => decide (pointer < i) with
  | some i => some i
  | none => waiting.head?

/-! ## Grants (R87) -/

def State.withAccess (s : State) (a : Access) : State := s.withArbiter { s.arbiter with access := some a }

def State.endAccess (s : State) : State := s.withArbiter { s.arbiter with access := none }

/-- The Controller Port's request is granted. -/
def State.grantCp (s : State) : State :=
  match s.arbiter.cpWait with
  | none => s
  | some (.read r) => (s.withArbiter { s.arbiter with cpWait := none }).withAccess (.cpRead r true)
  | some (.sequence q) => (s.withArbiter { s.arbiter with cpWait := none }).withAccess (.cpSequence q)

/-- The Engine Link's request is granted. -/
def State.grantEl (s : State) : State :=
  match s.arbiter.elWait with
  | none => s
  | some r => (s.withArbiter { s.arbiter with elWait := none }).withAccess (.elRead r true)

/-- A slot's burst request is granted: the burst after those it has completed (R74). -/
def State.grantBurst (s : State) (c : BurstClass) (i : Fin 8) : State :=
  match s.slotAddr i with
  | none => s
  | some (b, base) =>
    let k := (s.slot i).bursts
    let burst : Burst :=
      { slot := i, bank := b, base := base + burstWords * k, number := k, read := 0, fate := .live }
    let a := { s.arbiter with slotWait := s.arbiter.slotWait.set i none }
    let a := match c with
      | .class3 => { a with rr3 := i }
      | .class5 => { a with rr5 := i }
    (s.withArbiter a).withAccess (.burst burst)

/-- The Write Filter's poll pair is granted, and its first read made (R94, log 9). -/
def State.grantPoll (s : State) : State :=
  match s.arbiter.pollWait with
  | none => s
  | some p =>
    let r := s.readFlash p.addr
    (r.2.withArbiter { r.2.arbiter with pollWait := none }).withAccess (.filterPoll p r.1)

/-- The Write Filter's maintenance sequence is granted. -/
def State.grantMaint (s : State) : State :=
  match s.arbiter.maintWait with
  | none => s
  | some q => (s.withArbiter { s.arbiter with maintWait := none }).withAccess (.maintenance q)

/-- The waiting request of the lowest class that may be granted (step 4 of R87). -/
def State.grantByClass (s : State) : State :=
  if s.cpGrantable then s.grantCp
  else if s.elGrantable then s.grantEl
  else match s.pickSlot .class3 s.arbiter.rr3 with
    | some i => s.grantBurst .class3 i
    | none =>
      if s.pollGrantable then s.grantPoll
      else match s.pickSlot .class5 s.arbiter.rr5 with
        | some i => s.grantBurst .class5 i
        | none => if s.maintGrantable then s.grantMaint else s

/-- The parked burst resumes when its bank is IDLE (step 2 of R87); it is then the access in progress. -/
def State.parkedReady (s : State) : Option Burst :=
  match s.arbiter.parked with
  | some b => if s.bankCond b.bank = .idle then some b else none
  | none => none

/-- Steps 2 to 4 of R87. -/
def State.grantRequest (s : State) : State :=
  if s.urgentGrantable then s.grantByClass
  else match s.parkedReady with
    | some b => (s.withArbiter { s.arbiter with parked := none }).withAccess (.burst b)
    | none =>
      match s.arbiter.suspended with
      | some b => (s.withArbiter { s.arbiter with suspended := none }).withAccess (.burst b)
      | none => s.grantByClass

/-- The settling access due is granted ahead of every request (step 1 of R87, R97). -/
def State.grantSettle (s : State) (t : Settle) : State :=
  match t.step with
  | .resetDue =>
    (s.withArbiter { s.arbiter with settle := some { t with step := .sending } }).withAccess
      (.settleSequence { bank := t.bank, kind := .reset, writes := s.resetWrites t.bank })
  | .pollDue =>
    let addr := s.flashAddr t.bank 0
    let r := s.readFlash addr
    (r.2.withArbiter { r.2.arbiter with settle := some { t with step := .polling } }).withAccess
      (.settlePoll { bank := t.bank, addr := addr } r.1)
  | .sending => s.grantRequest
  | .polling => s.grantRequest
  | .retry => s.grantRequest

/-- The grant of R87, made when the port is free and the part acts. -/
def State.grant (s : State) : State :=
  if s.live && s.arbiter.access.isNone then
    match s.arbiter.settle with
    | some t => s.grantSettle t
    | none => s.grantRequest
  else s

/-! ## Poll judgements (R94) -/

def statusToggle (w : Word) : Bool := w.getLsbD 3
def statusBusy (w : Word) : Bool := w.getLsbD 12
def statusError (w : Word) : Bool := w.getLsbD 9

/-- The judgement of a poll pair from its two words (R94). -/
def judgePair (first second : Word) : Judgement :=
  if statusToggle first = statusToggle second then .endedClean
  else if !statusBusy first && statusError first && !statusBusy second && statusError second then .endedError
  else .running

/-! ## Stopping the port (R96) -/

/-- The access in progress is carried to its end and its result discarded: the flash sees the reads and the writes
(R96, log 6). A burst stops. -/
def State.finishAccess (s : State) : State :=
  match s.arbiter.access with
  | none => s
  | some (.cpRead r _) => (s.readFlash r.addr).2.endAccess
  | some (.elRead r _) => (s.readFlash r.addr).2.endAccess
  | some (.burst _) => s.endAccess
  | some (.filterPoll p _) => (s.readFlash p.addr).2.endAccess
  | some (.settlePoll p _) => (s.readFlash p.addr).2.endAccess
  | some (.cpSequence q) => (s.withFlash (Flash.writes s.bankWords s.flash q.writes)).endAccess
  | some (.maintenance q) => (s.withFlash (Flash.writes s.bankWords s.flash q.writes)).endAccess
  | some (.settleSequence q) => (s.withFlash (Flash.writes s.bankWords s.flash q.writes)).endAccess

/-- Every request withdrawn, every paused burst discarded, settling stopped (R96). -/
def Arbiter.stopped (a : Arbiter) : Arbiter :=
  { a with cpWait := none, elWait := none, slotWait := Vector.replicate 8 none, pollWait := none, maintWait := none,
           suspended := none, parked := none, settle := none }

/-- Entry to HALTED and the start of a part reset at the Flash Port (R96). -/
def State.stopPort (s : State) : State :=
  let s := s.finishAccess
  s.withArbiter s.arbiter.stopped

end Sys2Proof.Machine
end

