-- ==== Sys2Proof/Machine/Slots.lean ====
section
/-! DEFINITION. The life of a slot: taken, queued, hashed, held, freed (R63 to R65, R69, R74, R76, R77), and the claims
of the Manifest Walker (R67). -/

namespace Sys2Proof.Machine

/-- A claim takes a slot (R69): the record as the claim gives it, the newest claim order number (R65), and the first
burst request. -/
def State.takeSlot (s : State) (i : Fin 8) (purpose : Purpose) (content : Content) (waiter : Option Nat)
    (flag : Bool) : State :=
  let v : Slot :=
    { state := .filling, purpose := some purpose, content := some content, bursts := 0,
      order := some (s.inUseCount + 1), waiter := waiter, flag := flag, buffer := (s.slot i).buffer }
  (s.setSlot i v).requestBurst i

/-- The claim order number of a slot in use when number `freed` leaves (R65). -/
def Slot.lowerOrder (freed : Nat) (v : Slot) : Slot :=
  match v.order with
  | some n => if freed < n then { v with order := some (n - 1) } else v
  | none => v

/-- A slot goes FREE: its record returns to its reset values, its buffer keeps its words (R63), the newer claims'
numbers fall by one (R65), and a burst request it had is withdrawn. -/
def State.freeSlot (s : State) (i : Fin 8) : State :=
  let v := s.slot i
  let lowered := match v.order with
    | some n => mapSlots (Slot.lowerOrder n) s.verifier.slots
    | none => s.verifier.slots
  (s.withVerifier { s.verifier with
    slots := lowered.set i { Slot.reset with buffer := v.buffer } }).withdrawBurst i

/-- The hash engine, when idle, takes the head of the hash queue (R77). -/
def State.engineNext (s : State) : State :=
  match s.verifier.engine, s.verifier.hashQueue with
  | none, i :: rest =>
    let s := s.setSlot i { s.slot i with state := .hashing }
    s.withVerifier { s.verifier with engine := some i, hashQueue := rest }
  | _, _ => s

/-- The hash engine has completed its work (R77). -/
def State.engineIdle (s : State) : State := s.withVerifier { s.verifier with engine := none }

/-- A slot goes QUEUED at the tail of the hash queue (R76), and the engine takes the head if it is idle. -/
def State.enqueue (s : State) (i : Fin 8) : State :=
  let s := s.setSlot i { s.slot i with state := .queued }
  (s.withVerifier { s.verifier with hashQueue := s.verifier.hashQueue ++ [i] }).engineNext

/-- A slot goes HELD (R64). -/
def State.holdSlot (s : State) (i : Fin 8) : State := s.setSlot i { s.slot i with state := .held }

/-- The slot in use that holds a region chunk (R67, R68). -/
def State.chunkHolder (s : State) (region index : Nat) : Option (Fin 8) :=
  allSlots.find? fun i => (s.slot i).inUse && decide ((s.slot i).content = some (.chunk region index))

/-- An intake claim takes the lowest-numbered FREE slot (R67, R69); the walker's claims always find one (R29, R83). -/
def State.claimIntake (s : State) (purpose : Purpose) (bank : Bank) (chunk : Nat) : State × Option (Fin 8) :=
  match s.lowestFree with
  | some i => (s.takeSlot i purpose (.piece bank chunk) none false, some i)
  | none => (s, none)

/-- A demand joins a slot in use (R68): with a waiter the waiter is set, without one the demand flag; a waiting burst
request moves to class 3 (R86). -/
def State.joinSlot (s : State) (i : Fin 8) (waiter : Option Nat) : State :=
  let v := s.slot i
  let v := match waiter with
    | some w => { v with waiter := some w }
    | none => { v with flag := true }
  (s.setSlot i v).refile i

/-- The state of a region's chunk (R51). -/
def State.chunkStateOf (s : State) (region index : Nat) : ChunkState :=
  match s.tables.image region with
  | some g => s.tables.chunkState (g.first + index)
  | none => .bad

end Sys2Proof.Machine
end

