-- ==== Sys2Proof/Machine/Scanner.lean ====
section
/-! DEFINITION. The Scanner: stepping, passes, the slot-free notice (R148 to R157, R72), and the demand claims that may
take its slots (R67 to R71). -/

namespace Sys2Proof.Machine

/-! ## Claims and stepping (R150, R155) -/

/-- A SCAN or PATROL claim (R67, R72). -/
def State.claimScan (s : State) (purpose : Purpose) (region index : Nat) : State × ClaimResult :=
  if s.chunkStateOf region index = .bad then (s, .notMade)
  else match s.chunkHolder region index with
    | some i => (s, .joined i)
    | none =>
      match s.lowestFree with
      | some i => (s.takeSlot i purpose (.chunk region index) none false, .taken i)
      | none => (s, .notMade)

/-- Chunk index 0 of the next list position, or the end mark (R149). -/
def Scan.nextEntry (c : Scan) (pos : Nat) : Cursor := if pos < c.list.length then .at_ (pos + 1) 0 else .endMark

/-- The position after a chunk of a region of `count` chunks (R149). -/
def Scan.advance (c : Scan) (pos chunk count : Nat) : Cursor :=
  if chunk + 1 < count then .at_ pos (chunk + 1) else c.nextEntry pos

/-- The Region Table index at a list position, counted from 1. -/
def Scan.entry (c : Scan) (pos : Nat) : Option Nat := c.list[pos - 1]?

/-- The first position of a pass (R150, R154). -/
def Scan.start (c : Scan) : Cursor := if c.list.isEmpty then .endMark else .at_ 1 0

/-- The IMAGE region at a list position, with its index. -/
def State.scanRegion (s : State) (pos : Nat) : Option (Nat × ImageRegion) :=
  match s.scan.entry pos with
  | some r => (s.tables.image r).map fun g => (r, g)
  | none => none

/-- What a step does at a position: R150 in the first pass, R155 in a patrol pass. After a rewind R152 says that a GOOD chunk
met again is passed without a fill, and R155's table claims every GOOD chunk; the model follows R155 (log 30). -/
def State.scanAction (s : State) (pos chunk : Nat) : ScanAction :=
  match s.scanRegion pos with
  | none => .skipRegion
  | some (r, g) =>
    let st := s.tables.chunkState (g.first + chunk)
    if s.scan.pass = .patrol then
      (if g.state ≠ .complete then .skipRegion
       else if st = .good then .claim .patrol r else .advance)
    else
      (if g.state = .failed then .skipRegion
       else if st = .unchecked then .claim .scan r else .advance)

/-- The chunk count of the region at a list position. -/
def State.scanCount (s : State) (pos : Nat) : Nat :=
  match s.scanRegion pos with
  | some (_, g) => g.count
  | none => 0

def State.setCursor (s : State) (c : Cursor) : State := s.withScan { s.scan with cursor := some c }

/-- The pass makes claims: it is FIRST or PATROL (R151). -/
def Pass.claims : Pass → Bool
  | .first => true
  | .patrol => true
  | .none => false
  | .patrolStopping => false

/-- Stepping, within one event: until NOT_MADE or the end mark (R150). `fuel` bounds the positions ahead. -/
def State.scanSteps : Nat → State → State
  | 0, s => s
  | fuel + 1, s =>
    match s.scan.cursor with
    | none => s
    | some .endMark => s
    | some (.at_ pos chunk) =>
      let forward := s.scan.advance pos chunk (s.scanCount pos)
      match s.scanAction pos chunk with
      | .skipRegion => State.scanSteps fuel (s.setCursor (s.scan.nextEntry pos))
      | .advance => State.scanSteps fuel (s.setCursor forward)
      | .claim purpose r =>
        match s.claimScan purpose r chunk with
        | (s', .taken _) => State.scanSteps fuel (s'.setCursor forward)
        | (s', .joined _) => State.scanSteps fuel (s'.setCursor forward)
        | (s', .notMade) => s'
        | (s', .pending) => s'
        | (s', .dropped) => s'

/-- Enough fuel for every position of the scan list. -/
def State.scanFuel (s : State) : Nat :=
  (s.scan.list.map fun r => match s.tables.image r with | some g => g.count | none => 0).sum +
  s.scan.list.length + 1

/-! ## The end of a pass (R153, R157) -/

/-- A slot in use has this purpose (R148). -/
def State.anySlot (s : State) (p : Purpose) : Bool :=
  allSlots.any fun i => (s.slot i).inUse && decide ((s.slot i).purpose = some p)

/-- The pass has outstanding slots (R148). -/
def State.outstanding (s : State) : Bool :=
  match s.scan.pass with
  | .none => false
  | .first => s.anySlot .scan
  | .patrol => s.anySlot .patrol
  | .patrolStopping => s.anySlot .patrol

/-- The pass is over (R153): its cursor is at the end mark, which PATROL_STOPPING does not ask (R157), and it has no
outstanding slots. -/
def State.passOver (s : State) : Bool :=
  match s.scan.pass with
  | .none => false
  | .first => decide (s.scan.cursor = some .endMark) && !s.outstanding
  | .patrol => decide (s.scan.cursor = some .endMark) && !s.outstanding
  | .patrolStopping => !s.outstanding

/-- The test of R153. -/
def State.endPass (s : State) : State :=
  if s.passOver then s.withScan { s.scan with pass := .none, cursor := none } else s

/-- The Scanner steps where its pass makes claims, and the end of the pass is tested (R151, R153). -/
def State.scanResume (s : State) : State :=
  (if s.scan.pass.claims then State.scanSteps s.scanFuel s else s).endPass

/-- A pass starts (R150, R154). -/
def State.startPass (s : State) (p : Pass) : State :=
  (s.withScan { s.scan with pass := p, cursor := some s.scan.start }).scanResume

/-! ## Slots going FREE (R71, R72) -/

/-- The pending demand takes a slot (R71). -/
def State.takePending (s : State) (i : Fin 8) (d : PendingDemand) : State :=
  (s.withVerifier { s.verifier with pendingDemand := none }).takeSlot i .demand (.chunk d.region d.index)
    d.waiter d.waiter.isNone

/-- A slot goes FREE and is offered: to the pending demand, or by a slot-free notice to the Scanner (R71, R72). -/
def State.releaseSlot (s : State) (i : Fin 8) : State :=
  let s := s.freeSlot i
  match s.verifier.pendingDemand with
  | some d => (s.takePending i d).endPass
  | none => s.scanResume

/-! ## Demand claims (R67 to R72) -/

/-- A slot a demand may preempt (R70). -/
def Slot.eligible (v : Slot) : Bool :=
  decide (v.state = .filling) && (decide (v.purpose = some .scan) || decide (v.purpose = some .patrol)) &&
  v.waiter.isNone && !v.flag

/-- `v` is the better victim: fewer bursts completed, or as many and the newer claim (R70). -/
def Slot.betterVictim (v w : Slot) : Bool :=
  decide (v.bursts < w.bursts) || (decide (v.bursts = w.bursts) && decide (w.order.getD 0 < v.order.getD 0))

/-- The victim among the eligible slots (R70). -/
def State.victim (s : State) : Option (Fin 8) :=
  (allSlots.filter fun i => (s.slot i).eligible).foldl
    (fun best i => match best with
      | none => some i
      | some j => if (s.slot i).betterVictim (s.slot j) then some i else some j) none

/-- One position lies behind another (R149). -/
def Cursor.behind (pos chunk : Nat) : Cursor → Bool
  | .endMark => true
  | .at_ p c => decide (pos < p) || (decide (pos = p) && decide (chunk < c))

/-- The victim's purpose matches the pass (R152). -/
def Pass.matchesPurpose : Pass → Option Purpose → Bool
  | .first, some .scan => true
  | .patrol, some .patrol => true
  | _, _ => false

/-- The position of a region in the scan list, counted from 1. -/
def Scan.positionOf (c : Scan) (region : Nat) : Option Nat := (c.list.findIdx? fun r => decide (r = region)).map (· + 1)

/-- The Scanner is told of a preempted fill and moves its cursor back to it if it lies behind (R152). -/
def State.rewind (s : State) (purpose : Option Purpose) (content : Option Content) : State :=
  if s.scan.pass.matchesPurpose purpose then
    match content, s.scan.cursor with
    | some (.chunk r i), some c =>
      match s.scan.positionOf r with
      | some pos => (if Cursor.behind pos i c then s.setCursor (.at_ pos i) else s).scanResume
      | none => s.scanResume
    | _, _ => s.scanResume
  else s.endPass

/-- A demand preempts a Scanner fill and takes its slot (R70). -/
def State.preempt (s : State) (i : Fin 8) (region index : Nat) (waiter : Option Nat) : State :=
  let v := s.slot i
  ((((s.preemptBurst i).freeSlot i).takeSlot i .demand (.chunk region index) waiter waiter.isNone).rewind
    v.purpose v.content)

def State.setPending (s : State) (d : PendingDemand) : State :=
  s.withVerifier { s.verifier with pendingDemand := some d }

/-- A Controller Port demand that finds no FREE slot and no victim (R71). -/
def State.claimPending (s : State) (region index : Nat) (waiter : Option Nat) : State × ClaimResult :=
  match s.verifier.pendingDemand with
  | none => (s.setPending { region := region, index := index, waiter := waiter }, .pending)
  | some d =>
    if d.region = region ∧ d.index = index then
      (s.setPending { d with waiter := waiter.or d.waiter }, .pending)
    else if waiter.isSome then
      (s.setPending { region := region, index := index, waiter := waiter }, .pending)
    else (s, .dropped)

/-- A demand claim for a region chunk (R67), from the Controller Port or, with `fromCp` false, the Engine Link. -/
def State.claimDemand (s : State) (fromCp : Bool) (region index : Nat) (waiter : Option Nat) :
    State × ClaimResult :=
  if s.chunkStateOf region index = .bad then (s, .notMade)
  else match s.chunkHolder region index with
    | some i => (s.joinSlot i waiter, .joined i)
    | none =>
      match s.lowestFree with
      | some i => (s.takeSlot i .demand (.chunk region index) waiter waiter.isNone, .taken i)
      | none =>
        match s.victim with
        | some i => (s.preempt i region index waiter, .taken i)
        | none => if fromCp then s.claimPending region index waiter else (s, .dropped)

end Sys2Proof.Machine
end

