-- ==== Sys2Proof/Machine/Programmer.lean ====
section
/-! DEFINITION. The fuse programmer taking its work (R173, R175), and the lock clear of a wipe (R134). -/

namespace Sys2Proof.Machine

/-- The greatest version among the COMPLETE regions that name a counter, 0 where none does (R175). -/
def Tables.commitTarget (t : Tables) (c : Fin 8) : Nat :=
  t.regions.foldl
    (fun m r => match r with
      | .image g => if g.state = .complete ∧ g.counter = c then max m g.version else m
      | .data _ => m) 0

/-- The counters below their targets, in ascending index order, as COMMIT fixes them at its beginning (R175). -/
def commitTodo (t : Tables) (f : Fuse) : List (Fin 8 × Nat) :=
  allSlots.filterMap fun c =>
    let target := t.commitTarget c
    if f.counters[c] < target then some (c, target) else none

/-- The programmer may begin work: it is IDLE, SUPPLY_LOW is absent and the part acts (R173, R174). That it begins nothing
during a part reset is the model's choice (log 31). -/
def State.fuseReady (s : State) : Bool := s.live && s.fuse.op.isNone && !s.alerts.supplyLow

/-- The programmer begins an operation. -/
def State.beginFuse (s : State) (op : FuseOp) : State := s.withFuse { s.fuse with op := some op }

/-- The programmer begins the next piece of work if it may (R173). A COMMIT that finds no counter below its target
ends at once (R175), so that the next item is begun. `fuel` bounds the items. -/
def State.fuseNext : Nat → State → State
  | 0, s => s
  | fuel + 1, s =>
    if s.fuseReady then
      match s.fuse.work with
      | [] => if s.fuse.lockClear then (s.withFuse { s.fuse with lockClear := false }).beginFuse .lockClear else s
      | item :: rest =>
        let t := s.withFuse { s.fuse with work := rest }
        match item with
        | .demote => t.beginFuse (.demote s.boot.active)
        | .undemote => t.beginFuse .undemote
        | .commit =>
          match commitTodo s.tables s.fuse with
          | [] => State.fuseNext fuel t
          | c :: cs => t.beginFuse (.commit (c :: cs))
    else s

/-- The programmer takes its work in this event, if it may. -/
def State.fuseResume (s : State) : State := State.fuseNext (s.fuse.work.length + 1) s

/-- Fuse work is placed on the list, at most one item of each kind (R167). -/
def Fuse.raise (f : Fuse) (item : FuseItem) : Fuse :=
  if f.work.contains item then f else { f with work := f.work ++ [item] }

/-- The operation in progress ends and the programmer goes IDLE, then begins the next work (R173). -/
def State.endFuse (s : State) : State := (s.withFuse { s.fuse with op := none }).fuseResume

/-- Programmer busy, as R177 defines it. -/
def State.programmerBusy (s : State) : Bool :=
  s.fuse.op.isSome || !s.fuse.work.isEmpty || s.fuse.lockClear || s.alerts.supplyLow

end Sys2Proof.Machine
end

