-- ==== Sys2Proof/Machine/GateOps.lean ====
section
/-! DEFINITION. The print gate, its clock and the timer loads (R158 to R167). -/

namespace Sys2Proof.Machine

/-- The class is required: BOOT or PRINT (00_scope.md, Class). -/
def ImageClass.required : ImageClass → Bool
  | .boot => true
  | .print => true
  | .optional => false

/-- Every BOOT and PRINT region is COMPLETE (R159). -/
def Tables.requiredComplete (t : Tables) : Bool :=
  t.regions.all fun r => match r with
    | .image g => !g.cls.required || decide (g.state = .complete)
    | .data _ => true

/-- Every BOOT region is COMPLETE (R12). -/
def Tables.bootComplete (t : Tables) : Bool :=
  t.regions.all fun r => match r with
    | .image g => !decide (g.cls = .boot) || decide (g.state = .complete)
    | .data _ => true

/-- A PRINT region is FAILED (R15). -/
def Tables.printFailed (t : Tables) : Bool :=
  t.regions.any fun r => match r with
    | .image g => decide (g.cls = .print) && decide (g.state = .failed)
    | .data _ => false

/-- A load that runs (R165). -/
def Timer.load (compare : Nat) (purpose : TimerPurpose) : Timer :=
  { counter := 0, compare := compare, running := true, purpose := purpose }

/-- The timer is stopped (R166). -/
def State.stopTimer (s : State) : State := s.withTimer { s.timer with running := false }

/-- The load on entering OPEN in RELEASED: the patrol interval, or STOPPED if it is 0 (R166). -/
def State.loadPatrol (s : State) : State :=
  if s.boot.params.patrolInterval = 0 then s.withTimer { s.timer with counter := 0, running := false }
  else s.withTimer (Timer.load s.boot.params.patrolInterval .patrol)

/-- The gate OPEN, PGATE low and its clock started (R162). -/
def Gate.open_ : Gate := { state := .opened, cause := none, pgate := false, count := 0, fresh := true }

/-- The work an opening raises: COMMIT, then UNDEMOTE where the active bank is the demoted bank (R167). -/
def State.raiseOpening (s : State) : State :=
  let f := s.fuse.raise .commit
  s.withFuse (if s.boot.active.isSome ∧ f.demoted = s.boot.active then f.raise .undemote else f)

/-- CLOSED to OPEN in RELEASED (R159). -/
def State.openGate (s : State) : State :=
  (((s.withGate Gate.open_).loadPatrol).raiseOpening).fuseResume

/-- The pass on entering LATCHED: a patrol pass stops (R157). -/
def State.stopPatrol (s : State) : State :=
  if s.scan.pass = .patrol then (s.withScan { s.scan with pass := .patrolStopping }).endPass else s

/-- The gate latches with a cause (R160), unless it is LATCHED already. That the stopped PGATE clock's count is 0 is the model's
choice (log 37). -/
def State.latchGate (s : State) (cause : GateCause) : State :=
  if s.gate.state = .latched then s
  else
    let s := s.withGate { state := .latched, cause := some cause, pgate := false, count := 0, fresh := false }
    let s := s.stopTimer
    let s := s.withFuse (s.fuse.raise .demote)
    s.stopPatrol.fuseResume

/-- A CLOSED gate in RELEASED is judged for opening (R159). -/
def State.judgeOpening (s : State) : State :=
  if s.boot.state = .released ∧ s.gate.state = .closed ∧ s.tables.requiredComplete then s.openGate else s

/-- PGATE changes level and its count restarts; the first tick after the opening takes it high (R162). -/
def Gate.toggle (g : Gate) : Gate := { g with pgate := !g.pgate, count := 0, fresh := false }

/-- The gate on entering HALTED: OPEN becomes CLOSED, LATCHED stays with its cause, PGATE low (R158, R18). That the
stopped PGATE clock's count is 0 is the model's choice (log 37). -/
def Gate.halted (g : Gate) : Gate :=
  { g with state := if g.state = .opened then .closed else g.state, pgate := false, count := 0, fresh := false }

end Sys2Proof.Machine
end

