-- ==== Sys2Proof/Machine/LinkOps.lean ====
section
/-! DEFINITION. The Engine Link's read-ahead (R140, R141, R144) and the Service Link's frames (R176). -/

namespace Sys2Proof.Machine

/-! ## The engine window and read-ahead -/

/-- p lies inside the window: its chunk index is below the region's chunk count (R140). -/
def insideWindow (g : ImageRegion) (p : Nat) : Bool := decide (p < g.count * 4096)

/-- The wanted word (R141): the window word holding p, or the next one when the latch holds that. -/
def EngineLink.wanted (e : EngineLink) (p : Nat) : Nat :=
  match e.latch with
  | some (w, _) => if w = p / 2 then p / 2 + 1 else p / 2
  | none => p / 2

/-- Flash Port address of a window word (R140). -/
def State.windowAddr (s : State) (b : Bank) (g : ImageRegion) (w : Nat) : Nat :=
  s.flashAddr b ((g.base + w / chunkWords) * chunkWords + w % chunkWords)

/-- The arbiter holds no Engine Link request, waiting or granted (R87, R144). -/
def State.elIdle (s : State) : Bool :=
  s.arbiter.elWait.isNone &&
  match s.arbiter.access with
  | some (.elRead _ _) => false
  | _ => true

/-- The request for the wanted word is made in the first event in which all of R141's conditions hold. -/
def State.readAhead (s : State) : State :=
  match s.el.phase, s.engineWindow, s.boot.active with
  | .readData p true, some (_, g), some b =>
    let w := s.el.wanted p
    if s.live && decide (s.el.ahead = .empty) && s.elIdle && insideWindow g (2 * w) &&
        decide (g.state ≠ .failed) && decide (s.tables.chunkState (g.first + w / chunkWords) = .good) then
      (s.withEl { s.el with ahead := .pending w }).withArbiter
        { s.arbiter with elWait := some { window := w, bank := b, addr := s.windowAddr b g w } }
    else s
  | _, _, _ => s

/-- p has passed the word of an ungranted request (R141). -/
def State.requestPassed (s : State) (p : Nat) : Bool :=
  match s.el.ahead with
  | .pending w => decide (w < p / 2) && s.arbiter.elWait.isSome
  | .empty => false
  | .held _ _ => false

/-- The advance rules of R141 at a new p: a latch whose word p has passed becomes empty; an ungranted request for a
word p has passed is withdrawn. A granted one runs on and its word arrives stale. -/
def State.advanceLink (s : State) (p : Nat) : State :=
  let gone := s.requestPassed p
  (s.withEl { s.el with
    latch := s.el.latch.filter fun l => decide (p / 2 ≤ l.1)
    ahead := if gone then .empty else s.el.ahead }).withArbiter
  { s.arbiter with elWait := if gone then none else s.arbiter.elWait }

/-- A word in flight for the Engine Link is discarded when it returns (R144). -/
def Access.dropEl : Access → Access
  | .elRead r _ => .elRead r false
  | .cpRead r k => .cpRead r k
  | .burst b => .burst b
  | .cpSequence q => .cpSequence q
  | .maintenance q => .maintenance q
  | .settleSequence q => .settleSequence q
  | .filterPoll p w => .filterPoll p w
  | .settlePoll p w => .settlePoll p w

/-- The link's read state ends (R144): request withdrawn, granted word to be discarded, buffers empty, p forgotten. -/
def State.endLinkRead (s : State) : State :=
  (s.withEl { s.el with phase := .none, latch := none, ahead := .empty }).withArbiter
    { s.arbiter with elWait := none, access := s.arbiter.access.map Access.dropEl }

/-- The outgoing byte at a boundary. -/
def State.sendEl (s : State) (b : Byte) : State := s.withEl { s.el with out := b }

/-! ## Service Link frames -/

/-- The decision event of a frame (R176): in a receiving frame the command's result and record become the frame's
response; in a part reset or HALTED the frame is discarded without effect. -/
def State.answerFrame (s : State) (act : State × List Byte) : State :=
  match s.sl.frame with
  | .receiving =>
    if s.live then act.1.withSl { s.sl with frame := .decided act.2 }
    else s.withSl { s.sl with frame := .decided [] }
  | .none => s
  | .decided _ => s

/-- A part reset takes the response of the frame in progress away: SL_DOUT sends 0x00 (R3). That entry to HALTED takes away
the response of a frame decided before it, too, is the model's choice (log 32). -/
def ServiceLink.silenced (l : ServiceLink) : ServiceLink :=
  match l.frame with
  | .decided _ => { l with frame := .decided [] }
  | .none => l
  | .receiving => l

end Sys2Proof.Machine
end

