-- ==== Sys2Proof/Machine/BootOps.lean ====
section
/-! DEFINITION. The boot states: abandonment, NO_BANK, HALTED, the beginning and the end of a part reset, RELEASED, TRANSPARENT
(R3, R5, R13 to R19, R75). -/

namespace Sys2Proof.Machine

/-! ## Abandonment (R75) -/

/-- A slot abandoned: FREE, its record at its reset values, its buffer as it is. -/
def Slot.abandoned (v : Slot) : Slot := { Slot.reset with buffer := v.buffer }

/-- Every slot abandoned but one, which keeps its record and takes claim order number 1 (R75). -/
def Verifier.abandon (v : Verifier) (keep : Option (Fin 8)) : Verifier :=
  { slots := allSlots.foldl
      (fun (w : Vector Slot 8) i =>
        if keep = some i then w.set i { w[i] with order := some 1 } else w.set i w[i].abandoned) v.slots
    hashQueue := [], engine := none, checking := none, checkWaiting := none, pendingDemand := none }

def State.abandonSlots (s : State) (keep : Option (Fin 8)) : State := s.withVerifier (s.verifier.abandon keep)

/-- The walker stopped and its stack and key table cleared (R13, R17). -/
def Walk.cleared (w : Walk) : Walk := { w with stack := [], keys := [], engineUsed := false, job := .none }

/-- The tables, the walk and the scan list cleared, as a fallback and entry to NO_BANK do (R13, R17). -/
def State.clearBank (s : State) : State :=
  ((s.withTables Tables.reset).withWalk s.walk.cleared).withScan Scan.reset

/-! ## NO_BANK (R17) -/

def State.enterNoBank (s : State) : State :=
  let s := (s.withAlerts { s.alerts with noBank := true }).stopTimer
  let s := (s.clearBank).abandonSlots none
  let s := s.withArbiter s.arbiter.abandonBursts
  s.withBoot { s.boot with
    state := .noBank, active := none, current := none, reserve := none, params := Params.reset,
    root0 := .notJudged, root1 := .notJudged }

/-! ## HALTED and the start of a part reset (R3, R18, R96) -/

/-- What entry to HALTED and the start of a part reset have in common: both processors held, the timer stopped, the
Flash Port's work ended, every slot abandoned, the held read and the links' frames ended. R166 stops the timer on entering
HALTED, and R75 abandons the slots, the hashes, the signature checks and the pending demand on entering HALTED; that the timer
stops (log 34) and that this work is abandoned (log 35) when a part reset begins, too, are the model's choices. -/
def State.stopBlocks (s : State) : State :=
  let s := s.stopTimer.stopPort
  let s := s.endLinkRead.abandonSlots none
  let s := s.withWalk { s.walk with job := .none }
  let s := (s.withPort .free).withSl s.sl.silenced
  let s := s.withBoot { s.boot with reserve := none, root0 := .notJudged, root1 := .notJudged }
  s.withLines { s.lines with crstOut := true, erstOut := true }

/-- HALTED is entered (R18). -/
def State.enterHalted (s : State) : State :=
  let s := s.stopBlocks
  (s.withGate s.gate.halted).withBoot { s.boot with state := .halted }

/-- A part reset begins (R3), unless one is in progress, which keeps its cause (R4). That the PGATE clock stops at 0 and that
what no rule reaches here keeps its value until the reset ends are the model's choices (log 36). -/
def State.beginReset (s : State) (cause : ResetCause) : State :=
  if s.lines.inReset then s
  else
    let s := s.stopBlocks
    let s := s.withGate { s.gate with pgate := false, count := 0, fresh := false }
    s.withLines { s.lines with inReset := true, cause := cause }

/-! ## The end of a part reset (R5, R7, R19) -/

/-- Every volatile block at its value after part reset (R3, R5); the flash, the fuse cells, the recorded cause, the
levels of the input lines and the queue stay. `low`: the supply is below the warning level. -/
def State.volatileReset (s : State) (fsz swl : BitVec 2) (low : Bool) : State :=
  { lines := { inReset := false, cause := s.lines.cause, nrstLow := false, belowBrownOut := false,
               crstIn := s.lines.crstIn, crstOut := true, erstOut := true, fsz := fsz, swl := swl }
    boot := Boot.reset
    gate := Gate.reset
    alerts := { bad := false, late := false, violation := false, supplyLow := low, noBank := false }
    timer := Timer.reset
    walk := Walk.reset
    tables := Tables.reset
    scan := Scan.reset
    verifier := Verifier.reset
    arbiter := Arbiter.reset
    flash := s.flash
    port := .free
    filter := Filter.reset
    wipe := Wipe.reset
    fuse := { s.fuse with op := none, work := [], lockClear := false }
    el := { EngineLink.reset with selected := s.el.selected }
    sl := { ServiceLink.reset with selected := s.sl.selected }
    pending := s.pending }

/-- TRANSPARENT is entered (R19). -/
def State.enterTransparent (s : State) : State :=
  let s := s.withLines { s.lines with crstOut := false, erstOut := false }
  let s := (s.withGate Gate.open_).stopTimer
  s.withBoot { s.boot with state := .transparent, params := Params.transparent }

/-- The walker's two claims of SELECTING (R7): bank 0's manifest chunk, then bank 1's. -/
def State.startSelecting (s : State) : State :=
  let c := manifestChunk s.lines.fsz
  let r0 := s.claimIntake .manifest .bank0 c
  let r1 := r0.1.claimIntake .manifest .bank1 c
  let root (o : Option (Fin 8)) : RootJudgement :=
    match o with
    | some i => .judging i .fill []
    | none => .notJudged
  r1.1.withBoot { r1.1.boot with root0 := root r0.2, root1 := root r1.2 }

/-- The part reset ends (R5). -/
def State.endReset (s : State) (fsz swl : BitVec 2) (low : Bool) : State :=
  let s := s.volatileReset fsz swl low
  match s.fuse.lifecycle with
  | .factory => s.enterTransparent
  | .deployed => s.startSelecting

/-! ## RELEASED (R15) -/

/-- The reserve root slot, if one is held, is freed (R15). -/
def State.releaseReserve (s : State) : State :=
  match s.boot.reserve with
  | some i => (s.withBoot { s.boot with reserve := none }).releaseSlot i
  | none => s

/-- RELEASED is entered and the gate judged (R15). -/
def State.enterReleased (s : State) : State :=
  let s := s.withBoot { s.boot with state := .released }
  let s := s.withLines { s.lines with
    crstOut := false, erstOut := (findEngine s.tables.regions 0).isNone }
  let s := s.releaseReserve
  let s := s.withTimer (Timer.load s.boot.params.bootDeadline .bootDeadline)
  if s.tables.printFailed then s.latchGate .chunkBad else s.judgeOpening

/-- PREVERIFY is entered: the first pass begins; with no BOOT region to prove, RELEASED follows at once (R12). -/
def State.enterPreverify (s : State) : State :=
  let s := (s.withBoot { s.boot with state := .preverify }).startPass .first
  if s.tables.bootComplete then s.enterReleased else s

end Sys2Proof.Machine
end

