-- ==== Sys2Proof/Machine/Walker.lean ====
section
/-! DEFINITION. The Manifest Walker: candidacy and ordering (R7 to R11), the walk (R25 to R39), and what the Boot
Controller does with its outcome (R11, R13). -/

namespace Sys2Proof.Machine

/-! ## Outcomes and the class rule (R24, R35) -/

/-- The walk ends with a fault, copied into the last walk fault (R24). -/
def State.walkFault (s : State) (kind : WalkFault) (ref : WalkRef) : State :=
  s.withWalk { s.walk with outcome := some (.fault kind ref), lastFault := some (kind, ref), job := .none }

/-- The top frame's next entry advances by one (R26). -/
def Walk.advance (w : Walk) : Walk :=
  match w.stack with
  | f :: rest => { w with stack := { f with next := f.next + 1 } :: rest }
  | [] => w

/-- The entry in process ends, taken or skipped, and the walker is ready for the next (R26). -/
def State.entryDone (s : State) : State := s.withWalk { s.walk.advance with job := .none }

/-- The reference of a fault raised while processing the top frame's entry (R24). -/
def Walk.entryRef (w : Walk) : WalkRef :=
  match w.stack with
  | f :: _ => .entry f.signer f.next
  | [] => .entry 0 0

/-- A rejected entry is fatal, or skipped (R35). -/
def State.reject (s : State) (fatal : Bool) (kind : WalkFault) : State :=
  if fatal then s.walkFault kind s.walk.entryRef else s.entryDone

/-- The class rule for an IMAGE entry (R35). That an entry of no class is fatal with ROLLBACK, too, is log 27. -/
def imageFatal : Option ImageClass → Bool
  | some .boot => true
  | some .print => true
  | some .optional => false
  | none => true

/-- The class rule for a DELEGATE entry (R35). -/
def ClassMask.fatal (k : ClassMask) : Bool := k.boot || k.print

/-! ## IMAGE entries (R27 to R29) -/

/-- The walker claims a slot for the next piece of the list (R29). -/
def State.claimPiece (s : State) (j : ListJob) : State :=
  match s.boot.active with
  | some b => (s.claimIntake .list b (j.loc / chunkWords)).1
  | none => s

/-- An IMAGE entry is taken (R28): its region record, its digest records, and its list to be streamed. -/
def State.takeImage (s : State) (m : Memory) (i : Nat) (f : Frame) (cls : ImageClass) : State :=
  let first := s.tables.chunks.length
  let index := s.tables.regions.length
  let count := entryCount m i
  let region : ImageRegion :=
    { imageId := entryImageId m i, cls := cls, signer := f.signer, base := entryBase m i, count := count,
      first := first, counter := Fin.ofNat 8 (entryCounter m i), version := entryVersion m i,
      engine := entryEngine m i, state := .loading, good := 0, bad := 0 }
  let s := s.withTables
    { regions := s.tables.regions ++ [.image region],
      chunks := s.tables.chunks ++ List.replicate count { expected := none, owner := index, state := .unchecked } }
  let j : ListJob :=
    { region := index, hash := entryDigest m i, loc := entryListLoc m i, left := count, record := first,
      running := shaInit }
  (s.withWalk { s.walk with engineUsed := s.walk.engineUsed || entryEngine m i, job := .list j }).claimPiece j

/-- Check 2 of R27 but for the class mask: the range lies inside the scope and the list location is acceptable. -/
def imageRangeOk (words : Nat) (m : Memory) (i : Nat) (f : Frame) : Bool :=
  decide (1 ≤ entryCount m i) && decide (entryCount m i ≤ 4095) &&
  rangeInside (entryBase m i) (entryCount m i) f.base f.count &&
  decide (entryListLoc m i % 8 = 0) && decide (entryListLoc m i + 8 * entryCount m i ≤ words)

/-- The five checks of R27, in order. -/
def State.processImage (s : State) (m : Memory) (i : Nat) (f : Frame) : State :=
  let cls := entryClass m i
  let rej := s.reject (imageFatal cls)
  if !entryFresh s.fuse m i then rej .rollback
  else match cls with
    | none => rej .scope
    | some c =>
      if !(f.mask.has c && imageRangeOk s.bankWords m i f) then rej .scope
      else if 16 ≤ s.tables.regions.length then rej .capacity
      else if 4096 - s.tables.chunks.length < entryCount m i then rej .capacity
      else if entryEngine m i && s.walk.engineUsed then rej .engineTwice
      else s.takeImage m i f c

/-! ## DATA entries (R31) -/

def State.processData (s : State) (m : Memory) (i : Nat) (f : Frame) : State :=
  let base := 16 * entryBaseSector m i
  let count := 16 * entrySectorCount m i
  if decide (1 ≤ entrySectorCount m i) && rangeInside base count f.base f.count &&
      decide (base + count ≤ manifestChunk s.lines.fsz) && decide (s.tables.regions.length < 16) then
    (s.withTables { s.tables with
      regions := s.tables.regions ++ [.data { signer := f.signer, base := base, count := count }] }).entryDone
  else s.entryDone

/-! ## DELEGATE entries (R32, R33) -/

/-- Check 3 of R32. -/
def delegateScopeOk (m : Memory) (i : Nat) (f : Frame) : Bool :=
  let loc := entryManifestLoc m i
  (entryMask m i).inside f.mask && decide (1 ≤ entryCount m i) &&
  rangeInside (entryBase m i) (entryCount m i) f.base f.count &&
  decide (loc % chunkWords = 0) && decide (entryBase m i ≤ loc / chunkWords) &&
  decide (loc / chunkWords < entryBase m i + entryCount m i)

/-- A DELEGATE entry has passed the first phase: a MANIFEST slot is claimed (R32). -/
def State.claimDelegate (s : State) (m : Memory) (i : Nat) : State :=
  match s.boot.active with
  | none => s
  | some b =>
    match s.claimIntake .manifest b (entryManifestLoc m i / chunkWords) with
    | (s', some slot) =>
      let j : DelegateJob :=
        { slot := slot, at_ := .fill, base := entryBase m i, count := entryCount m i, mask := entryMask m i,
          keyDigest := entryDigest m i }
      s'.withWalk { s'.walk with job := .delegate j }
    | (s', none) => s'

/-- The first phase of R32, and R33. -/
def State.processDelegate (s : State) (m : Memory) (i : Nat) (f : Frame) : State :=
  let fatal := (entryMask m i).fatal
  if 8 ≤ s.walk.keys.length then s.reject fatal .capacity
  else if 4 ≤ s.walk.stack.length then s.reject (fatal || s.boot.params.overflowStrict) .overflow
  else if !delegateScopeOk m i f then s.reject fatal .scope
  else s.claimDelegate m i

/-- A delegation is accepted: key record and frame (R32). -/
def State.acceptDelegate (s : State) (j : DelegateJob) : State :=
  match s.walk.stack with
  | [] => s
  | f :: rest =>
    let k := s.walk.keys.length
    let depth := (s.walk.keys[f.signer]?).elim 1 KeyRecord.depth
    s.withWalk { s.walk with
      keys := s.walk.keys ++ [{ digest := j.keyDigest, parent := some f.signer, depth := depth + 1,
                                entry := some f.next }]
      stack := { slot := j.slot, signer := k, next := 0, base := j.base, count := j.count, mask := j.mask } ::
        { f with next := f.next + 1 } :: rest
      job := .none }

/-- A delegation is rejected in its second phase: its slot goes FREE and the class rule decides (R32, R35). -/
def State.rejectDelegate (s : State) (j : DelegateJob) : State :=
  (s.releaseSlot j.slot).reject j.mask.fatal .delegateBad

/-! ## Closing the walk (R34, R37, R38) -/

/-- Two records overlap: some chunk lies in both ranges (R37). -/
def Region.overlaps (r q : Region) : Bool := decide (r.base < q.base + q.count) && decide (q.base < r.base + r.count)

/-- The first record, in table order, that overlaps an earlier one or covers the manifest sector (R37). -/
def findOverlap (limit : Nat) : List Region → Nat → List Region → Option Nat
  | _, _, [] => none
  | earlier, i, r :: rs =>
    if decide (limit < r.base + r.count) || earlier.any (r.overlaps ·) then some i
    else findOverlap limit (earlier ++ [r]) (i + 1) rs

/-- The indices, from `i` up, of the IMAGE records of a class that are not FAILED (R38). -/
def listClass (c : ImageClass) : List Region → Nat → List Nat
  | [], _ => []
  | .image g :: rs, i =>
    if g.cls = c ∧ g.state ≠ .failed then i :: listClass c rs (i + 1) else listClass c rs (i + 1)
  | .data _ :: rs, i => listClass c rs (i + 1)

/-- The BOOT and then the PRINT entries of the scan list (R38). -/
def Tables.requiredList (t : Tables) : List Nat := listClass .boot t.regions 0 ++ listClass .print t.regions 0

/-- The scan list (R38). -/
def Tables.scanList (t : Tables) : List Nat := (t.requiredList ++ listClass .optional t.regions 0).take 8

/-- The stack is empty: the overlap check, the scan list and the outcome (R37 to R39). -/
def State.closeWalk (s : State) : State :=
  match findOverlap (manifestChunk s.lines.fsz) [] 0 s.tables.regions with
  | some i => s.walkFault .overlap (.region i)
  | none =>
    match s.tables.requiredList[8]? with
    | some i => s.walkFault .capacity (.region i)
    | none =>
      (s.withScan { s.scan with list := s.tables.scanList }).withWalk { s.walk with outcome := some .success }

/-- The exhausted top frame is popped and its slot freed (R34). -/
def State.popFrame (s : State) (f : Frame) (rest : List Frame) : State :=
  (s.withWalk { s.walk with stack := rest }).releaseSlot f.slot

/-- One step of the walker: an entry, a pop, or the close (R26, R34, R37). -/
def State.walkStep (s : State) : State :=
  match s.walk.stack with
  | [] => s.closeWalk
  | f :: rest =>
    let m := (s.slot f.slot).buffer
    if manifestCount m ≤ f.next then s.popFrame f rest
    else if entryKind m f.next = kindImage then s.processImage m f.next f
    else if entryKind m f.next = kindData then s.processData m f.next f
    else s.processDelegate m f.next f

/-- The walker goes on: the boot state is WALKING, it waits for nothing and has no outcome. -/
def State.walkGoes (s : State) : Bool :=
  decide (s.boot.state = .walking) && decide (s.walk.job = .none) && s.walk.outcome.isNone

/-- The walker runs until it waits for the Chunk Verifier or ends (R26). -/
def State.walkRun : Nat → State → State
  | 0, s => s
  | fuel + 1, s => if s.walkGoes then State.walkRun fuel s.walkStep else s

/-- Enough fuel for every entry left in the stack, every pop, and the close. -/
def State.walkFuel (s : State) : Nat :=
  (s.walk.stack.map fun f => manifestCount (s.slot f.slot).buffer - f.next).sum + s.walk.stack.length + 1

/-! ## Starting a walk, fallback, and the outcome (R11, R13, R25) -/

/-- WALKING is entered for a candidate (R11, R25): active bank, parameters, key record 0, the root frame.
`reserve` is the slot that keeps the next candidate's manifest. -/
def State.startWalk (s : State) (position : Nat) (c : Candidate) (reserve : Option (Fin 8)) : State :=
  let m := (s.slot c.slot).buffer
  let s := s.withBoot { s.boot with
    state := .walking, active := some c.bank, current := some position, reserve := reserve,
    params := manifestParams m }
  s.withWalk { s.walk with
    stack := [{ slot := c.slot, signer := 0, next := 0, base := 0, count := manifestChunk s.lines.fsz,
                mask := { boot := true, print := true, optional := true } }]
    keys := [{ digest := c.keyDigest, parent := none, depth := 1, entry := none }]
    outcome := none, engineUsed := false, job := .none }

/-- The next candidate of the list, with its position (R13). -/
def State.nextCandidate (s : State) : Option (Nat × Candidate) :=
  match s.boot.current with
  | some n => (s.boot.candidates[n + 1]?).map fun c => (n + 1, c)
  | none => none

/-- Steps 1 to 4 of a fallback (R13): everything of the bank is cleared but the reserve root slot. -/
def State.abandonBank (s : State) : State :=
  let s := s.clearBank.abandonSlots s.boot.reserve
  let s := s.withArbiter s.arbiter.abandonBursts
  s.withBoot { s.boot with active := none }

/-- A fallback (R13): the next candidate is walked with the reserve root slot as its root frame's slot, or NO_BANK. -/
def State.fallback (s : State) : State :=
  let next := s.nextCandidate
  let s := s.abandonBank
  match next with
  | some (n, c) => s.startWalk n c none
  | none => s.enterNoBank

/-- The Boot Controller acts on the walk's outcome, and the walker runs on for a next candidate (R11, R13). `fuel`
bounds the candidates. -/
def State.walkOn : Nat → State → State
  | 0, s => s
  | fuel + 1, s =>
    let s := State.walkRun s.walkFuel s
    match s.boot.state, s.walk.outcome with
    | .walking, some .success => s.enterPreverify
    | .walking, some (.fault _ _) => State.walkOn fuel s.fallback
    | _, _ => s

/-- Enough fuel for every candidate. -/
def State.walkOnAll (s : State) : State := State.walkOn (s.boot.candidates.length + 1) s

/-- A fallback from PREVERIFY, and the walk that follows (R12, R13). -/
def State.fallbackAndWalk (s : State) : State := s.fallback.walkOnAll

/-! ## Candidacy (R7 to R10) -/

def Boot.root (b : Boot) : Bank → RootJudgement
  | .bank0 => b.root0
  | .bank1 => b.root1

def Boot.setRoot (b : Boot) (k : Bank) (r : RootJudgement) : Boot :=
  match k with
  | .bank0 => { b with root0 := r }
  | .bank1 => { b with root1 := r }

def State.setRoot (s : State) (k : Bank) (r : RootJudgement) : State := s.withBoot (s.boot.setRoot k r)

/-- A root judgement that stands at a slot. -/
def RootJudgement.at? : RootJudgement → Fin 8 → Option (JudgeStep × List Byte)
  | .judging j st d, i => if j = i then some (st, d) else none
  | .notJudged, _ => none
  | .rejected, _ => none
  | .candidate _ _, _ => none

/-- The bank whose root manifest is under judgement in a slot, with the step and the key digest. -/
def State.rootAt (s : State) (i : Fin 8) : Option (Bank × JudgeStep × List Byte) :=
  match s.boot.root0.at? i, s.boot.root1.at? i with
  | some (st, d), _ => some (.bank0, st, d)
  | none, some (st, d) => some (.bank1, st, d)
  | none, none => none

/-- A candidate's entry (R9). -/
def State.candidateOf (s : State) (k : Bank) : Option Candidate :=
  match s.boot.root k with
  | .candidate i d =>
    some { bank := k, sequence := manifestSequence (s.slot i).buffer, keyDigest := d,
           demoted := decide (s.fuse.demoted = some k), slot := i }
  | .notJudged => none
  | .judging _ _ _ => none
  | .rejected => none

/-- Bank 1's candidate comes before bank 0's (R9). -/
def Candidate.before (c1 c0 : Candidate) : Bool :=
  if c1.demoted = c0.demoted then decide (c0.sequence < c1.sequence) else c0.demoted

/-- The candidate list (R9). -/
def State.orderCandidates (s : State) : List Candidate :=
  match s.candidateOf .bank0, s.candidateOf .bank1 with
  | some c0, some c1 => if c1.before c0 then [c1, c0] else [c0, c1]
  | some c0, none => [c0]
  | none, some c1 => [c1]
  | none, none => []

def RootJudgement.judged : RootJudgement → Bool
  | .rejected => true
  | .candidate _ _ => true
  | .notJudged => false
  | .judging _ _ _ => false

/-- SELECTING ends when both banks have been judged (R10). -/
def State.endSelecting (s : State) : State :=
  if decide (s.boot.state = .selecting) && s.boot.root0.judged && s.boot.root1.judged then
    let list := s.orderCandidates
    let s := s.withBoot { s.boot with candidates := list }
    match list with
    | [] => s.enterNoBank
    | c :: rest => (s.startWalk 0 c (rest.head?.map Candidate.slot)).walkOnAll
  else s

/-- A root manifest fails a check: its slot goes FREE and its bank is not a candidate (R7). -/
def State.rejectRoot (s : State) (k : Bank) (i : Fin 8) : State :=
  ((s.setRoot k .rejected).releaseSlot i).endSelecting

/-- The walker asks for a hash pass over a HELD manifest under judgement (R81). -/
def State.askPass (s : State) (k : Bank) (i : Fin 8) (st : JudgeStep) (digest : List Byte) : State :=
  (s.setRoot k (.judging i st digest)).enqueue i

/-- A root manifest's bytes are in its slot: checks 1 to 5 of R8, then the key pass. -/
def State.rootFilled (s : State) (k : Bank) (i : Fin 8) : State :=
  if rootChecks s.fuse (s.slot i).buffer then s.askPass k i .key [] else s.rejectRoot k i

def State.setDelegate (s : State) (j : DelegateJob) : State := s.withWalk { s.walk with job := .delegate j }

/-- A delegation's second phase fails, and the walker goes on (R32). -/
def State.dropDelegate (s : State) (j : DelegateJob) : State := (s.rejectDelegate j).walkOnAll

/-- A delegate manifest's bytes are in its slot: checks 4 and 5 of R32, then the key pass. -/
def State.delegateFilled (s : State) (j : DelegateJob) : State :=
  if delegateChecks (s.slot j.slot).buffer then (s.setDelegate { j with at_ := .key }).enqueue j.slot
  else s.dropDelegate j

/-- The delegation under judgement in a slot. -/
def State.delegateAt (s : State) (i : Fin 8) : Option DelegateJob :=
  match s.walk.job with
  | .delegate j => if j.slot = i then some j else none
  | .none => none
  | .list _ => none

/-- The walker is told that a MANIFEST slot's bytes are ready (R74). -/
def State.manifestFilled (s : State) (i : Fin 8) : State :=
  match s.rootAt i with
  | some (k, .fill, _) => s.rootFilled k i
  | _ =>
    match s.delegateAt i with
    | some j => if j.at_ = .fill then s.delegateFilled j else s
    | none => s

end Sys2Proof.Machine
end

