-- ==== Sys2Proof/Machine/Verdicts.lean ====
section
/-! DEFINITION. Chunk verdicts, region changes and the Boot Controller's reactions (R47 to R49, R53, R108, R156); digest
lists confirmed and rejected (R30, R52). -/

namespace Sys2Proof.Machine

/-! ## Verdicts on the tables (R47, R48, R53) -/

/-- Replaces an IMAGE record. -/
def Tables.setImage (t : Tables) (i : Nat) (g : ImageRegion) : Tables :=
  { t with regions := t.regions.set i (.image g) }

/-- Moves a chunk's state. -/
def Tables.setChunkState (t : Tables) (record : Nat) (st : ChunkState) : Tables :=
  match t.chunks[record]? with
  | some c => { t with chunks := t.chunks.set record { c with state := st } }
  | none => t

/-- A chunk of the region went from UNCHECKED to GOOD (R47, R48). -/
def ImageRegion.afterGood (g : ImageRegion) : ImageRegion :=
  { g with good := g.good + 1,
           state := if g.state = .checking ∧ g.good + 1 = g.count then .complete else g.state }

/-- A chunk of the region went to BAD, from UNCHECKED or, on patrol, from GOOD (R47, R48). -/
def ImageRegion.afterBad (g : ImageRegion) (fromGood : Bool) : ImageRegion :=
  { g with good := if fromGood then g.good - 1 else g.good, bad := g.bad + 1, state := .failed }

/-- The region change a new record makes (R49). -/
def regionChange (i : Nat) (old new : ImageRegion) : Option (Nat × ImageRegion) :=
  if old.state = new.state then none else some (i, new)

/-- The verdict on a chunk of a region (R53): the tables after it, whether a bad report is made, and the region
change, if any. -/
def Tables.verdict (t : Tables) (i : Nat) (g : ImageRegion) (record : Nat) (digest : List Byte) :
    Tables × Bool × Option (Nat × ImageRegion) :=
  match t.chunks[record]? with
  | none => (t, false, none)
  | some c =>
    match c.expected, c.state with
    | none, _ => (t, false, none)
    | some _, .bad => (t, false, none)
    | some e, .unchecked =>
      if digest = e then
        ((t.setChunkState record .good).setImage i g.afterGood, false, regionChange i g g.afterGood)
      else
        ((t.setChunkState record .bad).setImage i (g.afterBad false), true, regionChange i g (g.afterBad false))
    | some e, .good =>
      if digest = e then (t, false, none)
      else ((t.setChunkState record .bad).setImage i (g.afterBad true), true, regionChange i g (g.afterBad true))

/-! ## Reports to the Boot Controller (R49) -/

/-- Every bad report sets BAD (R49). -/
def State.badReport (s : State) : State := s.withAlerts { s.alerts with bad := true }

/-- The Boot Controller acts on a region change (R12, R16, R159, R160). -/
def State.regionChanged (s : State) (g : ImageRegion) : State :=
  match s.boot.state, g.state with
  | .preverify, .complete => if s.tables.bootComplete then s.enterReleased else s
  | .preverify, .failed => if g.cls = .boot then s.fallbackAndWalk else s
  | .released, .complete => s.judgeOpening
  | .released, .failed => if g.cls.required then s.latchGate .chunkBad else s
  | _, _ => s

/-- The access in progress is the held read's own word read. -/
def State.cpReadGranted (s : State) : Bool :=
  match s.arbiter.access with
  | some (.cpRead _ k) => k
  | _ => false

/-- A BAD verdict ends a held read of its chunk that waits for a grant: the request is withdrawn and the fill word
answered (R108). -/
def State.endHeldOnBad (s : State) (record : Nat) : State :=
  match s.port with
  | .held h =>
    if h.wait = .flash ∧ h.cls = .imageChunk ∧ h.chunk.map ChunkRef.record = some record ∧ !s.cpReadGranted then
      (s.withArbiter { s.arbiter with cpWait := none }).withPort (.answered s.boot.params.fillWord)
    else s
  | .free | .answered _ | .written | .writeHeld => s

/-- Step 1 of R78: the verdict with its counts, reports and reactions. -/
def State.takeVerdict (s : State) (region index : Nat) (digest : List Byte) : State :=
  match s.tables.image region with
  | none => s
  | some g =>
    let record := g.first + index
    let v := s.tables.verdict region g record digest
    let s := s.withTables v.1
    let s := if v.2.1 then s.badReport.endHeldOnBad record else s
    match v.2.2 with
    | some (_, g') => s.regionChanged g'
    | none => s

/-! ## Hash completions (R78, R79) -/

/-- The digest the engine computes over a slot's 4,096 bytes (R53, R77). -/
def State.slotDigest (s : State) (i : Fin 8) : List Byte :=
  chunkDigest (Memory.bytes bufferDefault (s.slot i).buffer 0 4096)

/-- The slot's waiter is answered from the chunk state the verdict left (R79). -/
def State.answerWaiter (s : State) (i : Fin 8) (region index : Nat) : State :=
  match (s.slot i).waiter, s.port with
  | some w, .held _ =>
    s.withPort (.answered
      (if s.chunkStateOf region index = .good then Memory.readWord bufferDefault (s.slot i).buffer w
       else s.boot.params.fillWord))
  | _, _ => s

/-- Steps 2 to 5 of R78, while the engine still works on the slot (a fallback in step 1 has abandoned it, R75). -/
def State.completeHash (s : State) (i : Fin 8) (region index : Nat) : State :=
  if s.verifier.engine = some i then
    (((s.answerWaiter i region index).engineIdle).releaseSlot i).engineNext
  else s

/-! ## Digest lists (R29, R30, R52) -/

/-- The digests of a list piece, 16 bytes each, go into the records from `record` up (R52). -/
def Tables.loadDigests : Tables → Nat → Nat → List Byte → Tables
  | t, _, 0, _ => t
  | t, record, n + 1, bytes =>
    let t' := match t.chunks[record]? with
      | some c => { t with chunks := t.chunks.set record { c with expected := some (bytes.take 16) } }
      | none => t
    Tables.loadDigests t' (record + 1) n (bytes.drop 16)

/-- The list is confirmed: LOADING goes to CHECKING (R30). -/
def Tables.confirmList (t : Tables) (i : Nat) : Tables :=
  match t.image i with
  | some g => t.setImage i { g with state := .checking }
  | none => t

/-- The list mismatched: every record of the region BAD, its bad count its chunk count, the region FAILED (R30). -/
def Tables.rejectList (t : Tables) (i : Nat) : Tables :=
  match t.image i with
  | some g =>
    { (t.setImage i { g with state := .failed, bad := g.count }) with
      chunks := t.chunks.map fun c => if c.owner = i then { c with state := .bad } else c }
  | none => t

/-- Digests in the next piece of a list (R29). -/
def ListJob.pieceDigests (j : ListJob) : Nat := min ((chunkWords - j.loc % chunkWords) / 8) j.left

/-- The finished list hash is compared, and the walker goes on (R30). -/
def State.finishList (s : State) (j : ListJob) : State :=
  if shaFinish j.running = j.hash then
    ((s.withTables (s.tables.confirmList j.region)).entryDone).walkOnAll
  else
    let fatal := match s.tables.image j.region with
      | some g => g.cls.required
      | none => true
    (((s.withTables (s.tables.rejectList j.region)).badReport).reject fatal .listBad).walkOnAll

/-- A list piece's hash completes in slot `i` (R29, R81). -/
def State.pieceHashed (s : State) (i : Fin 8) (j : ListJob) : State :=
  let n := j.pieceDigests
  let bytes := Memory.bytes bufferDefault (s.slot i).buffer (2 * (j.loc % chunkWords)) (16 * n)
  let j' : ListJob :=
    { j with loc := j.loc + 8 * n, left := j.left - n, record := j.record + n,
             running := shaUpdate j.running bytes }
  let s := s.withTables (s.tables.loadDigests j.record n bytes)
  let s := (s.withWalk { s.walk with job := .list j' }).engineIdle.releaseSlot i
  if j'.left = 0 then s.finishList j' else s.claimPiece j'

end Sys2Proof.Machine
end

