-- ==== Sys2Proof/Machine/FilterOps.lean ====
section
/-! DEFINITION. The Controller Port's requests and the Write Filter: held reads, the Command Tracker, permission, refusal,
the operation in flight and the wipe (R99 to R113, R116 to R135). -/

namespace Sys2Proof.Machine

/-! ## The Controller Port's request (R85, log 15) -/

/-- A Controller Port access is in progress on the Flash Port. -/
def State.cpBusy (s : State) : Bool :=
  match s.arbiter.access with
  | some (.cpRead _ _) => true
  | some (.cpSequence _) => true
  | _ => false

/-- The writes of the tracker's list at Flash Port addresses (R122). -/
def State.trackerWrites (s : State) (b : Bank) : List (Nat × Word) :=
  s.filter.tracker.writes.map fun w => (s.flashAddr b w.offset, w.value)

/-- The request the Controller Port has to make: for the held read waiting for its word, else for the forwarded
sequence being sent. -/
def State.cpDue (s : State) : Option CpRequest :=
  match s.port, s.filter.op with
  | .held h, some o =>
    if h.wait = .flash then
      some (.read { bank := h.bank, addr := h.flash, image := decide (h.cls = .imageChunk) })
    else if o.owner = .tracker ∧ o.phase = .sending then
      some (.sequence { bank := o.bank, kind := o.kind, writes := s.trackerWrites o.bank })
    else none
  | .held h, none =>
    if h.wait = .flash then
      some (.read { bank := h.bank, addr := h.flash, image := decide (h.cls = .imageChunk) })
    else none
  | _, some o =>
    if o.owner = .tracker ∧ o.phase = .sending then
      some (.sequence { bank := o.bank, kind := o.kind, writes := s.trackerWrites o.bank })
    else none
  | _, none => none

/-- The port makes the request it has to make, once its previous access has finished (R85). -/
def State.requestCp (s : State) : State :=
  if s.arbiter.cpWait.isNone && !s.cpBusy then
    match s.cpDue with
    | some q => s.withArbiter { s.arbiter with cpWait := some q }
    | none => s
  else s

/-! ## Held reads (R100, R111, R112) -/

/-- The port answers a read (R99). -/
def State.answer (s : State) (w : Word) : State := s.withPort (.answered w)

/-- The port holds a read that is forwarded to flash (R102, R104). -/
def State.forwardRead (s : State) (a : Addr) (d : Decode) : State :=
  match d.loc with
  | some (b, _, f) =>
    (s.withPort (.held { addr := a, cls := d.cls, chunk := d.chunk, bank := b, flash := f, wait := .flash })).requestCp
  | none => s

/-- The word a granted read returns is dropped (R95). -/
def Access.dropCp : Access → Access
  | .cpRead r _ => .cpRead r false
  | .elRead r k => .elRead r k
  | .burst b => .burst b
  | .cpSequence q => .cpSequence q
  | .maintenance q => .maintenance q
  | .settleSequence q => .settleSequence q
  | .filterPoll p w => .filterPoll p w
  | .settlePoll p w => .settlePoll p w

/-- A slot's waiter becomes the demand flag (R80). -/
def Slot.dropWaiter (v : Slot) : Slot := if v.waiter.isSome then { v with waiter := none, flag := true } else v

/-- The waiter leaves its slot or the pending demand (R80). -/
def Verifier.dropWaiter (v : Verifier) : Verifier :=
  { v with slots := mapSlots Slot.dropWaiter v.slots,
           pendingDemand := v.pendingDemand.map fun d => { d with waiter := none } }

/-- The held read ends without an answer (R111, R112). -/
def State.endHeldRead (s : State) : State :=
  match s.port with
  | .held h =>
    let s := s.withPort .free
    match h.wait with
    | .flash =>
      s.withArbiter { s.arbiter with cpWait := none, access := s.arbiter.access.map Access.dropCp }
    | .proof => s.withVerifier s.verifier.dropWaiter
  | .free | .answered _ | .written | .writeHeld => s

/-! ## The Command Tracker (R116 to R119) -/

def Tracker.idle : Tracker := { state := .idle, bank := none, writes := [] }

def State.setTracker (s : State) (t : Tracker) : State := s.withFilter { s.filter with tracker := t }

/-- A capture takes a record, or keeps the one it holds; the count rises and stays at 65,535 (R127). -/
def Filter.violation (f : Filter) (c : Capture) : Filter :=
  { f with violations := min (f.violations + 1) 65535, capture := f.capture.or (some c) }

/-- A refusal (R121, R127): the sequence discarded, the tracker IDLE unless it is FLASH_BUSY, the violation counted, and
VIOLATION set where the capture took the record. -/
def State.refuse (s : State) (reason : Reason) (a : Addr) (v : Word) : State :=
  let c : Capture := { reason := reason, addr := a, value := v, boot := s.boot.state, gate := s.gate.state }
  let s := if s.filter.capture.isNone then s.withAlerts { s.alerts with violation := true } else s
  let s := s.withFilter (s.filter.violation c)
  if s.filter.tracker.state = .flashBusy then s else s.setTracker Tracker.idle

/-- A write taken as the first write of a sequence (R117). -/
def State.firstWrite (s : State) (a : Addr) (v : Word) (d : Decode) : State :=
  match d.loc with
  | none => s.refuse .outOfRange a v
  | some (b, o, _) =>
    if isFirstEnable o v then
      s.setTracker { state := .en1, bank := some b, writes := [{ addr := a, offset := o, value := v }] }
    else s.refuse .stray a v

/-- How the tracker's state takes a write whose decode's bank is the target bank (R118). -/
def TrackerState.take (st : TrackerState) (offset : Nat) (v : Word) : TrackerStep :=
  match st with
  | .en1 => if isSecondEnable offset v then .absorb .enabled else .breaks
  | .enabled =>
    if offset = 0x1E00 then
      if v = 0x0071#16 then .absorb .programWait
      else if v = 0x0026#16 then .absorb .eraseWait
      else if v = 0x00F5#16 then .final .reset
      else .breaks
    else .breaks
  | .programWait => .final .program
  | .eraseWait => if v = 0x00D9#16 then .final .erase else .breaks
  | .idle => .breaks
  | .flashBusy => .breaks

/-! ## Permission (R120) -/

/-- The wipe is running (R130). -/
def WipeState.running : WipeState → Bool
  | .waiting => true
  | .erasing => true
  | .suspended => true
  | .clearing => true
  | .off => false
  | .failed => false

/-- The reason to refuse a PROGRAM or ERASE whose target has a class, in RELEASED (R120). -/
def State.refusalReason (s : State) (c : WindowClass) : Option Reason :=
  match c with
  | .imageChunk => some .activeImage
  | .manifest => some .manifestSector
  | .uncovered => some .uncovered
  | .outOfRange => some .outOfRange
  | .inactive | .data | .unclassified | .noMap =>
    if c = .inactive ∧ s.fuse.lock then some .updateLocked
    else if s.wipe.state.running then some .wipeRunning
    else if s.alerts.supplyLow then some .supplyLow
    else none

/-- The judgement of a sequence at its final write (R120): a RESET is permitted in every case, and in TRANSPARENT
every sequence. -/
def State.judgeSequence (s : State) (k : SequenceKind) (c : WindowClass) : Option Reason :=
  match k with
  | .reset => none
  | .program | .erase => if s.boot.state = .released then s.refusalReason c else none

/-! ## The operation in flight (R122 to R126) -/

/-- The kind of a complete sequence, from its command word (R118). -/
def Tracker.kind (t : Tracker) : SequenceKind :=
  match t.writes[2]? with
  | some w => if w.value = 0x0071#16 then .program else if w.value = 0x0026#16 then .erase else .reset
  | none => .reset

/-- The poll address's bank-relative word: the final write's for a PROGRAM and an ERASE, 0x1E00 for a RESET (R122). -/
def Tracker.pollOffset (t : Tracker) : Nat :=
  match t.kind, t.writes[3]? with
  | .reset, _ => 0x1E00
  | _, some w => w.offset
  | _, none => 0x1E00

/-- The tracker's sequence becomes the operation in flight and is requested (R122). -/
def State.startForward (s : State) : State :=
  match s.filter.tracker.bank with
  | some b =>
    let o : Operation :=
      { owner := .tracker, kind := s.filter.tracker.kind, bank := b,
        pollAddr := s.flashAddr b s.filter.tracker.pollOffset, phase := .sending, retry := false }
    (s.withFilter { s.filter with op := some o }).requestCp
  | none => s

/-- A permitted sequence is forwarded (R122): the write is held, and the sequence waits for an operation in flight. -/
def State.forwardSequence (s : State) (t : Tracker) : State :=
  let s := (s.setTracker { t with state := .flashBusy }).withPort .writeHeld
  if s.filter.op.isNone then s.startForward else s

/-- A forwarded sequence that waited for the wipe's operation is made the operation in flight (R131, R133). -/
def State.startWaiting (s : State) : State :=
  if s.filter.tracker.state = .flashBusy ∧ s.filter.op.isNone then s.startForward else s

/-- A write continues the sequence in progress, or breaks it and is judged as a first write (R118 to R120). -/
def State.continueWrite (s : State) (a : Addr) (v : Word) (d : Decode) : State :=
  let t := s.filter.tracker
  let broken := (s.setTracker Tracker.idle).firstWrite a v d
  match d.loc with
  | none => broken
  | some (b, o, _) =>
    if t.bank = some b then
      let t' : Tracker := { t with writes := t.writes ++ [{ addr := a, offset := o, value := v }] }
      match t.state.take o v with
      | .absorb next => s.setTracker { t' with state := next }
      | .final k =>
        match s.judgeSequence k d.cls with
        | none => s.forwardSequence t'
        | some r => s.refuse r a v
      | .breaks => broken
    else broken

/-- A write reaches the tracker (R116). -/
def State.trackerWrite (s : State) (a : Addr) (v : Word) : State :=
  let d := s.windowMap a
  match s.filter.tracker.state with
  | .idle => s.firstWrite a v d
  | .flashBusy => s.refuse .flashBusy a v
  | .en1 => s.continueWrite a v d
  | .enabled => s.continueWrite a v d
  | .programWait => s.continueWrite a v d
  | .eraseWait => s.continueWrite a v d

/-- The filter's next poll pair is requested (R122, R124). -/
def State.requestPoll (s : State) : State :=
  match s.filter.op with
  | some o => s.withArbiter { s.arbiter with pollWait := some { bank := o.bank, addr := o.pollAddr } }
  | none => s

def State.setOp (s : State) (o : Option Operation) : State := s.withFilter { s.filter with op := o }

/-- A suspended burst of a bank that has gone BUSY is parked (R91). -/
def Arbiter.park (a : Arbiter) (b : Bank) : Arbiter :=
  match a.suspended with
  | some u => if u.bank = b then { a with suspended := none, parked := some u } else a
  | none => a

/-- The final write of a PROGRAM or ERASE has completed: the bank goes BUSY (R91). -/
def State.goBusy (s : State) (q : SequenceRequest) : State :=
  match q.kind with
  | .reset => s
  | .program | .erase => s.withArbiter ((s.arbiter.setCond q.bank .busy).park q.bank)

/-- The operation in flight has been sent and is followed by polls (R122). -/
def State.startPolling (s : State) (o : Operation) : State :=
  (s.setOp (some { o with phase := .polling })).requestPoll

/-- The bank of a PROGRAM or ERASE is reported idle; a RESET made none BUSY (R124, R125). -/
def State.idleAfter (s : State) (o : Operation) : State :=
  match o.kind with
  | .reset => s
  | .program | .erase => s.reportIdle o.bank

/-- The failed flag after a forwarded operation: a RESET leaves it (R124, R125). -/
def Filter.ended (f : Filter) (o : Operation) (failed : Bool) : Filter :=
  { f with op := none, tracker := Tracker.idle,
           failed := match o.kind with | .reset => f.failed | .program | .erase => failed }

/-- A forwarded operation has ended clean, or has been recovered after ENDED_ERROR (R124, R125). -/
def State.endForwarded (s : State) (o : Operation) (failed : Bool) : State :=
  let s := s.idleAfter o
  s.withFilter (s.filter.ended o failed)

/-- WAITING, or SUSPENDED while SUPPLY_LOW is present (R130, R131). -/
def State.wipeReady (s : State) : WipeState := if s.alerts.supplyLow then .suspended else .waiting

/-- The wipe after a sector has been erased: the next sector, or after the last one CLEARING with the lock clear asked
for (R131, R134). -/
def State.wipeAdvance (s : State) : State :=
  if bankSectors s.lines.fsz ≤ s.wipe.k + 1 then
    (s.withWipe { s.wipe with state := .clearing }).withFuse { s.fuse with lockClear := true }
  else s.withWipe { s.wipe with state := s.wipeReady, k := s.wipe.k + 1 }

/-- A sector erase of the wipe ended clean (R131). -/
def State.wipeErased (s : State) (o : Operation) : State :=
  let s := (s.reportIdle o.bank).setOp none
  s.wipeAdvance.startWaiting.fuseResume

/-- A sector erase of the wipe failed and its bank has been recovered (R133). -/
def State.wipeFailed (s : State) (o : Operation) : State :=
  let s := (s.reportIdle o.bank).setOp none
  (s.withWipe { s.wipe with state := .failed, last := .failed }).startWaiting

/-- ENDED_ERROR: the filter's own RESET is requested (R125, R133). -/
def State.recover (s : State) (o : Operation) : State :=
  let s := s.setOp (some { o with phase := .recovering })
  s.withArbiter { s.arbiter with
    maintWait := some { bank := o.bank, kind := .reset, writes := s.resetWrites o.bank } }

/-- The recovery's RESET has been sent (R125, R133). -/
def State.recovered (s : State) (o : Operation) : State :=
  match o.owner with
  | .tracker => s.endForwarded o true
  | .wipe => s.wipeFailed o

/-- A poll pair's judgement moves the operation in flight (R124). -/
def State.judged (s : State) (o : Operation) : Judgement → State
  | .running => s.setOp (some { o with retry := true })
  | .endedError => s.recover o
  | .endedClean =>
    match o.owner with
    | .tracker => s.endForwarded o false
    | .wipe => s.wipeErased o

/-! ## CRST_IN at the tracker (R126) -/

/-- A forwarded sequence is on the Flash Port. -/
def State.sequenceOnPort (s : State) : Bool :=
  match s.arbiter.access with
  | some (.cpSequence _) => true
  | _ => false

/-- The tracker's sequence has been granted: it is on the port, or is being followed (R126). -/
def State.forwardGranted (s : State) : Bool :=
  match s.filter.op with
  | some o =>
    match o.owner, o.phase with
    | .tracker, .sending => s.sequenceOnPort
    | .tracker, .polling => true
    | .tracker, .recovering => true
    | .wipe, _ => false
  | none => false

/-- The operation in flight, less a sequence of the tracker that was not granted (R126). -/
def Filter.dropForward (f : Filter) : Filter :=
  { f with tracker := Tracker.idle,
           op := match f.op with
             | some o => if o.owner = .tracker then none else some o
             | none => none }

/-- CRST_IN reaches the tracker (R126). That it does so in HALTED and in a part reset, too, where R116 stops the tracker with
whatever it holds until the part reset returns it to its first values, is the model's choice (log 33). -/
def State.resetTracker (s : State) : State :=
  match s.filter.tracker.state with
  | .idle => s
  | .flashBusy =>
    if s.forwardGranted then s
    else (s.withFilter s.filter.dropForward).withArbiter { s.arbiter with cpWait := none }
  | .en1 => s.setTracker Tracker.idle
  | .enabled => s.setTracker Tracker.idle
  | .programWait => s.setTracker Tracker.idle
  | .eraseWait => s.setTracker Tracker.idle

end Sys2Proof.Machine
end

