-- ==== Sys2Proof/Machine/ControllerPort.lean ====
section
/-! DEFINITION. The commands of the Controller Port: CRST_IN_ASSERT, CRST_IN_DEASSERT, CP_READ_ARRIVAL, CP_WORD_RETURN, CP_READ_ABANDON,
CP_ACCESS_END, CP_WRITE_ARRIVAL (R99 to R116). -/

namespace Sys2Proof.Machine

/-- CRST_IN asserts (R111, R126, R95): the held read ends, a partial or ungranted sequence is discarded, the port takes
no access. -/
def State.crstAsserts (s : State) : State :=
  let s := s.endHeldRead.resetTracker
  (s.withPort .free).withLines { s.lines with crstIn := true }

def execCrstInAssert (s : State) : Host.Outcome State Fault Refusal :=
  .next s.crstAsserts

/-- CRST_IN deasserts (R99). -/
def execCrstInDeassert (s : State) : Host.Outcome State Fault Refusal :=
  .next (s.withLines { s.lines with crstIn := false })

/-- The port takes an arrival: no access in progress, CRST_IN not asserted, no part reset (R99). -/
def State.portTakes (s : State) : Bool :=
  decide (s.port = .free) && !s.lines.crstIn && !s.lines.inReset

/-! ## Reads (R101 to R106) -/

/-- A read of an UNCHECKED chunk under STALL is held for its proof (R105). -/
def State.stallRead (s : State) (a : Addr) (d : Decode) (c : ChunkRef) : State :=
  match d.loc with
  | some (b, _, f) =>
    let s := s.withPort (.held
      { addr := a, cls := d.cls, chunk := some c, bank := b, flash := f, wait := .proof })
    (s.claimDemand true c.region c.index (some c.offset)).1
  | none => s

/-- A read of an UNCHECKED chunk under FILL: the fill word, and a demand without waiter (R106). -/
def State.fillRead (s : State) (c : ChunkRef) : State :=
  (s.answer s.boot.params.fillWord).claimDemand true c.region c.index none |>.1

/-- A read of an IMAGE chunk (R104). -/
def State.imageRead (s : State) (a : Addr) (d : Decode) : State :=
  match d.chunk, d.state, d.loc with
  | some _, some .good, some (b, _, _) =>
    if s.bankCond b = .idle ∨ ¬ s.boot.params.holdFill then s.forwardRead a d
    else s.answer s.boot.params.fillWord
  | some c, some .unchecked, _ => if s.boot.params.holdFill then s.fillRead c else s.stallRead a d c
  | some _, some .bad, _ => s.answer s.boot.params.fillWord
  | _, _, _ => s

/-- A read by the class of its address (R102 to R104). NO_MAP is answered with 0xFFFF (R101). -/
def State.readByClass (s : State) (a : Addr) : State :=
  let d := s.windowMap a
  match d.cls with
  | .data => s.forwardRead a d
  | .manifest => s.forwardRead a d
  | .inactive => s.forwardRead a d
  | .unclassified => s.forwardRead a d
  | .uncovered => s.answer s.boot.params.fillWord
  | .outOfRange => s.answer s.boot.params.fillWord
  | .imageChunk => s.imageRead a d
  | .noMap => s.answer 0xFFFF#16

/-- A read by the boot state (R101). -/
def State.readArrives (s : State) (a : Addr) : State :=
  match s.boot.state with
  | .released => s.readByClass a
  | .transparent => s.readByClass a
  | .selecting => s.answer 0xFFFF#16
  | .walking => s.answer 0xFFFF#16
  | .preverify => s.answer 0xFFFF#16
  | .noBank => s.answer 0xFFFF#16
  | .halted => s.answer 0xFFFF#16

/-- CP_READ_ARRIVAL (R101). -/
def execCpReadArrival (a : Addr) (s : State) : Host.Outcome State Fault Refusal :=
  .next (if s.portTakes then s.readArrives a else s)

/-! ## The word of a forwarded read (R107) -/

/-- The answer of a held read whose word has returned (R102, R107). -/
def State.heldAnswer (s : State) (h : HeldRead) (w : Word) : Word :=
  match h.chunk with
  | some c =>
    if h.cls = .imageChunk ∧ s.tables.chunkState c.record ≠ .good then s.boot.params.fillWord else w
  | none => w

/-- CP_WORD_RETURN (R107). A word nobody holds a read for is discarded (R95), and a read held meanwhile makes its
request (R85). -/
def State.cpReturns (s : State) : State :=
  match s.arbiter.access with
  | some (.cpRead r keep) =>
    let rd := s.readFlash r.addr
    let s := rd.2.endAccess
    match keep, s.port with
    | true, .held h => if h.wait = .flash then s.answer (s.heldAnswer h rd.1) else s.requestCp
    | _, _ => s.requestCp
  | _ => s

def execCpWordReturn (s : State) : Host.Outcome State Fault Refusal :=
  .next s.cpReturns

/-- CP_READ_ABANDON (R112). -/
def execCpReadAbandon (s : State) : Host.Outcome State Fault Refusal :=
  .next s.endHeldRead

/-- CP_ACCESS_END (R99): an answered access ends; an edge while CP_READY is low for a forwarded sequence does not release
the port (R122). -/
def State.accessEnds (s : State) : State :=
  match s.port with
  | .answered _ => s.withPort .free
  | .written => s.withPort .free
  | .free => s
  | .held _ => s
  | .writeHeld => s

def execCpAccessEnd (s : State) : Host.Outcome State Fault Refusal :=
  .next s.accessEnds

/-! ## Writes (R116) -/

/-- The boot states in which writes reach the tracker (R116). -/
def BootState.writable : BootState → Bool
  | .released => true
  | .transparent => true
  | .selecting => false
  | .walking => false
  | .preverify => false
  | .noBank => false
  | .halted => false

/-- A write arrives: it completes on the port with CP_READY high, unless the tracker forwards its sequence (R99, R116). -/
def State.writeArrives (s : State) (a : Addr) (v : Word) : State :=
  let s := s.withPort .written
  if s.boot.state.writable then s.trackerWrite a v else s

/-- CP_WRITE_ARRIVAL (R116). -/
def execCpWriteArrival (a : Addr) (v : Word) (s : State) : Host.Outcome State Fault Refusal :=
  .next (if s.portTakes then s.writeArrives a v else s)

end Sys2Proof.Machine
end

