-- ==== Sys2Proof/Config.lean ====
section
/-! DEFINITION. What the spec leaves open and no rule fixes: free values, constants without a body.
No proof can learn a value of them, so a claim about them holds for every value. -/

namespace Sys2Proof.Config

/-- The verdict of the signature unit for a public key that is not a point of the curve P-256: the
standard the part uses gives ECDSA no meaning for such a key and the spec none of its own (log 11).
Arguments: the 64 key bytes, the 64 signature bytes, the 32 bytes of the span hash. -/
opaque offCurveVerdict (key signature spanHash : List Byte) : Bool

/-- The code of HALTED in a record's boot state byte: R187 says that HALTED has none, because no frame is
answered in it. No step of the model sends a record that holds it (log 20). -/
opaque haltedCode : Byte

end Sys2Proof.Config
end

