-- ==== Sys2Proof/Machine/Flags.lean ====
section
/-! DEFINITION. Every output and report that is worked out from the state: ALERT (R164), the port lines (R99), the
Engine Link status byte (R145, R185), the counts and the records of the Service Link (R187). -/

namespace Sys2Proof.Machine

/-- ALERT (R164); deasserted during a part reset (R3). -/
def State.alert (s : State) : Bool :=
  let a := s.alerts
  let m := s.boot.params.mask
  !s.lines.inReset &&
  (a.noBank || (a.bad && m.bad) || (a.late && m.late) || (a.violation && m.violation) ||
   (a.supplyLow && m.supplyLow))

/-- CP_READY (R99, R122): low while a read is held and while the final write of a forwarded sequence is held. -/
def State.cpReady (s : State) : Bool :=
  match s.port with
  | .free => true
  | .answered _ => true
  | .held _ => false
  | .written => true
  | .writeHeld => false

/-- The word the port drives on CP_D, if it drives one (R99). -/
def State.cpData (s : State) : Option Word :=
  match s.port with
  | .answered w => some w
  | .free => none
  | .held _ => none
  | .written => none
  | .writeHeld => none

def boolByte (bit : Nat) (b : Bool) : Byte := if b then BitVec.ofNat 8 (2 ^ bit) else 0x00#8

/-- The Engine Link status byte (R145, R185), with the captured UNDER. -/
def State.elStatusByte (s : State) (under : Bool) : Byte :=
  match s.engineWindow with
  | none => boolByte 2 true ||| boolByte 3 under
  | some (_, r) =>
    boolByte 0 (decide (r.state = .complete)) ||| boolByte 1 (decide (r.state = .failed)) ||| boolByte 3 under

/-- The IDENT bytes (R185). -/
def identBytes : List Byte := [0x56#8, 0x62#8, 0x30#8, 0x01#8]

/-! ## EL_DOUT and SL_DOUT (R137, R176) -/

/-- The level of EL_DOUT while the k-th bit of the outgoing byte is placed, counted from 0 at the byte's boundary: the byte's
most significant bit comes first; held high while EL_SEL# is high (R137). -/
def EngineLink.dout (e : EngineLink) (k : Nat) : Bool := !e.selected || e.out.getMsbD k

/-- The byte SL_DOUT sends at the n-th boundary after the frame's decision event, counted from 0: the response's byte n, and
0x00 after its last one; 0x00 while command and argument bytes are received, and in a frame without a response (R176). -/
def ServiceLink.sends (l : ServiceLink) (n : Nat) : Byte :=
  match l.frame with
  | .decided response => response.getD n 0x00#8
  | .receiving => 0x00#8
  | .none => 0x00#8

/-- The level of SL_DOUT while the k-th bit of that byte is placed, counted from 0, most significant first; low while SL_SEL#
is high (R176, R181). -/
def ServiceLink.dout (l : ServiceLink) (n k : Nat) : Bool := l.selected && (l.sends n).getMsbD k

/-! ## Service Link codes (R186, R187) -/

def resultOk : Byte := 0x01#8
def resultRefused : Byte := 0x02#8
def resultBusy : Byte := 0x03#8
def resultBadArg : Byte := 0x04#8
def resultUnknown : Byte := 0x05#8

def Lifecycle.code : Lifecycle → Byte
  | .factory => 0x00#8
  | .deployed => 0x01#8

def BootState.code : BootState → Byte
  | .selecting => 0x00#8
  | .walking => 0x01#8
  | .preverify => 0x02#8
  | .released => 0x03#8
  | .noBank => 0x04#8
  | .transparent => 0x06#8
  | .halted => Config.haltedCode

/-- A bank field: 0x00, 0x01, or 0xFF for none (R187). -/
def bankCode : Option Bank → Byte
  | some .bank0 => 0x00#8
  | some .bank1 => 0x01#8
  | none => 0xFF#8

def GateState.code : GateState → Byte
  | .closed => 0x00#8
  | .opened => 0x01#8
  | .latched => 0x02#8

def gateCauseCode : Option GateCause → Byte
  | none => 0x00#8
  | some .chunkBad => 0x01#8
  | some .late => 0x02#8

def ResetCause.code : ResetCause → Byte
  | .powerOn => 0x01#8
  | .pin => 0x02#8
  | .brownOut => 0x03#8

def WalkFault.code : WalkFault → Byte
  | .rollback => 0x01#8
  | .scope => 0x02#8
  | .capacity => 0x03#8
  | .engineTwice => 0x04#8
  | .overflow => 0x05#8
  | .delegateBad => 0x06#8
  | .listBad => 0x07#8
  | .overlap => 0x08#8

/-- Bytes 7 to 10 of the summary record: the last walk fault's kind, reference form and reference. -/
def walkFaultBytes : Option (WalkFault × WalkRef) → List Byte
  | none => [0x00#8, 0x00#8, 0x00#8, 0x00#8]
  | some (k, .entry signer index) => [k.code, 0x01#8, BitVec.ofNat 8 signer, BitVec.ofNat 8 index]
  | some (k, .region index) => [k.code, 0x02#8, BitVec.ofNat 8 index, 0x00#8]

def WipeState.code : WipeState → Byte
  | .off => 0x00#8
  | .waiting => 0x01#8
  | .erasing => 0x02#8
  | .suspended => 0x03#8
  | .clearing => 0x04#8
  | .failed => 0x05#8

def WipeOutcome.code : WipeOutcome → Byte
  | .none => 0x00#8
  | .completed => 0x01#8
  | .failed => 0x02#8

def Alerts.byte (a : Alerts) : Byte :=
  boolByte 0 a.bad ||| boolByte 1 a.late ||| boolByte 2 a.violation ||| boolByte 3 a.supplyLow |||
  boolByte 4 a.noBank

def Region.isComplete : Region → Bool
  | .image r => decide (r.state = .complete)
  | .data _ => false

/-- The number of IMAGE records that are COMPLETE (R55). -/
def Tables.completeCount (t : Tables) : Nat := t.regions.countP Region.isComplete

/-- A patrol pass runs (R157). -/
def Scan.patrolRunning (c : Scan) : Bool := decide (c.pass = .patrol) || decide (c.pass = .patrolStopping)

/-- The summary record of STATUS, 21 bytes (R178, R187). -/
def State.summary (s : State) : List Byte :=
  [s.fuse.lifecycle.code, s.boot.state.code, bankCode s.boot.active, s.gate.state.code,
   gateCauseCode s.gate.cause, s.alerts.byte, s.lines.cause.code] ++
  walkFaultBytes s.walk.lastFault ++
  [BitVec.ofNat 8 s.tables.regions.length, BitVec.ofNat 8 s.tables.completeCount,
   boolByte 0 s.scan.patrolRunning ||| boolByte 1 s.fuse.lock ||| boolByte 2 s.fuse.op.isSome |||
   boolByte 3 s.fuse.lockClear ||| boolByte 4 s.filter.capture.isSome ||| boolByte 5 s.filter.failed,
   bankCode s.fuse.demoted, BitVec.ofNat 8 s.fuse.work.length, s.wipe.state.code, BitVec.ofNat 8 s.wipe.k,
   s.wipe.last.code] ++
  leBytes 2 s.filter.violations

def ImageClass.code : ImageClass → Byte
  | .boot => 0x01#8
  | .print => 0x02#8
  | .optional => 0x03#8

def RegionState.code : RegionState → Byte
  | .loading => 0x00#8
  | .checking => 0x01#8
  | .complete => 0x02#8
  | .failed => 0x03#8

/-- The region record of REGION, 20 bytes (R187). -/
def Region.record : Region → List Byte
  | .image r =>
    [0x01#8, r.cls.code, BitVec.ofNat 8 r.signer, r.state.code, boolByte 0 r.engine,
     BitVec.ofNat 8 r.counter.val, BitVec.ofNat 8 r.version, 0x00#8] ++
    leBytes 2 r.imageId.toNat ++ leBytes 2 r.base ++ leBytes 2 r.count ++ leBytes 2 r.first ++
    leBytes 2 r.good ++ leBytes 2 r.bad
  | .data r =>
    [0x02#8, 0x00#8, BitVec.ofNat 8 r.signer, 0xFF#8, 0x00#8, 0x00#8, 0x00#8, 0x00#8] ++
    leBytes 2 0 ++ leBytes 2 r.base ++ leBytes 2 r.count ++ leBytes 2 0 ++ leBytes 2 0 ++ leBytes 2 0

/-- The two-bit value of a position of CHUNKS: the chunk's state, or 3 beyond the region's last chunk (R187). -/
def Tables.chunkCode (t : Tables) (r : ImageRegion) (i : Nat) : Nat :=
  if i < r.count then
    match t.chunkState (r.first + i) with
    | .unchecked => 0
    | .good => 1
    | .bad => 2
  else 3

/-- The chunk-state record of CHUNKS, 16 bytes of four positions each, the first lowest (R187). -/
def Tables.chunksRecord (t : Tables) (r : ImageRegion) (start : Nat) : List Byte :=
  (List.range 16).map fun j =>
    let i := start + 4 * j
    BitVec.ofNat 8 (t.chunkCode r i + 4 * t.chunkCode r (i + 1) + 16 * t.chunkCode r (i + 2) +
      64 * t.chunkCode r (i + 3))

def Reason.code : Reason → Byte
  | .activeImage => 0x01#8
  | .manifestSector => 0x02#8
  | .uncovered => 0x03#8
  | .updateLocked => 0x04#8
  | .wipeRunning => 0x05#8
  | .supplyLow => 0x06#8
  | .outOfRange => 0x07#8
  | .stray => 0x08#8
  | .flashBusy => 0x09#8

/-- The capture record of CAPTURE, 9 bytes (R187). -/
def captureRecord : Option Capture → List Byte
  | none => List.replicate 9 0x00#8
  | some c =>
    [0x01#8, c.reason.code] ++ leBytes 3 c.addr.toNat ++ leBytes 2 c.value.toNat ++ [c.boot.code, c.gate.code]

def KeyState.code : KeyState → Byte
  | .empty => 0x00#8
  | .active => 0x01#8
  | .revoked => 0x02#8

/-- The record of KEYS: for slots 0 to 3 a state byte and 32 digest bytes (R186). -/
def Fuse.keysRecord (f : Fuse) : List Byte := f.keys.toList.flatMap fun k => k.state.code :: k.digest

/-- The record of COUNTERS (R186). -/
def Fuse.countersRecord (f : Fuse) : List Byte := f.counters.toList.map (BitVec.ofNat 8)

end Sys2Proof.Machine
end

