-- ==== Sys2Proof/Machine/EngineLink.lean ====
section
/-! DEFINITION. The commands of the Engine Link: EL_FRAME_BEGIN, EL_READ, EL_STATUS, EL_IDENT, EL_UNKNOWN_COMMAND, EL_READ_BYTE_BOUNDARY,
EL_STATUS_BYTE_BOUNDARY, EL_WORD_RETURN, EL_FRAME_END (R137 to R147). -/

namespace Sys2Proof.Machine

def State.setPhase (s : State) (p : ElPhase) : State := s.withEl { s.el with phase := p }

/-- EL_FRAME_BEGIN (R137): EL_SEL# falls; the first boundary sends 0xFF. In a part reset and in HALTED no command of the
frame is acted on (R139). -/
def State.elBegins (s : State) : State :=
  if s.el.selected then s
  else s.withEl { s.el with selected := true, out := 0xFF#8, phase := if s.live then .command else .none }

def execElFrameBegin (s : State) : Host.Outcome State Fault Refusal :=
  .next s.elBegins

/-- A command byte is completing in a frame the link acts on (R138, R139). -/
def State.elCommanding (s : State) : Bool := s.live && decide (s.el.phase = .command)

/-- EL_READ (R138): the third address byte completes. -/
def State.elReads (s : State) (a : Addr) : State :=
  if s.elCommanding || (s.live && decide (s.el.phase = .address)) then
    (s.setPhase (.readData a.toNat s.engineWindow.isSome)).readAhead
  else s

def execElRead (a : Addr) (s : State) : Host.Outcome State Fault Refusal :=
  .next (s.elReads a)

/-- EL_STATUS (R145): UNDER is captured for the frame and cleared. -/
def State.elStatusBegins (s : State) : State :=
  if s.elCommanding then s.withEl { s.el with phase := .statusOut s.el.under, under := false } else s

def execElStatus (s : State) : Host.Outcome State Fault Refusal :=
  .next s.elStatusBegins

/-- EL_IDENT (R146). -/
def execElIdent (s : State) : Host.Outcome State Fault Refusal :=
  .next (if s.elCommanding then s.setPhase (.identOut identBytes) else s)

/-- EL_UNKNOWN_COMMAND (R138): 0xFF until the frame ends, whatever the byte. -/
def execElUnknownCommand (_code : Byte) (s : State) : Host.Outcome State Fault Refusal :=
  .next (if s.elCommanding then s.setPhase .discard else s)

/-! ## Boundaries (R142, R145, R146) -/

/-- The low or high byte of a window word, as p gives (R140). -/
def windowByte (p : Nat) (w : Word) : Byte := if p % 2 = 0 then lowByte w else highByte w

/-- Steps 5 and 6 of R142: the ahead buffer's word, which becomes the latch, or an underrun. -/
def State.aheadByte (s : State) (p : Nat) : State :=
  match s.el.ahead with
  | .held w v =>
    if w = p / 2 then
      s.withEl { s.el with latch := some (w, v), ahead := .empty, out := windowByte p v }
    else s.withEl { s.el with out := 0xFF#8, under := true }
  | .pending _ => s.withEl { s.el with out := 0xFF#8, under := true }
  | .empty => s.withEl { s.el with out := 0xFF#8, under := true }

/-- Steps 4 to 6 of R142, for a GOOD chunk: the latch, the ahead buffer, or an underrun. -/
def State.goodByte (s : State) (p : Nat) : State :=
  match s.el.latch with
  | some (w, v) => if w = p / 2 then s.sendEl (windowByte p v) else s.aheadByte p
  | none => s.aheadByte p

/-- The byte chosen at p (R142). -/
def State.readByte (s : State) (p : Nat) (window : Bool) : State :=
  match s.engineWindow with
  | none => s.sendEl 0xFF#8
  | some (r, g) =>
    if !window || decide (g.state = .failed) || !insideWindow g p then s.sendEl 0xFF#8
    else match s.tables.chunkState (g.first + p / 4096) with
      | .bad => s.sendEl 0xFF#8
      | .unchecked => ((s.sendEl 0xFF#8).claimDemand false r (p / 4096) none).1
      | .good => s.goodByte p

/-- A boundary in READ_DATA: the byte, then p advances by one and the next word is asked for (R141, R142). -/
def State.readBoundary (s : State) (p : Nat) (window : Bool) : State :=
  ((((s.readByte p window).setPhase (.readData (p + 1) window)).advanceLink (p + 1)).readAhead)

/-- EL_READ_BYTE_BOUNDARY (R142). The table has no row for the boundaries of the other phases that send data of no
status: COMMAND, ADDRESS, IDENT_OUT and DISCARD; this row serves them (log 16). In a part reset and in HALTED every
boundary sends 0xFF (R139). -/
def State.elBoundary (s : State) : State :=
  if !s.el.selected then s
  else if !s.live then s.sendEl 0xFF#8
  else match s.el.phase with
    | .readData p window => s.readBoundary p window
    | .statusOut _ => s
    | .identOut (b :: bs) => (s.sendEl b).setPhase (.identOut bs)
    | .identOut [] => s.sendEl 0xFF#8
    | .command => s.sendEl 0xFF#8
    | .address => s.sendEl 0xFF#8
    | .discard => s.sendEl 0xFF#8
    | .none => s.sendEl 0xFF#8

def execElReadByteBoundary (s : State) : Host.Outcome State Fault Refusal :=
  .next s.elBoundary

/-- EL_STATUS_BYTE_BOUNDARY (R145): the fields are worked out afresh, UNDER is the captured one. -/
def State.elStatusBoundary (s : State) : State :=
  if !s.el.selected then s
  else if !s.live then s.sendEl 0xFF#8
  else match s.el.phase with
    | .statusOut under => s.sendEl (s.elStatusByte under)
    | _ => s

def execElStatusByteBoundary (s : State) : Host.Outcome State Fault Refusal :=
  .next s.elStatusBoundary

/-! ## Words and the end of a frame (R141, R144) -/

/-- A returned word is held if it is still the wanted word or the word holding p; else it is stale (R141). -/
def EngineLink.takeWord (e : EngineLink) (w : Nat) (v : Word) : EngineLink :=
  match e.phase with
  | .readData p _ =>
    if w = e.wanted p ∨ w = p / 2 then { e with ahead := .held w v } else { e with ahead := .empty }
  | _ => { e with ahead := .empty }

/-- EL_WORD_RETURN (R141). -/
def State.elReturns (s : State) : State :=
  match s.arbiter.access with
  | some (.elRead r keep) =>
    let rd := s.readFlash r.addr
    let s := rd.2.endAccess
    let s := if keep then s.withEl (s.el.takeWord r.window rd.1) else s
    s.readAhead
  | _ => s

def execElWordReturn (s : State) : Host.Outcome State Fault Refusal :=
  .next s.elReturns

/-- EL_FRAME_END (R144): EL_SEL# rises, EL_DOUT is held high (R137). -/
def State.elEnds (s : State) : State :=
  if s.el.selected then
    (let s := s.endLinkRead
     s.withEl { s.el with selected := false, out := 0xFF#8 })
  else s

def execElFrameEnd (s : State) : Host.Outcome State Fault Refusal :=
  .next s.elEnds

end Sys2Proof.Machine
end

