-- ==== Sys2Proof/Machine/FlashPort.lean ====
section
/-! DEFINITION. The commands of the Flash Port: FLASH_GRANT, BURST_WORD_BOUNDARY, BURST_COMPLETE, SEQUENCE_SENT, FLASH_OPERATION_END,
POLL_PAIR_COMPLETE, WIPE_SECTOR_START (R87, R89, R74, R122, R93, R94, R131). -/

namespace Sys2Proof.Machine

/-- FLASH_GRANT (R87). -/
def execFlashGrant (s : State) : Host.Outcome State Fault Refusal :=
  .next s.grant

/-! ## Bursts -/

/-- One word of a burst is read and, while its slot still needs it, written to the slot's buffer (R74, R85, R90). -/
def State.burstWord (s : State) (b : Burst) : State :=
  let r := s.readFlash (b.base + b.read)
  match b.fate with
  | .live =>
    let v := r.2.slot b.slot
    r.2.setSlot b.slot { v with
      buffer := Memory.writeWord bufferDefault v.buffer (burstWords * b.number + b.read) r.1 }
  | .discard => r.2
  | .stop => r.2

/-- What the arbiter does at the boundary after a word (R89, R90, R91): an abandoned burst stops, a burst of a bank gone
BUSY is parked, a class 1 or 2 request that may be granted suspends the burst, else it runs on. -/
def State.burstBoundary (s : State) (b : Burst) : State :=
  if b.fate = .stop then s.endAccess
  else if s.bankCond b.bank ≠ .idle then
    s.withArbiter { s.arbiter with access := none, parked := some b }
  else if s.urgentGrantable then
    s.withArbiter { s.arbiter with access := none, suspended := some b }
  else s.withAccess (.burst b)

/-- BURST_WORD_BOUNDARY (R89): a word of the granted burst other than its 64th has been read. -/
def State.burstAdvances (s : State) : State :=
  match s.arbiter.access with
  | some (.burst b) =>
    if b.read < 63 then (s.burstWord b).burstBoundary { b with read := b.read + 1 } else s
  | _ => s

def execBurstWordBoundary (s : State) : Host.Outcome State Fault Refusal :=
  .next s.burstAdvances

/-- A slot's burst is counted; the next one is requested, or the fill ends (R74). -/
def State.burstCounted (s : State) (i : Fin 8) : State :=
  let v := s.slot i
  let s := s.setSlot i { v with bursts := v.bursts + 1 }
  if v.bursts + 1 < 32 then s.requestBurst i
  else if v.purpose = some .manifest then (s.holdSlot i).manifestFilled i
  else s.enqueue i

/-- BURST_COMPLETE (R74): the 64th word has been read. -/
def State.burstEnds (s : State) : State :=
  match s.arbiter.access with
  | some (.burst b) =>
    if b.read = 63 then
      (let s := (s.burstWord b).endAccess
       if b.fate = .live then s.burstCounted b.slot else s)
    else s
  | _ => s

def execBurstComplete (s : State) : Host.Outcome State Fault Refusal :=
  .next s.burstEnds

/-! ## Sequences -/

/-- A sequence's writes reach the flash and the port is free. -/
def State.sendWrites (s : State) (q : SequenceRequest) : State :=
  (s.withFlash (Flash.writes s.bankWords s.flash q.writes)).endAccess

/-- A forwarded sequence has been sent (R122): the bank BUSY, CP_READY high and the port free, the polls begun. -/
def State.forwardSent (s : State) (q : SequenceRequest) : State :=
  let s := (s.sendWrites q).goBusy q
  let s := match s.filter.op with
    | some o => s.startPolling o
    | none => s
  let s := if s.port = .writeHeld then s.withPort .free else s
  s.requestCp

/-- A maintenance sequence has been sent: a wipe's erase (R131), or a recovery's RESET (R125, R133). -/
def State.maintSent (s : State) (q : SequenceRequest) : State :=
  let s := (s.sendWrites q).goBusy q
  match s.filter.op with
  | some o => if o.phase = .recovering then s.recovered o else s.startPolling o
  | none => s

/-- A settling RESET has been sent (R97). -/
def State.settleSent (s : State) (q : SequenceRequest) : State :=
  let s := s.sendWrites q
  match s.arbiter.settle with
  | some t => s.withArbiter { s.arbiter with settle := some { t with step := .pollDue } }
  | none => s

/-- SEQUENCE_SENT (R122). -/
def State.sequenceSent (s : State) : State :=
  match s.arbiter.access with
  | some (.cpSequence q) => s.forwardSent q
  | some (.maintenance q) => s.maintSent q
  | some (.settleSequence q) => s.settleSent q
  | _ => s

def execSequenceSent (s : State) : Host.Outcome State Fault Refusal :=
  .next s.sequenceSent

/-! ## The flash's own end of an operation -/

/-- FLASH_OPERATION_END (R93). -/
def State.flashEnds (s : State) (error : Bool) (left : List Word) : State :=
  match s.flash.runningOp with
  | some (b, op) => s.withFlash (s.flash.endOp b op error left)
  | none => s

def execFlashOperationEnd (error : Bool) (left : List Word) (s : State) : Host.Outcome State Fault Refusal :=
  .next (s.flashEnds error left)

/-! ## Poll pairs -/

/-- Settling after bank 0 goes on with bank 1, and ends after bank 1 (R97). -/
def nextSettle : Bank → Option Settle
  | .bank0 => some { bank := .bank1, step := .resetDue }
  | .bank1 => none

/-- A settling poll pair's judgement (R97). -/
def State.settleJudged (s : State) (t : Settle) : Judgement → State
  | .running => s.withArbiter { s.arbiter with settle := some { t with step := .retry } }
  | .endedError => s.withArbiter { s.arbiter with settle := some { t with step := .resetDue } }
  | .endedClean =>
    let s := s.reportIdle t.bank
    s.withArbiter { s.arbiter with settle := nextSettle t.bank }

/-- POLL_PAIR_COMPLETE (R94): the second read is made and the pair judged. -/
def State.pollEnds (s : State) : State :=
  match s.arbiter.access with
  | some (.filterPoll p first) =>
    let r := s.readFlash p.addr
    let s := r.2.endAccess
    match s.filter.op with
    | some o => s.judged o (judgePair first r.1)
    | none => s
  | some (.settlePoll p first) =>
    let r := s.readFlash p.addr
    let s := r.2.endAccess
    match s.arbiter.settle with
    | some t => s.settleJudged t (judgePair first r.1)
    | none => s
  | _ => s

def execPollPairComplete (s : State) : Host.Outcome State Fault Refusal :=
  .next s.pollEnds

/-! ## The wipe's erases -/

/-- The conditions of R131 for the wipe to begin a sector. -/
def State.wipeCanStart (s : State) : Bool :=
  s.live && decide (s.wipe.state = .waiting) && decide (s.filter.tracker.state = .idle) && s.filter.op.isNone &&
  !s.alerts.supplyLow

/-- The wipe begins the erase of sector k of the wipe bank (R131). -/
def State.wipeStarts (s : State) : State :=
  if s.wipeCanStart then
    match s.wipe.bank with
    | some b =>
      let offset := s.wipe.k * sectorWords
      let o : Operation :=
        { owner := .wipe, kind := .erase, bank := b, pollAddr := s.flashAddr b offset, phase := .sending,
          retry := false }
      let s := (s.withWipe { s.wipe with state := .erasing }).setOp (some o)
      s.withArbiter { s.arbiter with
        maintWait := some { bank := b, kind := .erase, writes := s.eraseWrites b offset } }
    | none => s
  else s

/-- WIPE_SECTOR_START (R131). -/
def execWipeSectorStart (s : State) : Host.Outcome State Fault Refusal :=
  .next s.wipeStarts

end Sys2Proof.Machine
end

