-- ==== Sys2Proof/Machine/FuseCells.lean ====
section
/-! DEFINITION. The commands of the fuse programmer: FUSE_STEP_END, FUSE_OPERATION_END (R172, R173, R134). -/

namespace Sys2Proof.Machine

/-- A rollback counter rises by one (R172). -/
def Fuse.stepCounter (f : Fuse) (c : Fin 8) : Fuse := { f with counters := f.counters.set c (f.counters[c] + 1) }

/-- One step of a COMMIT ends (R172); the step that takes the last counter to its target ends the COMMIT (log 13). -/
def State.fuseStep (s : State) : State :=
  match s.fuse.op with
  | some (.commit ((c, target) :: rest)) =>
    let s := s.withFuse (s.fuse.stepCounter c)
    let left := if s.fuse.counters[c] < target then (c, target) :: rest else rest
    if left.isEmpty then s.endFuse else s.beginFuse (.commit left)
  | _ => s

/-- FUSE_STEP_END (R172). -/
def execFuseStepEnd (s : State) : Host.Outcome State Fault Refusal :=
  .next s.fuseStep

/-- A key slot's cells (R171). -/
def Fuse.setKey (f : Fuse) (i : Fin 4) (k : KeySlot) : Fuse := { f with keys := f.keys.set i k }

/-- The cells an operation writes when it ends (R173); COMMIT has written its counters step by step. -/
def Fuse.written (f : Fuse) : FuseOp → Fuse
  | .commit _ => f
  | .demote b => { f with demoted := b }
  | .undemote => { f with demoted := none }
  | .lockClear => { f with lock := false }
  | .lockSet => { f with lock := true }
  | .provision i d => f.setKey i { state := .active, digest := d }
  | .revoke i => f.setKey i { f.keys[i] with state := .revoked }
  | .close => { f with lifecycle := .deployed }

/-- The wipe when its lock clear ends (R134). -/
def Wipe.cleared (w : Wipe) : Wipe :=
  if w.state = .clearing then { w with state := .off, k := 0, last := .completed } else w

/-- A fuse operation ends with its cells written (R173). A COMMIT with steps to come does not end here (log 13). In HALTED
and in a part reset the end of a lock clear leaves the wipe's state, which is kept until the reset ends (R135; that a
part reset does so is the model's choice, log 36). -/
def State.fuseEnds (s : State) : State :=
  match s.fuse.op with
  | none => s
  | some (.commit (_ :: _)) => s
  | some .lockClear => ((s.withFuse (s.fuse.written .lockClear)).withWipe (if s.live then s.wipe.cleared else s.wipe)).endFuse
  | some op => (s.withFuse (s.fuse.written op)).endFuse

/-- FUSE_OPERATION_END (R173). -/
def execFuseOperationEnd (s : State) : Host.Outcome State Fault Refusal :=
  .next s.fuseEnds

end Sys2Proof.Machine
end

