-- ==== Sys2Proof/Machine/Ecdsa.lean ====
section
/-! DEFINITION. The signature unit's check: ECDSA over the curve P-256 with a SHA-256 hash (00_scope.md, What this
manual covers; R82), as the published standards FIPS 186-5 and SEC 1 and 2 define it (PRESUMED from them, log 11).
The integers of keys and signatures are little-endian (spec/12, R182). -/

namespace Sys2Proof.Machine

/-- The field prime of P-256. -/
def p256P : Nat := 0xffffffff00000001000000000000000000000000ffffffffffffffffffffffff

/-- The order of the base point. -/
def p256N : Nat := 0xffffffff00000000ffffffffffffffffbce6faada7179e84f3b9cac2fc632551

/-- The coefficient b; the coefficient a is p - 3. -/
def p256B : Nat := 0x5ac635d8aa3a93e7b3ebbd55769886bc651d06b0cc53b0f63bce3c3e27d2604b

def p256Gx : Nat := 0x6b17d1f2e12c4247f8bce6e563a440f277037d812deb33a0f4a13945d898c296

def p256Gy : Nat := 0x4fe342e2fe1a7f9b8ee7eb4a7c0f9e162bce33576b315ececbb6406837bf51f5

/-- Subtraction modulo `m`. -/
def modSub (m a b : Nat) : Nat := (a % m + (m - b % m)) % m

/-- `acc` times `b` to the power `e`, modulo `m`, for `e` below 2 to the power `fuel`. -/
def modPowAux (m : Nat) : Nat → Nat → Nat → Nat → Nat
  | 0, _, _, acc => acc
  | fuel + 1, b, e, acc => modPowAux m fuel (b * b % m) (e / 2) (if e % 2 = 1 then acc * b % m else acc)

/-- The inverse modulo a prime below 2^256, by Fermat. -/
def modInv (m a : Nat) : Nat := modPowAux m 256 (a % m) (m - 2) 1

/-- Doubling in Jacobian coordinates (x, y, z), z = 0 the point at infinity; a = -3. -/
def p256Double (q : Nat × Nat × Nat) : Nat × Nat × Nat :=
  let x := q.1
  let y := q.2.1
  let z := q.2.2
  let p := p256P
  let zz := z * z % p
  let yy := y * y % p
  let beta := x * yy % p
  let alpha := 3 * (modSub p x zz) * ((x + zz) % p) % p
  let x3 := modSub p (alpha * alpha) (8 * beta)
  let z3 := 2 * y * z % p
  let y3 := modSub p (alpha * modSub p (4 * beta) x3) (8 * yy * yy)
  (x3, y3, z3)

/-- Addition in Jacobian coordinates. -/
def p256Add (q r : Nat × Nat × Nat) : Nat × Nat × Nat :=
  if q.2.2 = 0 then r
  else if r.2.2 = 0 then q
  else
    let p := p256P
    let z1 := q.2.2
    let z2 := r.2.2
    let z1z1 := z1 * z1 % p
    let z2z2 := z2 * z2 % p
    let u1 := q.1 * z2z2 % p
    let u2 := r.1 * z1z1 % p
    let s1 := q.2.1 * z2 * z2z2 % p
    let s2 := r.2.1 * z1 * z1z1 % p
    if u1 = u2 then (if s1 = s2 then p256Double q else (1, 1, 0))
    else
      let h := modSub p u2 u1
      let d := modSub p s2 s1
      let hh := h * h % p
      let hhh := h * hh % p
      let v := u1 * hh % p
      let x3 := modSub p (modSub p (d * d) hhh) (2 * v)
      (x3, modSub p (d * modSub p v x3) (s1 * hhh), z1 * z2 * h % p)

/-- `acc` plus `k` times `q`, for `k` below 2 to the power `fuel`. -/
def p256MulAux : Nat → Nat → Nat × Nat × Nat → Nat × Nat × Nat → Nat × Nat × Nat
  | 0, _, _, acc => acc
  | fuel + 1, k, q, acc => p256MulAux fuel (k / 2) (p256Double q) (if k % 2 = 1 then p256Add acc q else acc)

def p256Mul (k : Nat) (q : Nat × Nat × Nat) : Nat × Nat × Nat := p256MulAux 256 k q (1, 1, 0)

/-- The key is an affine point of the curve. -/
def p256OnCurve (x y : Nat) : Bool :=
  decide (x < p256P) && decide (y < p256P) &&
  decide (y * y % p256P = modSub p256P (x * x * x + p256B) (3 * x))

/-- The ECDSA verification equation (SEC 1, 4.1.4) for a key on the curve. -/
def p256Verify (x y r s e : Nat) : Bool :=
  if 0 < r ∧ r < p256N ∧ 0 < s ∧ s < p256N then
    let w := modInv p256N s
    let u1 := e * w % p256N
    let u2 := r * w % p256N
    let q := p256Add (p256Mul u1 (p256Gx, p256Gy, 1)) (p256Mul u2 (x, y, 1))
    if q.2.2 = 0 then false
    else
      let zi := modInv p256P q.2.2
      decide (q.1 * (zi * zi % p256P) % p256P % p256N = r)
  else false

/-- PASS or FAIL of a signature check (R82): 64 key bytes x then y, 64 signature bytes r then s, each 32 bytes
little-endian (R182, R183), and the 32 bytes of the span hash. -/
def signaturePasses (key signature spanHash : List Byte) : Bool :=
  let x := leNat (key.take 32)
  let y := leNat ((key.drop 32).take 32)
  if p256OnCurve x y then
    p256Verify x y (leNat (signature.take 32)) (leNat ((signature.drop 32).take 32)) (beNat spanHash)
  else Config.offCurveVerdict key signature spanHash

end Sys2Proof.Machine
end

