-- ==== Sys2Proof/Machine/Hashing.lean ====
section
/-! DEFINITION. The commands of the hash engine and the signature unit: CHUNK_HASH_COMPLETE, LIST_PIECE_HASH_COMPLETE, KEY_PASS_COMPLETE,
SPAN_PASS_COMPLETE, SIGNATURE_CHECK_END (R78, R81, R82). -/

namespace Sys2Proof.Machine

/-- The slot the engine hashes, with its record. -/
def State.hashed (s : State) : Option (Fin 8 × Slot) := s.verifier.engine.map fun i => (i, s.slot i)

/-- CHUNK_HASH_COMPLETE (R78). -/
def State.chunkHashed (s : State) : State :=
  match s.hashed with
  | some (i, v) =>
    match v.content with
    | some (.chunk r c) => ((s.takeVerdict r c (s.slotDigest i)).completeHash i r c).readAhead
    | some (.piece _ _) => s
    | none => s
  | none => s

def execChunkHashComplete (s : State) : Host.Outcome State Fault Refusal :=
  .next s.chunkHashed

/-- LIST_PIECE_HASH_COMPLETE (R81). -/
def State.listHashed (s : State) : State :=
  match s.hashed, s.walk.job with
  | some (i, v), .list j => if v.purpose = some .list then (s.pieceHashed i j).engineNext else s
  | _, _ => s

def execListPieceHashComplete (s : State) : Host.Outcome State Fault Refusal :=
  .next s.listHashed

/-- A manifest pass has completed: the engine is idle and the slot HELD (R81). -/
def State.passDone (s : State) (i : Fin 8) : State := s.engineIdle.holdSlot i

/-- A root manifest's key digest is judged (check 6 of R8). -/
def State.rootKeyed (s : State) (k : Bank) (i : Fin 8) (digest : List Byte) : State :=
  if s.fuse.keyActive digest then s.askPass k i .span digest else s.rejectRoot k i

/-- A delegate manifest's key digest is judged (check 6 of R32). -/
def State.delegateKeyed (s : State) (j : DelegateJob) (digest : List Byte) : State :=
  if digest = j.keyDigest then (s.setDelegate { j with at_ := .span }).enqueue j.slot else s.dropDelegate j

/-- KEY_PASS_COMPLETE (R81). -/
def State.keyHashed (s : State) : State :=
  match s.hashed with
  | some (i, v) =>
    let digest := sha256 (manifestKey v.buffer)
    match s.rootAt i, s.delegateAt i with
    | some (k, .key, _), _ => ((s.passDone i).rootKeyed k i digest).engineNext
    | none, some j => if j.at_ = .key then ((s.passDone i).delegateKeyed j digest).engineNext else s
    | _, _ => s
  | none => s

def execKeyPassComplete (s : State) : Host.Outcome State Fault Refusal :=
  .next s.keyHashed

/-- A check request: begun, or waiting while a check is in progress (R82). -/
def Verifier.requestCheck (v : Verifier) (q : CheckRequest) : Verifier :=
  if v.checking.isNone then { v with checking := some q } else { v with checkWaiting := some q }

/-- The span hash goes to the signature unit (R81). -/
def State.askCheck (s : State) (i : Fin 8) (spanHash : List Byte) : State :=
  s.withVerifier (s.verifier.requestCheck { slot := i, spanHash := spanHash })

/-- SPAN_PASS_COMPLETE (R81). -/
def State.spanHashed (s : State) : State :=
  match s.hashed with
  | some (i, v) =>
    let spanHash := sha256 (manifestSpan v.buffer)
    match s.rootAt i, s.delegateAt i with
    | some (k, .span, d), _ =>
      (((s.passDone i).setRoot k (.judging i .check d)).askCheck i spanHash).engineNext
    | none, some j =>
      if j.at_ = .span then
        (((s.passDone i).setDelegate { j with at_ := .check }).askCheck i spanHash).engineNext
      else s
    | _, _ => s
  | none => s

def execSpanPassComplete (s : State) : Host.Outcome State Fault Refusal :=
  .next s.spanHashed

/-- The check in progress ends and the unit starts the waiting request in the same event (R82). -/
def Verifier.nextCheck (v : Verifier) : Verifier := { v with checking := v.checkWaiting, checkWaiting := none }

/-- The unit's verdict on a request (R82). -/
def State.checkPasses (s : State) (q : CheckRequest) : Bool :=
  let m := (s.slot q.slot).buffer
  signaturePasses (manifestKey m) (manifestSignature m) q.spanHash

/-- The walker takes a check's result (R82): a candidate or an accepted delegation on PASS; on FAIL the slot goes FREE. -/
def State.checked (s : State) (q : CheckRequest) (pass : Bool) : State :=
  match s.rootAt q.slot, s.delegateAt q.slot with
  | some (k, .check, d), _ =>
    if pass then (s.setRoot k (.candidate q.slot d)).endSelecting else s.rejectRoot k q.slot
  | none, some j =>
    if j.at_ = .check then
      if pass then (s.acceptDelegate j).walkOnAll else s.dropDelegate j
    else s
  | _, _ => s

/-- SIGNATURE_CHECK_END (R82). -/
def State.checkEnds (s : State) : State :=
  match s.verifier.checking with
  | some q => (s.withVerifier s.verifier.nextCheck).checked q (s.checkPasses q)
  | none => s

def execSignatureCheckEnd (s : State) : Host.Outcome State Fault Refusal :=
  .next s.checkEnds

end Sys2Proof.Machine
end

