-- ==== Sys2Proof/Machine/ResetSupply.lean ====
section
/-! DEFINITION. The commands of reset and supply: POWER_ON, NRST_FALL, PART_RESET_END, BROWN_OUT_FALL, BROWN_OUT_RECOVERY,
SUPPLY_WARNING_FALL, SUPPLY_WARNING_RISE (R1 to R5, R168, R169). -/

namespace Sys2Proof.Machine

/-- The warning level that the SWL straps chose, in millivolts (R168). The model takes the crossing of a level as an event
and holds no voltage (log 28). -/
def State.warningMillivolts (s : State) : Nat := 2900 + 100 * s.lines.swl.toNat

/-- The supply falls below the warning level (R168): SUPPLY_LOW is set and a WAITING wipe is SUSPENDED (R132). In HALTED and
in a part reset the wipe keeps its state (R135; for a part reset that is the model's choice, log 36). -/
def State.supplyFalls (s : State) : State :=
  let s := s.withAlerts { s.alerts with supplyLow := true }
  if s.live ∧ s.wipe.state = .waiting then s.withWipe { s.wipe with state := .suspended } else s

/-- The supply rises above the warning level (R168): SUPPLY_LOW clears, a SUSPENDED wipe is WAITING again (R132), and
the programmer may take its held work. -/
def State.supplyRises (s : State) : State :=
  let s := s.withAlerts { s.alerts with supplyLow := false }
  let s := if s.live ∧ s.wipe.state = .suspended then s.withWipe { s.wipe with state := .waiting } else s
  s.fuseResume

def State.setBrownOut (s : State) (below : Bool) : State := s.withLines { s.lines with belowBrownOut := below }

/-- POWER_ON (R3): a part reset begins with this cause, unless one is in progress (R4); where the flash came up with the
part it is at its power-up (R93). The supply has risen (log 5). -/
def State.powerOn (s : State) (flash : Option (List Word)) : State :=
  let s := (s.beginReset .powerOn).setBrownOut false
  match flash with
  | some left => s.withFlash (s.flash.powerCycle left)
  | none => s

def execPowerOn (flash : Option (List Word)) (s : State) : Host.Outcome State Fault Refusal :=
  .next (s.powerOn flash)

/-- NRST_FALL (R4): nRST goes low; a part reset begins with cause PIN unless one is in progress. -/
def State.nrstFalls (s : State) : State :=
  let s := s.beginReset .pin
  s.withLines { s.lines with nrstLow := true }

def execNrstFall (s : State) : Host.Outcome State Fault Refusal :=
  .next s.nrstFalls

/-- What the end of a part reset waits for in the part itself: a reset in progress, the supply above the brown-out level
and no fuse operation (R3, R174). That nRST is high is what the event says. -/
def State.resetCanEnd (s : State) : Bool :=
  s.lines.inReset && !s.lines.belowBrownOut && s.fuse.op.isNone

/-- PART_RESET_END (R5). -/
def execPartResetEnd (fsz swl : BitVec 2) (low : Bool) (s : State) : Host.Outcome State Fault Refusal :=
  .next (if s.resetCanEnd then s.endReset fsz swl low else s)

/-- BROWN_OUT_FALL (R169): HALTED from any boot state; in a part reset it only lengthens the reset. The supply is then
also below the warning level (R163, log 12). -/
def State.brownOutFalls (s : State) : State :=
  let s := (if s.alerts.supplyLow then s else s.supplyFalls).setBrownOut true
  if s.live then s.enterHalted else s

def execBrownOutFall (s : State) : Host.Outcome State Fault Refusal :=
  .next s.brownOutFalls

/-- BROWN_OUT_RECOVERY (R3, R4): in HALTED a part reset begins with cause BROWN_OUT; in a part reset the supply is above
the level again. -/
def State.brownOutRecovers (s : State) : State :=
  if s.lines.inReset then s.setBrownOut false
  else if s.boot.state = .halted then (s.beginReset .brownOut).setBrownOut false
  else s

def execBrownOutRecovery (s : State) : Host.Outcome State Fault Refusal :=
  .next s.brownOutRecovers

/-- SUPPLY_WARNING_FALL (R168). -/
def execSupplyWarningFall (s : State) : Host.Outcome State Fault Refusal :=
  .next s.supplyFalls

/-- SUPPLY_WARNING_RISE (R168). The supply cannot rise above the warning level while it is below the brown-out level
(log 12). -/
def execSupplyWarningRise (s : State) : Host.Outcome State Fault Refusal :=
  .next (if s.lines.belowBrownOut then s else s.supplyRises)

end Sys2Proof.Machine
end

