-- ==== Sys2Proof/Machine/TimerClock.lean ====
section
/-! DEFINITION. The commands of the timer and the PGATE clock, the poll retry, and the slow tick of an empty queue:
INTAKE_DEADLINE_EXPIRY, BOOT_DEADLINE_EXPIRY, PATROL_INTERVAL_EXPIRY, PGATE_HALF_PERIOD, POLL_RETRY_TICK (R14, R154, R160, R162, R165,
R124; log 2, log 3). -/

namespace Sys2Proof.Machine

/-- The boot state is one of intake (spec/01, 1.3). -/
def BootState.intake : BootState → Bool
  | .selecting => true
  | .walking => true
  | .preverify => true
  | .released => false
  | .noBank => false
  | .halted => false
  | .transparent => false

/-- The timer runs with a purpose, so that its expiry can come (R165). -/
def State.timerFor (s : State) (p : TimerPurpose) : Bool :=
  s.timer.running && decide (s.timer.purpose = p) && s.live

/-- At an expiry the counter returns to 0 and goes on (R165). -/
def State.timerWraps (s : State) : State := s.withTimer { s.timer with counter := 0 }

/-- The intake deadline expires (R14). -/
def State.intakeExpires (s : State) : State :=
  if s.timerFor .intake then
    (let s := s.timerWraps
     if s.boot.state.intake then s.enterNoBank else s)
  else s

def execIntakeDeadlineExpiry (s : State) : Host.Outcome State Fault Refusal :=
  .next s.intakeExpires

/-- The boot deadline expires (R160): a CLOSED gate latches with cause LATE and LATE is set. -/
def State.bootExpires (s : State) : State :=
  if s.timerFor .bootDeadline then
    (let s := s.timerWraps
     if s.gate.state = .closed then (s.withAlerts { s.alerts with late := true }).latchGate .late else s)
  else s

def execBootDeadlineExpiry (s : State) : Host.Outcome State Fault Refusal :=
  .next s.bootExpires

/-- A patrol pass may start (R154). -/
def State.patrolReady (s : State) : Bool :=
  decide (s.gate.state = .opened) && decide (s.boot.params.patrolInterval ≠ 0) && decide (s.scan.pass = .none)

/-- The patrol interval expires (R154): a pass starts, or the expiry is ignored. -/
def State.patrolExpires (s : State) : State :=
  if s.timerFor .patrol then
    (let s := s.timerWraps
     if s.patrolReady then s.startPass .patrol else s)
  else s

def execPatrolIntervalExpiry (s : State) : Host.Outcome State Fault Refusal :=
  .next s.patrolExpires

/-- PGATE changes level (R162). -/
def State.pgateToggles (s : State) : State :=
  if s.gate.state = .opened ∧ s.live then s.withGate s.gate.toggle else s

def execPgateHalfPeriod (s : State) : Host.Outcome State Fault Refusal :=
  .next s.pgateToggles

/-- The Write Filter asks again at the tick after a poll pair judged RUNNING (R124). -/
def State.retryOp (s : State) (o : Operation) : State :=
  if o.phase = .polling ∧ o.retry then (s.setOp (some { o with retry := false })).requestPoll else s

/-- Settling asks again at the tick after a poll pair judged RUNNING (R97). -/
def State.retrySettle (s : State) (t : Settle) : State :=
  if t.step = .retry then s.withArbiter { s.arbiter with settle := some { t with step := .pollDue } } else s

/-- The tick at which a poll pair judged RUNNING is asked for again (R124, R97). -/
def State.pollRetries (s : State) : State :=
  if s.live then
    let u := match s.filter.op with
      | some o => s.retryOp o
      | none => s
    match u.arbiter.settle with
    | some t => u.retrySettle t
    | none => u
  else s

def execPollRetryTick (s : State) : Host.Outcome State Fault Refusal :=
  .next s.pollRetries

/-! ## The slow tick (log 2) -/

/-- The timer at a tick (R165). -/
def State.tickTimer (s : State) : State :=
  if s.live && s.timer.running then
    if s.timer.compare ≤ s.timer.counter + 1 then
      match s.timer.purpose with
      | .intake => s.intakeExpires
      | .bootDeadline => s.bootExpires
      | .patrol => s.patrolExpires
    else s.withTimer { s.timer with counter := s.timer.counter + 1 }
  else s

/-- The PGATE clock at a tick (R162). -/
def State.tickGate (s : State) : State :=
  if s.gate.state = .opened ∧ s.live then
    if s.gate.fresh ∨ s.boot.params.halfPeriod ≤ s.gate.count + 1 then s.pgateToggles
    else s.withGate { s.gate with count := s.gate.count + 1 }
  else s

/-- One tick of the slow oscillator, which an empty queue steps. -/
def State.tick (s : State) : State := s.tickTimer.tickGate.pollRetries

end Sys2Proof.Machine
end

