-- ==== Sys2Proof/Machine/ServiceLink.lean ====
section
/-! DEFINITION. The commands of the Service Link (R176 to R180). Each of the table's command rows is the decision event of
its frame: the result byte, the record, and the effect. -/

namespace Sys2Proof.Machine

/-- SL_FRAME_BEGIN (R176): SL_SEL# falls. A frame begun in a part reset is none after it (R181). -/
def State.slBegins (s : State) : State :=
  if s.sl.selected then s
  else s.withSl { selected := true, frame := if s.lines.inReset then .none else .receiving }

def execSlFrameBegin (s : State) : Host.Outcome State Fault Refusal :=
  .next s.slBegins

/-- SL_FRAME_END (R176): SL_SEL# rises; an undecided frame is discarded without effect. -/
def execSlFrameEnd (s : State) : Host.Outcome State Fault Refusal :=
  .next (s.withSl { selected := false, frame := .none })

/-! ## Commands that report (R178, R55) -/

/-- SL_STATUS (R178). -/
def execSlStatus (s : State) : Host.Outcome State Fault Refusal :=
  .next (s.answerFrame (s, resultOk :: s.summary))

/-- The response of REGION (R55). -/
def State.regionResponse (s : State) (n : Byte) : List Byte :=
  match s.tables.regions[n.toNat]? with
  | some r => resultOk :: r.record
  | none => [resultBadArg]

/-- SL_REGION (R55). -/
def execSlRegion (n : Byte) (s : State) : Host.Outcome State Fault Refusal :=
  .next (s.answerFrame (s, s.regionResponse n))

/-- The response of CHUNKS (R55). -/
def State.chunksResponse (s : State) (n : Byte) (start : Word) : List Byte :=
  match s.tables.image n.toNat with
  | some g => if start.toNat < g.count then resultOk :: s.tables.chunksRecord g start.toNat else [resultBadArg]
  | none => [resultBadArg]

/-- SL_CHUNKS (R55). -/
def execSlChunks (n : Byte) (start : Word) (s : State) : Host.Outcome State Fault Refusal :=
  .next (s.answerFrame (s, s.chunksResponse n start))

/-- The capture is emptied and VIOLATION cleared (R128). -/
def State.emptyCapture (s : State) : State :=
  (s.withFilter { s.filter with capture := none }).withAlerts { s.alerts with violation := false }

/-- SL_CAPTURE (R128). -/
def execSlCapture (s : State) : Host.Outcome State Fault Refusal :=
  .next (s.answerFrame (s.emptyCapture, resultOk :: captureRecord s.filter.capture))

/-- SL_COUNTERS (R178). -/
def execSlCounters (s : State) : Host.Outcome State Fault Refusal :=
  .next (s.answerFrame (s, resultOk :: s.fuse.countersRecord))

/-- SL_KEYS (R178). -/
def execSlKeys (s : State) : Host.Outcome State Fault Refusal :=
  .next (s.answerFrame (s, resultOk :: s.fuse.keysRecord))

/-! ## Commands that use the programmer (R177, R179, R180) -/

/-- A root key slot named by an argument byte; none above 3 (R177). -/
def keySlotArg (slot : Byte) : Option (Fin 4) :=
  if h : slot.toNat < 4 then some ⟨slot.toNat, h⟩ else none

/-- Result and effect of PROVISION (R177, R179). -/
def State.provision (s : State) (slot : Byte) (digest : List Byte) : State × List Byte :=
  match keySlotArg slot with
  | none => (s, [resultBadArg])
  | some i =>
    if s.programmerBusy then (s, [resultBusy])
    else if s.fuse.lifecycle = .deployed ∨ s.fuse.keys[i].state ≠ .empty then (s, [resultRefused])
    else (s.beginFuse (.provision i digest), [resultOk])

/-- SL_PROVISION (R179). -/
def execSlProvision (slot : Byte) (digest : List Byte) (s : State) : Host.Outcome State Fault Refusal :=
  .next (s.answerFrame (s.provision slot digest))

/-- Result and effect of REVOKE (R177, R179). -/
def State.revoke (s : State) (slot : Byte) : State × List Byte :=
  match keySlotArg slot with
  | none => (s, [resultBadArg])
  | some i =>
    if s.programmerBusy then (s, [resultBusy])
    else if s.fuse.keys[i].state ≠ .active then (s, [resultRefused])
    else (s.beginFuse (.revoke i), [resultOk])

/-- SL_REVOKE (R179). -/
def execSlRevoke (slot : Byte) (s : State) : Host.Outcome State Fault Refusal :=
  .next (s.answerFrame (s.revoke slot))

/-- A root key slot is ACTIVE (R177). -/
def Fuse.anyActive (f : Fuse) : Bool := f.keys.toList.any fun k => decide (k.state = .active)

/-- Result and effect of CLOSE (R177, R179). -/
def State.closeLifecycle (s : State) : State × List Byte :=
  if s.programmerBusy then (s, [resultBusy])
  else if s.fuse.lifecycle = .deployed ∨ ¬ s.fuse.anyActive then (s, [resultRefused])
  else (s.beginFuse .close, [resultOk])

/-- SL_CLOSE (R179). -/
def execSlClose (s : State) : Host.Outcome State Fault Refusal :=
  .next (s.answerFrame s.closeLifecycle)

/-- The lock is set and no lock clear is pending or being performed (R177). -/
def Fuse.lockSettled (f : Fuse) : Bool := f.lock && !f.lockClear && !decide (f.op = some .lockClear)

/-- Result and effect of LOCK (R177, R180). -/
def State.lock (s : State) : State × List Byte :=
  if s.fuse.lockSettled then (s, [resultOk])
  else if s.programmerBusy then (s, [resultBusy])
  else (s.beginFuse .lockSet, [resultOk])

/-- SL_LOCK (R180). -/
def execSlLock (s : State) : Host.Outcome State Fault Refusal :=
  .next (s.answerFrame s.lock)

/-! ## WIPE, PATROL, UNKNOWN -/

/-- Result and effect of WIPE (R130, R177). The last wipe outcome stays as it was. -/
def State.startWipe (s : State) : State × List Byte :=
  if s.boot.state ≠ .released ∨ s.wipe.state.running then (s, [resultRefused])
  else
    (s.withWipe { s.wipe with state := s.wipeReady, k := 0, bank := s.boot.active.map Bank.other }, [resultOk])

/-- SL_WIPE (R130). -/
def execSlWipe (s : State) : Host.Outcome State Fault Refusal :=
  .next (s.answerFrame s.startWipe)

/-- Result and effect of PATROL (R154, R177). -/
def State.startPatrol (s : State) : State × List Byte :=
  if s.patrolReady then (s.startPass .patrol, [resultOk]) else (s, [resultRefused])

/-- SL_PATROL (R154). -/
def execSlPatrol (s : State) : Host.Outcome State Fault Refusal :=
  .next (s.answerFrame s.startPatrol)

/-- SL_UNKNOWN (R176): any byte the formats do not list, at its completion. -/
def execSlUnknown (_code : Byte) (s : State) : Host.Outcome State Fault Refusal :=
  .next (s.answerFrame (s, [resultUnknown]))

end Sys2Proof.Machine
end

