-- ==== Sys2Proof/Machine/Dispatch.lean ====
section
/-! DEFINITION. One arm per command. -/

namespace Sys2Proof.Machine

def exec (i : Instr) (s : State) : Host.Outcome State Fault Refusal :=
  match i with
  | .powerOn flash => Sys2Proof.Machine.execPowerOn flash s
  | .nrstFall => Sys2Proof.Machine.execNrstFall s
  | .partResetEnd fsz swl low => Sys2Proof.Machine.execPartResetEnd fsz swl low s
  | .brownOutFall => Sys2Proof.Machine.execBrownOutFall s
  | .brownOutRecovery => Sys2Proof.Machine.execBrownOutRecovery s
  | .supplyWarningFall => Sys2Proof.Machine.execSupplyWarningFall s
  | .supplyWarningRise => Sys2Proof.Machine.execSupplyWarningRise s
  | .crstInAssert => Sys2Proof.Machine.execCrstInAssert s
  | .crstInDeassert => Sys2Proof.Machine.execCrstInDeassert s
  | .intakeDeadlineExpiry => Sys2Proof.Machine.execIntakeDeadlineExpiry s
  | .bootDeadlineExpiry => Sys2Proof.Machine.execBootDeadlineExpiry s
  | .patrolIntervalExpiry => Sys2Proof.Machine.execPatrolIntervalExpiry s
  | .pgateHalfPeriod => Sys2Proof.Machine.execPgateHalfPeriod s
  | .flashGrant => Sys2Proof.Machine.execFlashGrant s
  | .burstWordBoundary => Sys2Proof.Machine.execBurstWordBoundary s
  | .burstComplete => Sys2Proof.Machine.execBurstComplete s
  | .chunkHashComplete => Sys2Proof.Machine.execChunkHashComplete s
  | .listPieceHashComplete => Sys2Proof.Machine.execListPieceHashComplete s
  | .keyPassComplete => Sys2Proof.Machine.execKeyPassComplete s
  | .spanPassComplete => Sys2Proof.Machine.execSpanPassComplete s
  | .signatureCheckEnd => Sys2Proof.Machine.execSignatureCheckEnd s
  | .cpReadArrival addr => Sys2Proof.Machine.execCpReadArrival addr s
  | .cpWordReturn => Sys2Proof.Machine.execCpWordReturn s
  | .cpReadAbandon => Sys2Proof.Machine.execCpReadAbandon s
  | .cpAccessEnd => Sys2Proof.Machine.execCpAccessEnd s
  | .cpWriteArrival addr value => Sys2Proof.Machine.execCpWriteArrival addr value s
  | .sequenceSent => Sys2Proof.Machine.execSequenceSent s
  | .flashOperationEnd error left => Sys2Proof.Machine.execFlashOperationEnd error left s
  | .pollPairComplete => Sys2Proof.Machine.execPollPairComplete s
  | .pollRetryTick => Sys2Proof.Machine.execPollRetryTick s
  | .wipeSectorStart => Sys2Proof.Machine.execWipeSectorStart s
  | .elFrameBegin => Sys2Proof.Machine.execElFrameBegin s
  | .elRead addr => Sys2Proof.Machine.execElRead addr s
  | .elStatus => Sys2Proof.Machine.execElStatus s
  | .elIdent => Sys2Proof.Machine.execElIdent s
  | .elUnknownCommand code => Sys2Proof.Machine.execElUnknownCommand code s
  | .elReadByteBoundary => Sys2Proof.Machine.execElReadByteBoundary s
  | .elStatusByteBoundary => Sys2Proof.Machine.execElStatusByteBoundary s
  | .elWordReturn => Sys2Proof.Machine.execElWordReturn s
  | .elFrameEnd => Sys2Proof.Machine.execElFrameEnd s
  | .slFrameEnd => Sys2Proof.Machine.execSlFrameEnd s
  | .slStatus => Sys2Proof.Machine.execSlStatus s
  | .slRegion n => Sys2Proof.Machine.execSlRegion n s
  | .slChunks n start => Sys2Proof.Machine.execSlChunks n start s
  | .slCapture => Sys2Proof.Machine.execSlCapture s
  | .slCounters => Sys2Proof.Machine.execSlCounters s
  | .slKeys => Sys2Proof.Machine.execSlKeys s
  | .slProvision slot digest => Sys2Proof.Machine.execSlProvision slot digest s
  | .slRevoke slot => Sys2Proof.Machine.execSlRevoke slot s
  | .slClose => Sys2Proof.Machine.execSlClose s
  | .slLock => Sys2Proof.Machine.execSlLock s
  | .slWipe => Sys2Proof.Machine.execSlWipe s
  | .slPatrol => Sys2Proof.Machine.execSlPatrol s
  | .slUnknown code => Sys2Proof.Machine.execSlUnknown code s
  | .fuseStepEnd => Sys2Proof.Machine.execFuseStepEnd s
  | .fuseOperationEnd => Sys2Proof.Machine.execFuseOperationEnd s
  | .slFrameBegin => Sys2Proof.Machine.execSlFrameBegin s

end Sys2Proof.Machine
end

