-- ==== Sys2Proof/Machine/Step.lean ====
section
/-! DEFINITION. One step of the machine: the command at the front of the queue, or on an empty queue one slow tick (log 2). -/

namespace Sys2Proof.Machine

/-- The command at the front of the queue is run with the queue's rest; an empty queue steps one tick of the slow
oscillator (R162, R165; log 2). -/
def step (s : State) : Host.Outcome State Fault Refusal :=
  match s.pending with
  | c :: rest => exec c (s.withPending rest)
  | [] => .next s.tick

/-- The state with the command a table word spells at the front of its queue; the table's rows give no bits, so no
word spells one and the state is unchanged. -/
def State.withFetchWord (s : State) (nbits w : Nat) : State :=
  match decodeTableWord nbits w with
  | some c => s.withPending (c :: s.pending)
  | none => s

end Sys2Proof.Machine
end

