-- ==== Sys2Proof/Safety.lean ====
section
/-! DEFINITION. The laws of the part: what a reader of a claim relies on in every state, in the terms the claims use. Each
is kept by every step (Certificates/Slice0/Obligations.lean states it). -/

namespace Sys2Proof.Machine

/-- The flash array and every slot buffer are in the canonical form of Memory.wf. -/
def State.memoryLaw (s : State) : Prop :=
  Memory.wf flashDefault s.flash.cells = true ∧
  ∀ i : Fin 8, Memory.wf bufferDefault (s.slot i).buffer = true

/-- At most one bank of the flash is RUNNING (R93). -/
def State.flashLaw (s : State) : Prop :=
  ¬ (s.flash.bank0.isRunning = true ∧ s.flash.bank1.isRunning = true)

/-- No Flash Port access and no request for one (R3, R96). -/
def Arbiter.quiet (a : Arbiter) : Prop :=
  a.access = none ∧ a.cpWait = none ∧ a.elWait = none ∧ (∀ i : Fin 8, a.slotWait[i] = none) ∧ a.pollWait = none ∧
  a.maintWait = none ∧ a.suspended = none ∧ a.parked = none

/-- No slot in use, no hash and no signature check (R75). -/
def Verifier.quiet (v : Verifier) : Prop :=
  (∀ i : Fin 8, v.slots[i].state = .free) ∧ v.hashQueue = [] ∧ v.engine = none ∧ v.checking = none ∧
  v.checkWaiting = none ∧ v.pendingDemand = none

/-- In a part reset and in HALTED no block works: no flash access or request, no slot, hash or check, no walk, no held
read, the timer stopped and PGATE low (R3, R18, R75, R96, R113, R166). That the timer is stopped (log 34) and that no slot,
hash, check or walk is left (log 35) in a part reset, too, are the model's choices. -/
def State.quietLaw (s : State) : Prop :=
  s.live = false →
    s.arbiter.quiet ∧ s.verifier.quiet ∧ s.walk.job = .none ∧ (∀ h, s.port ≠ .held h) ∧ s.timer.running = false ∧
    s.gate.pgate = false

/-- The processors are held (R20): CRST_OUT is released only in RELEASED and in TRANSPARENT and not in a part reset,
ERST_OUT only where CRST_OUT is. -/
def State.holdLaw (s : State) : Prop :=
  (s.lines.crstOut = false →
    s.lines.inReset = false ∧ (s.boot.state = .released ∨ s.boot.state = .transparent)) ∧
  (s.lines.erstOut = false → s.lines.crstOut = false)

/-- The print gate (R158): PGATE is high only while the gate is OPEN; a cause is held exactly while it is LATCHED; and
while it is OPEN the boot state is TRANSPARENT, or RELEASED with every BOOT and PRINT region COMPLETE. -/
def State.gateLaw (s : State) : Prop :=
  (s.gate.pgate = true → s.gate.state = .opened) ∧
  (s.gate.cause.isSome = true ↔ s.gate.state = .latched) ∧
  (s.gate.state = .opened →
    s.boot.state = .transparent ∨ (s.boot.state = .released ∧ s.tables.requiredComplete = true))

/-- The walker waits for the Chunk Verifier only while WALKING, with its walk not ended (R26, R36). -/
def State.walkLaw (s : State) : Prop :=
  s.walk.job ≠ .none → s.boot.state = .walking ∧ s.walk.outcome = none

/-- What the fuse programmer performs agrees with the cells as they stand (R173, R177): a PROVISION is for an EMPTY slot, a
REVOKE for an ACTIVE one. -/
def State.fuseLaw (s : State) : Prop :=
  match s.fuse.op with
  | some (.provision i _) => s.fuse.keys[i].state = .empty
  | some (.revoke i) => s.fuse.keys[i].state = .active
  | _ => True

/-- A root key slot's place in its one way from EMPTY to ACTIVE to REVOKED (R171). -/
def KeyState.rank : KeyState → Nat
  | .empty => 0
  | .active => 1
  | .revoked => 2

/-- The one-way cells went forward (R171, R172). -/
def Fuse.forward (f g : Fuse) : Prop :=
  (f.lifecycle = .deployed → g.lifecycle = .deployed) ∧
  (∀ i : Fin 4, f.keys[i].state.rank ≤ g.keys[i].state.rank ∧
    (f.keys[i].state ≠ .empty → g.keys[i].digest = f.keys[i].digest)) ∧
  (∀ c : Fin 8, f.counters[c] ≤ g.counters[c])

/-- No two slots in use hold the same region chunk (R67); and while a demand is pending no slot is FREE or can be
preempted, and none holds its chunk (R71). -/
def State.slotLaw (s : State) : Prop :=
  (∀ i j : Fin 8, ∀ r c, (s.slot i).content = some (.chunk r c) → (s.slot j).content = some (.chunk r c) → i = j) ∧
  (∀ i : Fin 8, (s.slot i).state = .free → (s.slot i).content = none) ∧
  (∀ d, s.verifier.pendingDemand = some d →
    ∀ i : Fin 8, (s.slot i).state ≠ .free ∧ (s.slot i).eligible = false ∧
      (s.slot i).content ≠ some (.chunk d.region d.index))

/-! ## What may be granted (R87, R91) -/

/-- The Controller Port's request may be granted: a read of a bank that is IDLE, or BUSY where it is no read of an image
chunk; a sequence for a bank that is IDLE (R91). -/
def State.cpOpen (s : State) : Prop :=
  (∃ r, s.arbiter.cpWait = some (.read r) ∧
    (s.bankCond r.bank = .idle ∨ (s.bankCond r.bank = .busy ∧ r.image = false))) ∨
  ∃ q, s.arbiter.cpWait = some (.sequence q) ∧ s.bankCond q.bank = .idle

/-- The Engine Link's request may be granted: its bank is IDLE (R91). -/
def State.elOpen (s : State) : Prop := ∃ r, s.arbiter.elWait = some r ∧ s.bankCond r.bank = .idle

/-- A slot's burst request of a class may be granted: its bank is IDLE (R91). -/
def State.slotOpen (s : State) (c : BurstClass) (i : Fin 8) : Prop :=
  s.arbiter.slotWait[i] = some c ∧ ∃ b base, s.slotAddr i = some (b, base) ∧ s.bankCond b = .idle

/-- The parked burst may resume: its bank is IDLE (R87, R91). -/
def State.parkedOpen (s : State) : Prop := ∃ b, s.arbiter.parked = some b ∧ s.bankCond b.bank = .idle

/-- The filter's poll pair may be granted: its bank is not SETTLING (R91). -/
def State.pollOpen (s : State) : Prop := ∃ p, s.arbiter.pollWait = some p ∧ s.bankCond p.bank ≠ .settling

/-- The filter's maintenance sequence may be granted: its bank is not SETTLING (R91). -/
def State.maintOpen (s : State) : Prop := ∃ q, s.arbiter.maintWait = some q ∧ s.bankCond q.bank ≠ .settling

/-- The port is free for a request: no access in progress and no settling access due (R87). -/
def State.portFree (s : State) : Prop :=
  s.live = true ∧ s.arbiter.access = none ∧
  ∀ t, s.arbiter.settle = some t → t.step ≠ .resetDue ∧ t.step ≠ .pollDue

/-- The grant falls to class 3 or below: nothing of class 1 or 2, no parked burst and no suspended burst goes first (R87). -/
def State.class3Turn (s : State) : Prop :=
  s.portFree ∧ ¬ s.cpOpen ∧ ¬ s.elOpen ∧ ¬ s.parkedOpen ∧ s.arbiter.suspended = none

/-- The grant falls to class 5 or below (R87). -/
def State.class5Turn (s : State) : Prop := s.class3Turn ∧ (∀ i, ¬ s.slotOpen .class3 i) ∧ ¬ s.pollOpen

/-! ## The programmer's next work (R173, R175) -/

/-- The counters a COMMIT raises and their targets, in ascending index order: each counter below the greatest version among
the COMPLETE regions that name it, with that version (R175). -/
def commitTargets (t : Tables) (counters : Vector Nat 8) (todo : List (Fin 8 × Nat)) : Prop :=
  todo.Pairwise (fun a b => a.1 < b.1) ∧
  ∀ c n, (c, n) ∈ todo ↔
    counters[c] < n ∧
    (∃ g, Region.image g ∈ t.regions ∧ g.state = .complete ∧ g.counter = c ∧ g.version = n) ∧
    ∀ g, Region.image g ∈ t.regions → g.state = .complete → g.counter = c → g.version ≤ n

/-- `g` is what an IDLE programmer that may begin work makes of its cells and work `f`, whose list is the first argument: the
item at the head is begun, a COMMIT with no counter to raise ends at once, and after the list comes a pending lock clear. -/
def takesWork (t : Tables) (active : Option Bank) (g : Fuse) : List FuseItem → Fuse → Prop
  | [], f =>
    g = if f.lockClear then { f with op := some .lockClear, work := [], lockClear := false } else { f with work := [] }
  | .demote :: rest, f => g = { f with op := some (.demote active), work := rest }
  | .undemote :: rest, f => g = { f with op := some .undemote, work := rest }
  | .commit :: rest, f => ∃ todo, commitTargets t f.counters todo ∧
    (todo = [] → takesWork t active g rest f) ∧ (todo ≠ [] → g = { f with op := some (.commit todo), work := rest })

/-! ## Slots given back, and demands (R65 to R72) -/

/-- A claim order number when number `freed` leaves: the newer claims' numbers fall by one (R65). -/
def orderAfter (freed order : Option Nat) : Option Nat :=
  match freed with
  | some n => order.map fun o => if n < o then o - 1 else o
  | none => order

/-- A slot given back: `t` differs from `s` in that slot, now FREE, in the claim order of the others and in its request. -/
def State.slotFreed (s t : State) (i : Fin 8) : Prop :=
  t.slot i = { state := .free, purpose := none, content := none, bursts := 0, order := none, waiter := none,
               flag := false, buffer := (s.slot i).buffer } ∧
  (∀ j, j ≠ i → t.slot j = { s.slot j with order := orderAfter (s.slot i).order (s.slot j).order }) ∧
  t.arbiter = { s.arbiter with slotWait := s.arbiter.slotWait.set i none }

/-- `s` with a slot's record replaced and its burst request waiting at a class (R66, R86). -/
def State.slotAsking (s : State) (i : Fin 8) (v : Slot) (c : BurstClass) : State :=
  (s.withVerifier { s.verifier with slots := s.verifier.slots.set i v }).withArbiter
    { s.arbiter with slotWait := s.arbiter.slotWait.set i (some c) }

/-- The record of a slot taken for a region chunk (R66, R69): nothing filled, a claim order number, the buffer as it was. -/
def claimedSlot (purpose : Purpose) (region index order : Nat) (waiter : Option Nat) (flag : Bool) (buffer : Memory) : Slot :=
  { state := .filling, purpose := some purpose, content := some (.chunk region index), bursts := 0, order := some order
    waiter := waiter, flag := flag, buffer := buffer }

/-- A demand takes a FREE slot (R69): with its waiter, or with the demand flag. -/
def State.demandTaken (s : State) (i : Fin 8) (region index : Nat) (waiter : Option Nat) : State :=
  s.slotAsking i
    (claimedSlot .demand region index (s.inUseCount + 1) waiter waiter.isNone (s.slot i).buffer) .class3

/-- A demand joins the slot that holds its chunk (R68): the waiter or the demand flag is set, and a request that waits is filed
at class 3 (R86). -/
def State.demandJoined (s : State) (i : Fin 8) (waiter : Option Nat) : State :=
  (s.withVerifier { s.verifier with slots := s.verifier.slots.set i (match waiter with
    | some w => { s.slot i with waiter := some w }
    | none => { s.slot i with flag := true }) }).withArbiter
  { s.arbiter with
    slotWait := if s.arbiter.slotWait[i].isSome then s.arbiter.slotWait.set i (some .class3) else s.arbiter.slotWait }

/-- A Scanner fill that a demand may take (R70). -/
abbrev Slot.preemptible (v : Slot) : Prop :=
  v.state = .filling ∧ (v.purpose = some .scan ∨ v.purpose = some .patrol) ∧ v.waiter = none ∧ v.flag = false

/-- The victim: of the Scanner fills a demand may take, the one with the fewest bursts completed, the newest among equals
(R70). -/
def State.victimIs (s : State) (i : Fin 8) : Prop :=
  (s.slot i).preemptible ∧
  ∀ j, j ≠ i → (s.slot j).preemptible → (s.slot i).bursts < (s.slot j).bursts ∨
    ((s.slot i).bursts = (s.slot j).bursts ∧ ∃ n o, (s.slot i).order = some n ∧ (s.slot j).order = some o ∧ o < n)

/-- `t` is `s` after a demand, which found no slot FREE, has preempted the Scanner fill of slot `i` (R70, R90, R152, R153): the
slot is the demand's, the newest claim of eight; the words of its granted burst are discarded; the Scanner, where the pass
matches the victim's purpose, moves its cursor to the victim's chunk if that lies behind, and steps. -/
def State.demandPreempts (s t : State) (i : Fin 8) (region index : Nat) (waiter : Option Nat) : Prop :=
  let v := s.slot i
  let discarded := fun u : Burst => if u.slot = i ∧ u.fate = .live then { u with fate := .discard } else u
  let matched := (s.scan.pass = .first ∧ v.purpose = some .scan) ∨ (s.scan.pass = .patrol ∧ v.purpose = some .patrol)
  ∃ u : State,
    u = (s.withVerifier { s.verifier with slots := u.verifier.slots }).withArbiter { s.arbiter with
      slotWait := s.arbiter.slotWait.set i (some .class3)
      access := s.arbiter.access.map fun x => match x with
        | .burst b => .burst (discarded b)
        | x => x
      suspended := s.arbiter.suspended.map discarded
      parked := s.arbiter.parked.map discarded } ∧
    u.slot i = claimedSlot .demand region index 8 waiter waiter.isNone v.buffer ∧
    (∀ j, j ≠ i → u.slot j = { s.slot j with order := orderAfter v.order (s.slot j).order }) ∧
    (¬ matched → t = u.endPass) ∧
    (matched → ∀ r k pos at_, v.content = some (.chunk r k) → s.scan.cursor = some at_ → 1 ≤ pos →
      s.scan.list[pos - 1]? = some r → (∀ q, q < pos - 1 → s.scan.list[q]? ≠ some r) →
      let behind := at_ = .endMark ∨ ∃ p m, at_ = .at_ p m ∧ (pos < p ∨ (pos = p ∧ k < m))
      (behind → t = (u.withScan { s.scan with cursor := some (.at_ pos k) }).scanResume) ∧
      (¬ behind → t = u.scanResume))

/-! ## The Scanner (R149, R150, R154) -/

/-- The position at which a pass begins: the first chunk of the list, or the end mark of an empty one. -/
def scanBegin (list : List Nat) : Cursor := if list = [] then .endMark else .at_ 1 0

/-- The state in which a pass has begun, before the Scanner steps. -/
def State.passBegun (s : State) (p : Pass) : State :=
  s.withScan { s.scan with pass := p, cursor := some (scanBegin s.scan.list) }

/-! ## Manifests under judgement -/

/-- The walk after an entry of the top frame has been rejected (R35): its next entry, or the fault with the entry's reference,
kept as the last walk fault (R24). -/
def Walk.rejected (w : Walk) (f : Frame) (rest : List Frame) (fatal : Bool) (kind : WalkFault) : Walk :=
  if fatal then
    { w with outcome := some (.fault kind (.entry f.signer f.next))
             lastFault := some (kind, .entry f.signer f.next), job := .none }
  else { w with stack := { f with next := f.next + 1 } :: rest, job := .none }

/-- The operating parameters in the bytes of a root manifest (R6, R182). -/
def rootParams (m : Memory) : Params :=
  let fld := fun off n => leNat (Memory.bytes bufferDefault m off n)
  { fillWord := BitVec.ofNat 16 (fld 14 2), halfPeriod := fld 7 1, bootDeadline := fld 16 3, patrolInterval := fld 19 3
    overflowStrict := (fld 12 2).testBit 0, holdFill := (fld 12 2).testBit 1
    mask := { bad := (fld 12 2).testBit 4, late := (fld 12 2).testBit 5, violation := (fld 12 2).testBit 6,
              supplyLow := (fld 12 2).testBit 7 } }

/-- The walk of a candidate at its start (R11, R25): WALKING on its bank, the parameters of its root manifest, key record 0 and
the root frame in its slot. -/
def State.walkBegun (s : State) (list : List Candidate) (position : Nat) (c : Candidate) (reserve : Option (Fin 8)) :
    State :=
  (s.withBoot { s.boot with
    state := .walking, active := some c.bank, candidates := list, current := some position, reserve := reserve
    params := rootParams (s.slot c.slot).buffer }).withWalk
  { s.walk with
    stack := [{ slot := c.slot, signer := 0, next := 0, base := 0, count := bankChunks s.lines.fsz - 16,
                mask := { boot := true, print := true, optional := true } }]
    keys := [{ digest := c.keyDigest, parent := none, depth := 1, entry := none }]
    outcome := none, engineUsed := false, job := .none }

/-- NO_BANK has been entered (R17). -/
def noBankEntered (s t : State) : Prop :=
  t.boot.state = .noBank ∧ t.boot.active = none ∧ t.boot.current = none ∧ t.boot.reserve = none ∧
  t.boot.params = Params.reset ∧ t.alerts = { s.alerts with noBank := true } ∧ t.timer = { s.timer with running := false } ∧
  t.tables.regions = [] ∧ t.tables.chunks = [] ∧ t.walk.stack = [] ∧ t.walk.keys = [] ∧
  t.walk.lastFault = s.walk.lastFault ∧ t.scan.list = [] ∧ t.scan.pass = .none ∧ t.verifier.quiet ∧
  t.arbiter.suspended = none ∧ t.arbiter.parked = none ∧ (∀ i : Fin 8, t.arbiter.slotWait[i] = none) ∧
  t.lines = s.lines ∧ t.gate = s.gate ∧ t.fuse = s.fuse ∧ t.flash = s.flash ∧ t.filter = s.filter ∧ t.wipe = s.wipe ∧
  t.port = s.port ∧ t.pending = s.pending

/-! ## Reset and refusal -/

/-- A part reset has begun with this cause (R3): both processors held, PGATE low, ALERT deasserted, the Controller Port
holding no read, the flash and the slots at rest; the cells, the tables and the queue as they were. That the slots are given up
already here is log 35, that the boot state, tables, alert conditions, filter and wipe stay until the reset ends is log 36 (the
model's choices). -/
def resetBegun (s t : State) (cause : ResetCause) : Prop :=
  t.lines.inReset = true ∧ t.lines.cause = cause ∧ t.lines.crstOut = true ∧ t.lines.erstOut = true ∧
  t.gate.pgate = false ∧ t.alert = false ∧ t.port = .free ∧ t.cpReady = true ∧ t.arbiter.quiet ∧ t.verifier.quiet ∧
  t.fuse = s.fuse ∧ t.tables = s.tables ∧ t.alerts = s.alerts ∧ t.filter = s.filter ∧ t.wipe = s.wipe ∧
  t.boot.state = s.boot.state ∧ t.pending = s.pending

/-- What a refused write leaves (R121, R127): the violation counted up to 65,535, the capture filled where it was empty and
VIOLATION set with it, the sequence discarded; FLASH_BUSY stays. -/
def State.refusedWith (s : State) (a : Addr) (v : Word) (r : Reason) : State :=
  ((s.withPort .written).withAlerts
    { s.alerts with violation := s.alerts.violation || s.filter.capture.isNone }).withFilter
    { s.filter with
      violations := min (s.filter.violations + 1) 65535
      capture := s.filter.capture.or
        (some { reason := r, addr := a, value := v, boot := s.boot.state, gate := s.gate.state })
      tracker := if s.filter.tracker.state = .flashBusy then s.filter.tracker
        else { state := .idle, bank := none, writes := [] } }

end Sys2Proof.Machine
end

