-- ==== Sys2Proof/Certificates/Slice0/Obligations.lean ====
section
/-! DEFINITION. The statements for the provers. A claim about what a command does has as its conclusion that exec answers a
next state, and what that state holds; an equation between whole states is its own frame, and elsewhere
`t = (s.withX t.x).withY t.y` says that only the blocks X and Y may differ. -/

open Sys2Proof Sys2Proof.Machine

/-! ## The queue and the tick -/

/-- A step runs the command at the front of the queue with the queue's rest. -/
def Obligations.StepRunsTheCommandAtTheFront : Prop :=
  ∀ (c : Instr) (rest : List Instr) (s : State),
    step (s.withPending (c :: rest)) = exec c (s.withPending rest)

/-- No step stops, and a step takes exactly the front command off the queue. -/
def Obligations.EveryStepAnswersAndTakesOneCommand : Prop :=
  ∀ s : State, ∃ t, step s = .next t ∧ t.pending = s.pending.tail

/-- An empty queue steps one slow tick (the model's choice, log 2): the timer, then the PGATE clock, then the polls that are due.
A stopped timer does not change; a running one counts by one, and where that takes it to its compare value it expires: the tick
acts as the row of its purpose does, and the counter restarts at 0 (R165). With the gate OPEN after that, PGATE is a square wave
(R162): the first tick after the opening takes it high, then it changes level each time the count reaches the half-period, and
the count restarts; with the gate not OPEN it stays. A poll pair judged RUNNING, of the operation in flight or of settling, is
asked for again. PGATE_HALF_PERIOD and POLL_RETRY_TICK do the same parts alone, whatever the counts hold (the model's choice,
log 3). -/
def Obligations.AnEmptyQueueStepsOneTick : Prop :=
  ∀ s : State, s.live = true →
    let gated := fun u : State =>
      if u.gate.state = .opened then
        u.withGate (if u.gate.fresh = true ∨ u.boot.params.halfPeriod ≤ u.gate.count + 1 then
            { u.gate with pgate := !u.gate.pgate, count := 0, fresh := false }
          else { u.gate with count := u.gate.count + 1 })
      else u
    let asked := fun u : State => match u.filter.op with
      | some o =>
        if o.phase = .polling ∧ o.retry = true then
          (u.withFilter { u.filter with op := some { o with retry := false } }).withArbiter
            { u.arbiter with pollWait := some { bank := o.bank, addr := o.pollAddr } }
        else u
      | none => u
    let settled := fun u : State => match u.arbiter.settle with
      | some q => if q.step = .retry then u.withArbiter { u.arbiter with settle := some { q with step := .pollDue } } else u
      | none => u
    let expiry := match s.timer.purpose with
      | .intake => Instr.intakeDeadlineExpiry
      | .bootDeadline => Instr.bootDeadlineExpiry
      | .patrol => Instr.patrolIntervalExpiry
    (s.pending = [] → ∃ u, step s = .next (settled (asked (gated u))) ∧
      (s.timer.running = false → u = s) ∧
      (s.timer.running = true → s.timer.counter + 1 < s.timer.compare →
        u = s.withTimer { s.timer with counter := s.timer.counter + 1 }) ∧
      (s.timer.running = true → s.timer.counter + 1 = s.timer.compare →
        exec expiry s = .next u ∧ u.timer.counter = 0)) ∧
    exec .pollRetryTick s = .next (settled (asked s)) ∧
    (s.gate.state = .opened → exec .pgateHalfPeriod s =
      .next (s.withGate { s.gate with pgate := !s.gate.pgate, count := 0, fresh := false }))

/-- The bytes of R185 and R186 spell the commands of the two links: a well-formed command's bytes decode to it, no shorter
beginning of them decodes to any, and bytes that decode to a command are that command's bytes. READ's address comes most
significant byte first, CHUNKS' start low byte first; a code of neither list is an unknown command. The bits of a frame, each
byte's most significant first, make its bytes, and a last byte with fewer bits than eight is discarded. -/
def Obligations.LinkCommandsAreSpelledByTheirBytes : Prop :=
  (∀ (c : Instr) (bytes : List Byte), c.wellFormed = true →
    (elEncode c = some bytes → elDecode bytes = some c ∧
      ∀ p more, bytes = p ++ more → more ≠ [] → elDecode p = none) ∧
    (slEncode c = some bytes → slDecode bytes = some c ∧
      ∀ p more, bytes = p ++ more → more ≠ [] → slDecode p = none)) ∧
  (∀ (c : Instr) (bytes : List Byte),
    (elDecode bytes = some c → elEncode c = some bytes ∧ c.wellFormed = true) ∧
    (slDecode bytes = some c → slEncode c = some bytes ∧ c.wellFormed = true)) ∧
  (∀ (high mid low n lo hi slot code : Byte) (digest : List Byte), digest.length = 32 →
    elDecode [0x4C#8, high, mid, low] = some (.elRead (high ++ mid ++ low)) ∧ elDecode [0x5D#8] = some .elStatus ∧
    elDecode [0x6E#8] = some .elIdent ∧
    (code ∉ [0x4C#8, 0x5D#8, 0x6E#8] → elDecode [code] = some (.elUnknownCommand code)) ∧
    slDecode [0x10#8] = some .slStatus ∧ slDecode [0x11#8, n] = some (.slRegion n) ∧
    slDecode [0x12#8, n, lo, hi] = some (.slChunks n (hi ++ lo)) ∧ slDecode [0x13#8] = some .slCapture ∧
    slDecode [0x14#8] = some .slCounters ∧ slDecode [0x15#8] = some .slKeys ∧
    slDecode (0x20#8 :: slot :: digest) = some (.slProvision slot digest) ∧
    slDecode [0x21#8, slot] = some (.slRevoke slot) ∧ slDecode [0x22#8] = some .slClose ∧
    slDecode [0x23#8] = some .slLock ∧ slDecode [0x24#8] = some .slWipe ∧ slDecode [0x25#8] = some .slPatrol ∧
    (code ∉ [0x10#8, 0x11#8, 0x12#8, 0x13#8, 0x14#8, 0x15#8, 0x20#8, 0x21#8, 0x22#8, 0x23#8, 0x24#8, 0x25#8] →
      slDecode [code] = some (.slUnknown code))) ∧
  (∀ (bytes : List Byte) (part : List Bool), part.length < 8 →
    bytesOfBits ((bytes.flatMap fun b => (List.range 8).map fun k => b.getLsbD (7 - k)) ++ part) = bytes)

/-! ## The laws -/

/-- Every law of Safety.lean holds of the state after reset (the reset state is the model's choice, log 18). -/
def Obligations.EveryLawHoldsAtReset : Prop :=
  State.reset.memoryLaw ∧ State.reset.flashLaw ∧ State.reset.quietLaw ∧ State.reset.holdLaw ∧ State.reset.gateLaw ∧
  State.reset.walkLaw ∧ State.reset.fuseLaw ∧ State.reset.slotLaw

/-- Every step keeps the canonical form of the flash array and of the slot buffers. -/
def Obligations.EveryStepKeepsTheMemoriesCanonical : Prop :=
  ∀ s t : State, s.memoryLaw → step s = .next t → t.memoryLaw

/-- Every step keeps at most one bank of the flash RUNNING. -/
def Obligations.EveryStepKeepsOneBankRunning : Prop :=
  ∀ s t : State, s.flashLaw → step s = .next t → t.flashLaw

/-- In a part reset and in HALTED no block but the fuse programmer works, whatever happens: no flash access or request, no
slot, hash or check, no walk, no held read, the timer stopped and PGATE low. A fuse operation in progress goes on (R174). That
an access on the Flash Port ends in the very event that begins the reset or enters HALTED is log 6, that the timer stops in a
part reset is log 34, and that slots, hashes, checks and the walk end when a part reset begins is log 35 (the model's choices). -/
def Obligations.EveryStepKeepsAStoppedPartQuiet : Prop :=
  ∀ s t : State, s.quietLaw → step s = .next t → t.quietLaw

/-- CRST_OUT and ERST_OUT are released only in RELEASED and TRANSPARENT and never in a part reset. -/
def Obligations.EveryStepKeepsTheProcessorsHeld : Prop :=
  ∀ s t : State, s.quietLaw → s.holdLaw → step s = .next t → t.holdLaw

/-- While the gate is OPEN the part is TRANSPARENT, or RELEASED with every BOOT and PRINT region COMPLETE; PGATE is high
only while the gate is OPEN; the cause goes with LATCHED. -/
def Obligations.EveryStepKeepsTheGateLaw : Prop :=
  ∀ s t : State, s.gateLaw → s.walkLaw → step s = .next t → t.gateLaw ∧ t.walkLaw

/-- The one-way cells only go forward, and the programmer's operation keeps agreeing with them. -/
def Obligations.EveryStepMovesTheCellsForward : Prop :=
  ∀ s t : State, s.fuseLaw → step s = .next t → t.fuseLaw ∧ s.fuse.forward t.fuse

/-- No two slots ever hold the same region chunk. -/
def Obligations.NoTwoSlotsHoldOneChunk : Prop :=
  ∀ s t : State, s.slotLaw → step s = .next t → t.slotLaw

/-- While the part stays in RELEASED, a BAD chunk stays BAD. -/
def Obligations.ABadChunkStaysBad : Prop :=
  ∀ (s t : State) (k : Nat), s.boot.state = .released → t.boot.state = .released → step s = .next t →
    s.tables.chunkState k = .bad → t.tables.chunkState k = .bad

/-! ## Reset and supply -/

/-- POWER_ON, NRST_FALL and, in HALTED, BROWN_OUT_RECOVERY begin a part reset with their own cause. During a part reset a
second source changes no more than the level of its own line and, at a POWER_ON of the flash, the flash. That POWER_ON says
the supply has risen is log 5, that the access on the Flash Port has ended in the same event is log 6, that the slots and the
hash engine are given up in it is log 35, and that the tables, alert conditions, filter and wipe stay until the reset ends is
log 36 (the model's choices). -/
def Obligations.ThreeSourcesBeginAPartReset : Prop :=
  ∀ s : State,
    (s.lines.inReset = false →
      (∀ f, ∃ t, exec (.powerOn f) s = .next t ∧ resetBegun s t .powerOn) ∧
      (∃ t, exec .nrstFall s = .next t ∧ resetBegun s t .pin ∧ t.flash.cells = s.flash.cells) ∧
      (s.boot.state = .halted →
        ∃ t, exec .brownOutRecovery s = .next t ∧ resetBegun s t .brownOut ∧ t.flash.cells = s.flash.cells)) ∧
    (s.lines.inReset = true →
      exec (.powerOn none) s = .next (s.withLines { s.lines with belowBrownOut := false }) ∧
      (∀ left, ∃ t, exec (.powerOn (some left)) s = .next t ∧
        t = (s.withLines { s.lines with belowBrownOut := false }).withFlash t.flash ∧
        t.flash.bank0 = { mode := .array, toggle := false } ∧ t.flash.bank1 = { mode := .array, toggle := false } ∧
        t.flash.following = .none ∧ (s.flash.bank0.isRunning = false → s.flash.bank1.isRunning = false →
          t.flash.cells = s.flash.cells)) ∧
      exec .nrstFall s = .next (s.withLines { s.lines with nrstLow := true }) ∧
      exec .brownOutRecovery s = .next (s.withLines { s.lines with belowBrownOut := false }))

/-- The reset cause is the source that began the reset: POWER_ON, PIN (in HALTED too) or BROWN_OUT. A second source during a
part reset leaves it; it changes only where a part reset begins; STATUS reports it. -/
def Obligations.TheResetCauseIsTheSourceThatBeganTheReset : Prop :=
  ∀ s : State,
    (s.lines.inReset = false →
      (∀ f, ∃ t, exec (.powerOn f) s = .next t ∧ t.lines.inReset = true ∧ t.lines.cause = .powerOn) ∧
      (∃ t, exec .nrstFall s = .next t ∧ t.lines.inReset = true ∧ t.lines.cause = .pin) ∧
      (s.boot.state = .halted →
        ∃ t, exec .brownOutRecovery s = .next t ∧ t.lines.inReset = true ∧ t.lines.cause = .brownOut)) ∧
    (s.lines.inReset = true →
      (∀ f, ∃ t, exec (.powerOn f) s = .next t ∧ t.lines.inReset = true ∧ t.lines.cause = s.lines.cause) ∧
      (∃ t, exec .nrstFall s = .next t ∧ t.lines.inReset = true ∧ t.lines.cause = s.lines.cause) ∧
      (∃ t, exec .brownOutRecovery s = .next t ∧ t.lines.inReset = true ∧ t.lines.cause = s.lines.cause)) ∧
    (∀ t, step s = .next t → t.lines.cause ≠ s.lines.cause → s.lines.inReset = false ∧ t.lines.inReset = true) ∧
    (s.live = true → s.sl.frame = .receiving → ∃ t record, exec .slStatus s = .next t ∧
      t.sl.frame = .decided (0x01#8 :: record) ∧
      record[6]? = some (match s.lines.cause with
        | .powerOn => 0x01#8
        | .pin => 0x02#8
        | .brownOut => 0x03#8))

/-- A part reset does not end while the supply is below the brown-out level or a fuse operation is in progress. In the FACTORY
lifecycle it ends in TRANSPARENT: both processors released, the gate OPEN with half-period 16, the timer stopped, both banks
SETTLING; the cells and the flash kept. That the straps and the supply against its warning level are operands, and that the event
itself says that nRST is high, is log 4, and that the command changes nothing where the reset cannot end is log 1 (the model's
choices). -/
def Obligations.AFactoryResetEndsInTransparent : Prop :=
  ∀ (s : State) (fsz swl : BitVec 2) (low : Bool),
    (s.lines.belowBrownOut = true ∨ s.fuse.op.isSome = true → exec (.partResetEnd fsz swl low) s = .next s) ∧
    (s.lines.inReset = true → s.lines.belowBrownOut = false → s.fuse.op = none → s.fuse.lifecycle = .factory →
    ∃ t, exec (.partResetEnd fsz swl low) s = .next t ∧
      t.boot.state = .transparent ∧ t.boot.active = none ∧ t.lines.inReset = false ∧ t.lines.cause = s.lines.cause ∧
      t.lines.crstOut = false ∧ t.lines.erstOut = false ∧ t.lines.fsz = fsz ∧ t.lines.swl = swl ∧
      t.gate.state = .opened ∧ t.gate.pgate = false ∧ t.timer.running = false ∧
      t.boot.params.halfPeriod = 16 ∧ t.boot.params.fillWord = 0xFFFF#16 ∧ t.boot.params.patrolInterval = 0 ∧
      t.boot.params.mask = { bad := true, late := true, violation := true, supplyLow := true } ∧
      t.alerts = { bad := false, late := false, violation := false, supplyLow := low, noBank := false } ∧
      t.tables.regions = [] ∧ t.tables.chunks = [] ∧ t.scan.list = [] ∧ t.arbiter.cond0 = .settling ∧
      t.arbiter.cond1 = .settling ∧ t.verifier.quiet ∧ t.port = .free ∧ t.filter.op = none ∧ t.filter.violations = 0 ∧
      t.wipe.state = .off ∧ t.fuse.work = [] ∧ t.fuse.lockClear = false ∧ t.fuse.lifecycle = s.fuse.lifecycle ∧
      t.fuse.keys = s.fuse.keys ∧ t.fuse.counters = s.fuse.counters ∧ t.fuse.lock = s.fuse.lock ∧
      t.fuse.demoted = s.fuse.demoted ∧ (∀ n k, t.sl.dout n k = false) ∧ t.el.out = 0xFF#8 ∧
      (∀ k, k < 8 → t.el.dout k = true) ∧ t.flash = s.flash ∧ t.pending = s.pending)

/-- The end of a part reset in the DEPLOYED lifecycle: SELECTING, both processors held, the intake deadline loaded, and the
root manifests' chunks claimed, bank 0's in slot 0 and bank 1's in slot 1. That the straps and the supply against its warning
level are operands, and that the event itself says that nRST is high, is log 4 (the model's choice). -/
def Obligations.ADeployedResetEndsInSelecting : Prop :=
  ∀ (s : State) (fsz swl : BitVec 2) (low : Bool), s.lines.inReset = true → s.lines.belowBrownOut = false →
    s.fuse.op = none → s.fuse.lifecycle = .deployed →
    ∃ t, exec (.partResetEnd fsz swl low) s = .next t ∧
      t.boot.state = .selecting ∧ t.boot.active = none ∧ t.boot.candidates = [] ∧ t.lines.inReset = false ∧
      t.lines.cause = s.lines.cause ∧ t.lines.crstOut = true ∧ t.lines.erstOut = true ∧ t.lines.fsz = fsz ∧
      t.gate.state = .closed ∧ t.gate.pgate = false ∧
      t.timer = { counter := 0, compare := 2 ^ 20, running := true, purpose := .intake } ∧
      t.boot.params.mask = { bad := true, late := true, violation := true, supplyLow := true } ∧
      t.alerts = { bad := false, late := false, violation := false, supplyLow := low, noBank := false } ∧
      (t.slot 0).state = .filling ∧ (t.slot 0).purpose = some .manifest ∧ (t.slot 0).order = some 1 ∧
      (t.slot 0).content = some (.piece .bank0 (bankChunks fsz - 16)) ∧
      (t.slot 1).state = .filling ∧ (t.slot 1).purpose = some .manifest ∧ (t.slot 1).order = some 2 ∧
      (t.slot 1).content = some (.piece .bank1 (bankChunks fsz - 16)) ∧
      (∀ i : Fin 8, 2 ≤ i → (t.slot i).state = .free) ∧ t.arbiter.slotWait[0] = some .class3 ∧
      t.arbiter.slotWait[1] = some .class3 ∧ t.arbiter.cond0 = .settling ∧ t.arbiter.cond1 = .settling ∧
      t.fuse.keys = s.fuse.keys ∧ t.fuse.counters = s.fuse.counters ∧ t.fuse.lock = s.fuse.lock ∧
      t.fuse.demoted = s.fuse.demoted ∧ t.fuse.work = [] ∧ t.flash = s.flash ∧ t.pending = s.pending

/-- BROWN_OUT_FALL outside a part reset enters HALTED: both processors held, an OPEN gate CLOSED and a LATCHED gate kept,
PGATE low, everything stopped; a fuse operation goes on, the tables and the work list stay, and the wipe keeps its sector. That
SUPPLY_LOW is then set is log 12, that the access on the Flash Port has ended in this event is log 6, and that a response being
sent on the Service Link gives way to 0x00 is log 32 (the model's choices). -/
def Obligations.BrownOutEntersHalted : Prop :=
  ∀ s : State, s.lines.inReset = false → s.boot.state ≠ .halted →
    ∃ t, exec .brownOutFall s = .next t ∧
      t.boot.state = .halted ∧ t.boot.active = s.boot.active ∧ t.lines.inReset = false ∧ t.lines.crstOut = true ∧
      t.lines.erstOut = true ∧ t.gate.pgate = false ∧ t.gate.cause = s.gate.cause ∧
      (s.gate.state = .opened → t.gate.state = .closed) ∧ (s.gate.state ≠ .opened → t.gate.state = s.gate.state) ∧
      t.timer.running = false ∧ t.arbiter.quiet ∧ t.verifier.quiet ∧ t.port = .free ∧ t.alerts.supplyLow = true ∧
      t.tables = s.tables ∧ t.scan = s.scan ∧ t.fuse = s.fuse ∧ t.filter = s.filter ∧ t.wipe.k = s.wipe.k ∧
      t.wipe.last = s.wipe.last ∧ t.wipe.bank = s.wipe.bank ∧
      (∀ r, s.sl.frame = .decided r → ∀ n, t.sl.sends n = 0x00#8) ∧ t.flash.cells = s.flash.cells ∧
      t.pending = s.pending

/-- The warning level: falling sets SUPPLY_LOW and, while the part acts, suspends a WAITING wipe, and changes nothing else;
rising (with the supply above the brown-out level) clears it and brings a SUSPENDED wipe back to WAITING, and an IDLE
programmer takes its work: the item at the head of the list, a COMMIT with its targets, or the pending lock clear. In HALTED
and in a part reset it takes none; for a part reset that is the model's choice (log 31), as is that the wipe keeps its state
there (log 36). Below the brown-out level the supply does not rise above the warning level (log 12, DEDUCED). ALERT is asserted
while NOBANK is present or another condition with its mask bit set, and never in a part reset. -/
def Obligations.TheWarningLevelMovesSupplyLowAndTheWipe : Prop :=
  ∀ s : State,
    (s.alert = true ↔ s.lines.inReset = false ∧ (s.alerts.noBank = true ∨
      (s.alerts.bad = true ∧ s.boot.params.mask.bad = true) ∨ (s.alerts.late = true ∧ s.boot.params.mask.late = true) ∨
      (s.alerts.violation = true ∧ s.boot.params.mask.violation = true) ∨
      (s.alerts.supplyLow = true ∧ s.boot.params.mask.supplyLow = true))) ∧
    exec .supplyWarningFall s =
      .next ((s.withAlerts { s.alerts with supplyLow := true }).withWipe
        { s.wipe with state := if s.live = true ∧ s.wipe.state = .waiting then .suspended else s.wipe.state }) ∧
    (s.lines.belowBrownOut = true → exec .supplyWarningRise s = .next s) ∧
    (s.lines.belowBrownOut = false → ∃ t, exec .supplyWarningRise s = .next t ∧
      t = ((s.withAlerts { s.alerts with supplyLow := false }).withWipe
        { s.wipe with
          state := if s.live = true ∧ s.wipe.state = .suspended then .waiting else s.wipe.state }).withFuse t.fuse ∧
      (s.live = true → s.fuse.op = none → takesWork s.tables s.boot.active t.fuse s.fuse.work s.fuse) ∧
      (s.fuse.op.isSome = true ∨ s.live = false → t.fuse = s.fuse))

/-! ## CRST_IN -/

/-- CRST_IN asserting ends the access on the port and discards a partial command sequence; a forwarded sequence not yet granted
is discarded with its request, one granted is followed to its end. The operation in flight stays but for that; the boot state,
the gate, the tables, the cells, the count, the capture and the flag stay. That all this holds in HALTED and in a part reset,
too, is log 33 (the model's choice). Deasserting changes the line alone. -/
def Obligations.CrstInEndsTheAccessAndThePartialSequence : Prop :=
  ∀ s : State,
    (∃ t, exec .crstInAssert s = .next t ∧ t.lines = { s.lines with crstIn := true } ∧ t.port = .free ∧
      t = (((((s.withLines t.lines).withPort .free).withArbiter t.arbiter).withVerifier t.verifier).withFilter
        t.filter) ∧
      t.filter.violations = s.filter.violations ∧ t.filter.capture = s.filter.capture ∧
      t.filter.failed = s.filter.failed ∧
      (s.filter.tracker.state ≠ .flashBusy → t.filter.op = s.filter.op ∧
        (s.filter.tracker.state ≠ .idle → t.filter.tracker = { state := .idle, bank := none, writes := [] }) ∧
        (s.filter.tracker.state = .idle → t.filter.tracker = s.filter.tracker)) ∧
      (s.filter.tracker.state = .flashBusy →
        let granted := ∃ o, s.filter.op = some o ∧ o.owner = .tracker ∧
          (o.phase ≠ .sending ∨ ∃ q, s.arbiter.access = some (.cpSequence q))
        (granted → t.filter = s.filter) ∧
        (¬ granted → t.filter.tracker = { state := .idle, bank := none, writes := [] } ∧ t.arbiter.cpWait = none ∧
          (∀ o, s.filter.op = some o → t.filter.op = if o.owner = .tracker then none else some o))) ∧
      (∀ h, s.port = .held h → h.wait = .flash → t.arbiter.cpWait = none) ∧
      (∀ h, s.port = .held h → h.wait = .proof → ∀ i : Fin 8, (t.slot i).waiter = none ∧
        (t.slot i).state = (s.slot i).state ∧ ((s.slot i).waiter.isSome = true → (t.slot i).flag = true))) ∧
    exec .crstInDeassert s = .next (s.withLines { s.lines with crstIn := false })

/-! ## Timer and patrol -/

/-- The intake deadline expiring in SELECTING, WALKING or PREVERIFY enters NO_BANK, with ALERT. The boot deadline expiring with
the gate CLOSED latches it with cause LATE, sets LATE, stops the timer and raises DEMOTE; with the gate LATCHED it changes
nothing but the counter. That the two rows act whatever the counter holds is log 3 (the model's choice). -/
def Obligations.ADeadlineExpiryActsByItsPurpose : Prop :=
  ∀ s : State, s.live = true → s.timer.running = true →
    (s.timer.purpose = .intake → s.boot.state = .selecting ∨ s.boot.state = .walking ∨ s.boot.state = .preverify →
      ∃ t, exec .intakeDeadlineExpiry s = .next t ∧ t.alert = true ∧
        noBankEntered (s.withTimer { s.timer with counter := 0 }) t) ∧
    (s.timer.purpose = .bootDeadline →
      (s.gate.state = .closed → ∃ t, exec .bootDeadlineExpiry s = .next t ∧
        t = (((((s.withGate t.gate).withAlerts { s.alerts with late := true }).withTimer t.timer).withScan
          t.scan).withFuse t.fuse) ∧
        t.gate.state = .latched ∧ t.gate.cause = some .late ∧ t.gate.pgate = false ∧ t.timer.running = false ∧
        (FuseItem.demote ∈ t.fuse.work ∨ t.fuse.op = some (.demote s.boot.active)) ∧
        (s.scan.pass ≠ .patrol → t.scan = s.scan)) ∧
      (s.gate.state = .latched →
        exec .bootDeadlineExpiry s = .next (s.withTimer { s.timer with counter := 0 })))

/-- A patrol pass is started by the timer's expiry and by the PATROL command alike, at the first chunk of the list or at the end
mark of an empty one, and steps (what stepping does is the next statement's). It claims a PATROL slot for the first chunk where
its region is COMPLETE, the chunk GOOD and in no slot, and a slot FREE. Where no patrol pass may start, the expiry restarts the
counter alone and the command is answered REFUSED. That the expiry acts whatever the counter holds is log 3 (the model's
choice). -/
def Obligations.APatrolPassStartsAtTheFirstChunk : Prop :=
  (∀ s : State, s.live = true → s.gate.state = .opened → s.boot.params.patrolInterval ≠ 0 → s.scan.pass = .none →
    (s.timer.running = true → s.timer.purpose = .patrol → exec .patrolIntervalExpiry s =
      .next ((s.withTimer { s.timer with counter := 0 }).passBegun .patrol).scanResume) ∧
    (s.sl.frame = .receiving → exec .slPatrol s =
      .next ((s.passBegun .patrol).scanResume.withSl { s.sl with frame := .decided [0x01#8] }))) ∧
  (∀ (s : State) (r : Nat) (g : ImageRegion) (i : Fin 8), s.live = true → s.gate.state = .opened →
    s.boot.params.patrolInterval ≠ 0 → s.scan.pass = .none → s.scan.list.head? = some r →
    s.tables.image r = some g → g.state = .complete → s.tables.chunkState g.first = .good → 1 ≤ g.count →
    s.chunkHolder r 0 = none → s.lowestFree = some i →
    (s.timer.running = true → s.timer.purpose = .patrol → ∃ t, exec .patrolIntervalExpiry s = .next t ∧
      t = (((s.withTimer { s.timer with counter := 0 }).withScan t.scan).withVerifier t.verifier).withArbiter t.arbiter ∧
      t.scan.pass = .patrol ∧ t.scan.list = s.scan.list ∧ (t.slot i).state = .filling ∧
      (t.slot i).purpose = some .patrol ∧ (t.slot i).content = some (.chunk r 0)) ∧
    (s.sl.frame = .receiving → ∃ t, exec .slPatrol s = .next t ∧
      t = (((s.withSl { s.sl with frame := .decided [0x01#8] }).withScan t.scan).withVerifier
        t.verifier).withArbiter t.arbiter ∧
      t.scan.pass = .patrol ∧ t.scan.list = s.scan.list ∧ (t.slot i).state = .filling ∧
      (t.slot i).purpose = some .patrol ∧ (t.slot i).content = some (.chunk r 0))) ∧
  (∀ s : State, s.live = true →
    (s.gate.state ≠ .opened ∨ s.boot.params.patrolInterval = 0 ∨ s.scan.pass ≠ .none) →
    (s.timer.running = true → s.timer.purpose = .patrol →
      exec .patrolIntervalExpiry s = .next (s.withTimer { s.timer with counter := 0 })) ∧
    (s.sl.frame = .receiving →
      exec .slPatrol s = .next (s.withSl { s.sl with frame := .decided [0x02#8] })))

/-- Stepping, and the end of a pass: what State.scanResume and State.endPass, by which the other statements say that the Scanner
is told, make of a state. In the first pass a FAILED region is skipped, a GOOD or BAD chunk passed, an UNCHECKED one claimed; in
a patrol pass a region not COMPLETE is skipped and a GOOD chunk claimed. A claim whose chunk is in a slot is passed; one that
finds a FREE slot takes the lowest at class 5 and the cursor goes on; one that finds none stops the stepping there. At the end
mark the pass ends once no slot of its purpose is in use; a stopping patrol ends so wherever its cursor is, and claims nothing.
After a rewind a patrol claims the GOOD chunks it meets again (log 30, the model's choice). -/
def Obligations.TheScannerStepsAndEndsItsPass : Prop :=
  ∀ s : State,
    let outstanding := fun p : Purpose => ∃ i : Fin 8, (s.slot i).state ≠ .free ∧ (s.slot i).purpose = some p
    let ended := s.withScan { s.scan with pass := .none, cursor := none }
    let on := fun (u : State) (c : Cursor) => (u.withScan { u.scan with cursor := some c }).scanResume
    (s.scan.pass = .none → s.scanResume = s ∧ s.endPass = s) ∧
    (s.scan.pass = .patrolStopping →
      (outstanding .patrol → s.scanResume = s ∧ s.endPass = s) ∧
      (¬ outstanding .patrol → s.scanResume = ended ∧ s.endPass = ended)) ∧
    ∀ p : Purpose, (s.scan.pass = .first ∧ p = .scan) ∨ (s.scan.pass = .patrol ∧ p = .patrol) →
      (s.scan.cursor = some .endMark →
        (outstanding p → s.scanResume = s ∧ s.endPass = s) ∧
        (¬ outstanding p → s.scanResume = ended ∧ s.endPass = ended)) ∧
      (s.scan.cursor ≠ some .endMark → s.endPass = s) ∧
      ∀ pos k r g, s.scan.cursor = some (.at_ pos k) → 1 ≤ pos → s.scan.list[pos - 1]? = some r →
        s.tables.image r = some g →
        let region := if pos < s.scan.list.length then Cursor.at_ (pos + 1) 0 else .endMark
        let chunk := if k + 1 < g.count then Cursor.at_ pos (k + 1) else region
        let st := s.tables.chunkState (g.first + k)
        (p = .scan → g.state = .failed → s.scanResume = on s region) ∧
        (p = .scan → g.state ≠ .failed → st = .good ∨ st = .bad → s.scanResume = on s chunk) ∧
        (p = .patrol → g.state ≠ .complete → s.scanResume = on s region) ∧
        ((p = .scan ∧ g.state ≠ .failed ∧ st = .unchecked) ∨ (p = .patrol ∧ g.state = .complete ∧ st = .good) →
          (∀ i, s.chunkHolder r k = some i → s.scanResume = on s chunk) ∧
          (∀ i, s.chunkHolder r k = none → s.lowestFree = some i → s.scanResume =
            on (s.slotAsking i (claimedSlot p r k (s.inUseCount + 1) none false (s.slot i).buffer) .class5) chunk) ∧
          (s.chunkHolder r k = none → s.lowestFree = none → s.scanResume = s))

/-! ## The Flash Port -/

/-- FLASH_GRANT with the port free: a settling access due goes first; else the lowest class that may be granted, after a parked
burst of an IDLE bank and a suspended burst where nothing of class 1 or 2 may go: the Controller Port's request, the Engine
Link's (while the Controller Port's is held back, too), a burst of class 3, the filter's poll pair, a burst of class 5, a
maintenance sequence. What is granted leaves the waiting requests. The first word of a poll pair is read in this event (log 9);
that a grant is a step of its own is log 14 (both DEDUCED). -/
def Obligations.TheGrantTakesTheMostUrgentRequest : Prop :=
  ∀ s : State,
    (s.live = true → s.arbiter.access = none → ∀ b : Bank,
      (s.arbiter.settle = some { bank := b, step := .resetDue } →
        exec .flashGrant s = .next (s.withArbiter
          { s.arbiter with
            settle := some { bank := b, step := .sending }
            access := some (.settleSequence { bank := b, kind := .reset, writes :=
              [(b.toNat * s.bankWords + 0x1E00, 0x5A3C#16), (b.toNat * s.bankWords + 0x0E1E, 0xA5C3#16),
               (b.toNat * s.bankWords + 0x1E00, 0x00F5#16)] }) })) ∧
      (s.arbiter.settle = some { bank := b, step := .pollDue } →
        let rd := Flash.read s.bankWords s.flash (b.toNat * s.bankWords)
        exec .flashGrant s = .next ((s.withFlash rd.2).withArbiter
          { s.arbiter with
            settle := some { bank := b, step := .polling }
            access := some (.settlePoll { bank := b, addr := b.toNat * s.bankWords } rd.1) }))) ∧
    (s.portFree →
      (∀ r, s.arbiter.cpWait = some (.read r) → s.cpOpen →
        exec .flashGrant s = .next (s.withArbiter
          { s.arbiter with cpWait := none, access := some (.cpRead r true) })) ∧
      (∀ q, s.arbiter.cpWait = some (.sequence q) → s.cpOpen →
        exec .flashGrant s = .next (s.withArbiter
          { s.arbiter with cpWait := none, access := some (.cpSequence q) })) ∧
      (∀ r, ¬ s.cpOpen → s.arbiter.elWait = some r → s.elOpen →
        exec .flashGrant s = .next (s.withArbiter
          { s.arbiter with elWait := none, access := some (.elRead r true) })) ∧
      (∀ b, ¬ s.cpOpen → ¬ s.elOpen → s.arbiter.parked = some b → s.parkedOpen →
        exec .flashGrant s = .next (s.withArbiter { s.arbiter with parked := none, access := some (.burst b) })) ∧
      (∀ b, ¬ s.cpOpen → ¬ s.elOpen → ¬ s.parkedOpen → s.arbiter.suspended = some b →
        exec .flashGrant s = .next (s.withArbiter { s.arbiter with suspended := none, access := some (.burst b) }))) ∧
    (s.class3Turn →
      ((∃ i, s.slotOpen .class3 i) → ∃ b t, exec .flashGrant s = .next t ∧ s.slotOpen .class3 b.slot ∧
        t = s.withArbiter { s.arbiter with
          slotWait := s.arbiter.slotWait.set b.slot none, rr3 := b.slot, access := some (.burst b) }) ∧
      ((∀ i, ¬ s.slotOpen .class3 i) → ∀ p, s.arbiter.pollWait = some p → s.pollOpen →
        let rd := Flash.read s.bankWords s.flash p.addr
        exec .flashGrant s = .next ((s.withFlash rd.2).withArbiter
          { s.arbiter with pollWait := none, access := some (.filterPoll p rd.1) }))) ∧
    (s.class5Turn →
      ((∃ i, s.slotOpen .class5 i) → ∃ b t, exec .flashGrant s = .next t ∧ s.slotOpen .class5 b.slot ∧
        t = s.withArbiter { s.arbiter with
          slotWait := s.arbiter.slotWait.set b.slot none, rr5 := b.slot, access := some (.burst b) }) ∧
      ((∀ i, ¬ s.slotOpen .class5 i) → ∀ q, s.arbiter.maintWait = some q → s.maintOpen →
        exec .flashGrant s = .next (s.withArbiter
          { s.arbiter with maintWait := none, access := some (.maintenance q) })))

/-- What R91 holds back keeps waiting, whatever the grant: a Controller Port read or sequence, an Engine Link word, a slot's
burst, a poll pair and a maintenance sequence; and where nothing may be granted, or an access is in progress, nothing is. -/
def Obligations.AHeldBackRequestIsNotGranted : Prop :=
  ∀ s : State,
    (∃ t, exec .flashGrant s = .next t ∧
      (¬ s.cpOpen → t.arbiter.cpWait = s.arbiter.cpWait ∧ ∀ q, t.arbiter.access = some (.cpSequence q) →
        s.arbiter.access = some (.cpSequence q)) ∧
      (¬ s.elOpen → t.arbiter.elWait = s.arbiter.elWait) ∧
      (∀ i : Fin 8, (∀ c, ¬ s.slotOpen c i) → t.arbiter.slotWait[i] = s.arbiter.slotWait[i]) ∧
      (¬ s.parkedOpen → t.arbiter.parked = s.arbiter.parked) ∧
      (¬ s.pollOpen → t.arbiter.pollWait = s.arbiter.pollWait) ∧
      (¬ s.maintOpen → t.arbiter.maintWait = s.arbiter.maintWait)) ∧
    (s.class5Turn → (∀ i, ¬ s.slotOpen .class5 i) → ¬ s.maintOpen → exec .flashGrant s = .next s) ∧
    (s.arbiter.access.isSome = true ∨ s.live = false → exec .flashGrant s = .next s)

/-- When a grant falls to class 3 or to class 5, the slot of that class whose request may be granted and whose number is the
lowest above the class's pointer gets its next burst, else the lowest-numbered one; the pointer becomes its number and the
other pointer stays; a slot whose request is held back is passed over; of two such slots each is chosen after the other. -/
def Obligations.SlotsOfAClassAreServedRoundRobin : Prop :=
  ∀ (s : State) (c : BurstClass), (c = .class3 → s.class3Turn) → (c = .class5 → s.class5Turn) →
    let p := if c = .class3 then s.arbiter.rr3 else s.arbiter.rr5
    (∀ i : Fin 8, s.slotOpen c i →
      ((p < i ∧ ∀ j : Fin 8, p < j → s.slotOpen c j → i ≤ j) ∨
       ((∀ j : Fin 8, p < j → ¬ s.slotOpen c j) ∧ ∀ j : Fin 8, s.slotOpen c j → i ≤ j)) →
      ∀ b base, s.slotAddr i = some (b, base) →
        exec .flashGrant s = .next (s.withArbiter
          { s.arbiter with
            slotWait := s.arbiter.slotWait.set i none
            rr3 := if c = .class3 then i else s.arbiter.rr3
            rr5 := if c = .class5 then i else s.arbiter.rr5
            access := some (.burst { slot := i, bank := b, base := base + 64 * (s.slot i).bursts,
                                     number := (s.slot i).bursts, read := 0, fate := .live }) })) ∧
    (∀ i j : Fin 8, i ≠ j → (∀ k, s.slotOpen c k ↔ k = i ∨ k = j) → p = i →
      ∃ t b, exec .flashGrant s = .next t ∧ t.arbiter.access = some (.burst b) ∧ b.slot = j)

/-- A word of a burst goes to its place in the slot's buffer, or is discarded where the slot was preempted or abandoned; an
abandoned slot's burst stops there; another runs on, pauses for an urgent request that may be granted, or parks when its bank
is not IDLE. That the word is read from the flash in this event is log 9 (DEDUCED). -/
def Obligations.ABurstWordGoesToItsPlaceInTheBuffer : Prop :=
  ∀ (s : State) (b : Burst), s.memoryLaw → s.arbiter.access = some (.burst b) → b.read < 63 →
    (s.flash.bank (bankOfFlash s.bankWords (b.base + b.read))).mode = .array →
    let went := { b with read := b.read + 1 }
    ∃ t, exec .burstWordBoundary s = .next t ∧
      t = (s.withVerifier t.verifier).withArbiter t.arbiter ∧
      (b.fate = .live → ∀ k, Memory.readWord bufferDefault (t.slot b.slot).buffer k =
        if 64 * b.number + b.read = k then s.flash.arrayWord (b.base + b.read)
        else Memory.readWord bufferDefault (s.slot b.slot).buffer k) ∧
      (∀ j : Fin 8, j ≠ b.slot → t.slot j = s.slot j) ∧ (b.fate ≠ .live → t.verifier = s.verifier) ∧
      (b.fate = .stop → t.arbiter = { s.arbiter with access := none }) ∧
      (b.fate ≠ .stop →
        (s.bankCond b.bank ≠ .idle → t.arbiter = { s.arbiter with access := none, parked := some went }) ∧
        (s.bankCond b.bank = .idle → s.cpOpen ∨ s.elOpen →
          t.arbiter = { s.arbiter with access := none, suspended := some went }) ∧
        (s.bankCond b.bank = .idle → ¬ s.cpOpen → ¬ s.elOpen →
          t.arbiter = { s.arbiter with access := some (.burst went) }))

/-- The 64th word of a burst counts it and, in a slot of every purpose, asks for the next, at class 3 for a slot with a waiter or
the demand flag and for a MANIFEST or LIST slot, at class 5 for another SCAN or PATROL slot; with the 32nd burst a slot that is no
MANIFEST slot joins the hash queue, and an idle engine takes the queue's head. A MANIFEST slot's manifest is judged then: where
its bytes pass checks 1 to 5 of R8, or for a delegate manifest checks 4 and 5 of R32, the key pass is asked for; else the slot
goes FREE, and the bank is no candidate, or the class rule judges the delegation. A discarded burst counts nothing. That the
64th word is read from the flash in this event is log 9 (DEDUCED). -/
def Obligations.ABurstCompletesAFillOfThirtyTwo : Prop :=
  ∀ (s : State) (b : Burst), s.arbiter.access = some (.burst b) → b.read = 63 →
    let i := b.slot
    let rd := Flash.read s.bankWords s.flash (b.base + 63)
    let m := Memory.writeWord bufferDefault (s.slot i).buffer (64 * b.number + 63) rd.1
    let fld := fun off n => leNat (Memory.bytes bufferDefault m off n)
    let entry := fun k off n => fld (128 + 64 * k + off) n
    let formed := fld 4 2 = 0x0001 ∧ 1 ≤ fld 6 1 ∧ fld 6 1 ≤ 32 ∧
      ∀ k, k < fld 6 1 → entry k 0 1 = 2 ∨ entry k 0 1 = 3 ∨ (entry k 0 1 = 1 ∧ entry k 2 1 ≤ 7 ∧ entry k 3 1 ≤ 63)
    let last := 32 ≤ (s.slot i).bursts + 1
    -- the slot joins the hash queue, and an idle engine takes the queue's head
    let queued := fun t : State =>
      (t.slot i).buffer = m ∧
      (s.verifier.engine.isSome = true → (t.slot i).state = .queued ∧
        t.verifier.hashQueue = s.verifier.hashQueue ++ [i] ∧ t.verifier.engine = s.verifier.engine) ∧
      (s.verifier.engine = none → s.verifier.hashQueue = [] →
        (t.slot i).state = .hashing ∧ t.verifier.hashQueue = [] ∧ t.verifier.engine = some i)
    (b.fate ≠ .live → exec .burstComplete s =
      .next ((s.withFlash rd.2).withArbiter { s.arbiter with access := none })) ∧
    (b.fate = .live → (s.slot i).purpose ≠ some .manifest ∨ ¬ last →
      ∃ t, exec .burstComplete s = .next t ∧
        t = ((s.withVerifier t.verifier).withArbiter t.arbiter).withFlash rd.2 ∧ t.arbiter.access = none ∧
        (t.slot i).bursts = (s.slot i).bursts + 1 ∧ (t.slot i).content = (s.slot i).content ∧ (t.slot i).buffer = m ∧
        (∀ j : Fin 8, (t.slot j).order = (s.slot j).order) ∧
        (¬ last → (t.slot i).state = (s.slot i).state ∧
          t.arbiter.slotWait[i] = some (s.slot i).burstClass ∧ t.verifier.hashQueue = s.verifier.hashQueue ∧
          ((s.slot i).waiter.isSome = true ∨ (s.slot i).flag = true ∨ (s.slot i).purpose = some .manifest ∨
              (s.slot i).purpose = some .list → t.arbiter.slotWait[i] = some .class3) ∧
          ((s.slot i).waiter = none → (s.slot i).flag = false →
            (s.slot i).purpose = some .scan ∨ (s.slot i).purpose = some .patrol →
            t.arbiter.slotWait[i] = some .class5)) ∧
        (last → queued t)) ∧
    (b.fate = .live → (s.slot i).purpose = some .manifest → last →
      (∀ (k : Bank) (d : List Byte), s.boot.root k = .judging i .fill d →
        (∀ st d', s.boot.root k.other ≠ .judging i st d') →
        let ok := fld 0 4 = 0x36A30E51 ∧ fld 16 3 ≠ 0 ∧ fld 7 1 ≠ 0 ∧ formed ∧
          ∀ e, e < fld 6 1 → entry e 0 1 = 1 → ∀ c : Fin 8, c.val = entry e 2 1 → s.fuse.counters[c] ≤ entry e 3 1
        (ok → ∃ t, exec .burstComplete s = .next t ∧ queued t ∧
          t = (((s.withBoot (s.boot.setRoot k (.judging i .key []))).withVerifier t.verifier).withArbiter
            { s.arbiter with access := none }).withFlash rd.2) ∧
        (¬ ok → s.verifier.pendingDemand = none → s.scan.pass = .none →
          ∃ x, exec .burstComplete s = .next x.endSelecting ∧ (x.slot i).state = .free ∧
            x = (((s.withBoot (s.boot.setRoot k .rejected)).withVerifier x.verifier).withArbiter
              x.arbiter).withFlash rd.2)) ∧
      (∀ (j : DelegateJob) (f : Frame) (rest : List Frame), s.walk.job = .delegate j → j.slot = i → j.at_ = .fill →
        s.walk.stack = f :: rest → (∀ k st d, s.boot.root k ≠ .judging i st d) →
        let ok := fld 0 4 = 0x36A30ED7 ∧ formed
        (ok → ∃ t, exec .burstComplete s = .next t ∧ queued t ∧
          t = (((s.withWalk { s.walk with job := .delegate { j with at_ := .key } }).withVerifier
            t.verifier).withArbiter { s.arbiter with access := none }).withFlash rd.2) ∧
        (¬ ok → s.verifier.pendingDemand = none → s.scan.pass = .none →
          ∃ x, exec .burstComplete s = .next x.walkOnAll ∧ (x.slot i).state = .free ∧
            x = (((s.withWalk (s.walk.rejected f rest (j.mask.boot || j.mask.print) .delegateBad)).withVerifier
              x.verifier).withArbiter x.arbiter).withFlash rd.2)))

/-- The flash's command scheme: a whole PROGRAM or ERASE sequence sent to a bank in ARRAY, with no bank RUNNING, puts the
bank in RUNNING; a RESET sequence brings a FAILED bank to ARRAY. No array word changes. -/
def Obligations.TheFlashStartsOnAWholeSequence : Prop :=
  ∀ (f : Flash) (fsz : BitVec 2) (b : Bank) (o : Nat) (v : Word), o < bankWords fsz → f.following = .none →
    f.bank0.isRunning = false → f.bank1.isRunning = false →
    let w := bankWords fsz
    let at_ := fun k => b.toNat * w + k
    ((f.bank b).mode = .array →
      Flash.writes w f [(at_ 0x1E00, 0x5A3C#16), (at_ 0x0E1E, 0xA5C3#16), (at_ 0x1E00, 0x0071#16), (at_ o, v)] =
        f.setBank b { mode := .running (.program (at_ o) v), toggle := false } ∧
      Flash.writes w f [(at_ 0x1E00, 0x5A3C#16), (at_ 0x0E1E, 0xA5C3#16), (at_ 0x1E00, 0x0026#16),
          (at_ o, 0x00D9#16)] =
        f.setBank b { mode := .running (.erase (at_ (o / 32768 * 32768))), toggle := false }) ∧
    ((f.bank b).mode = .failed →
      Flash.writes w f [(at_ 0x1E00, 0x5A3C#16), (at_ 0x0E1E, 0xA5C3#16), (at_ 0x1E00, 0x00F5#16)] =
        f.setBank b { (f.bank b) with mode := .array })

/-- The last write of a forwarded PROGRAM or ERASE makes its bank BUSY, parks a suspended burst of that bank, frees the port and
begins the polls; a RESET does the same but for the bank's condition. A maintenance erase of the wipe does the same on no port.
The RESET of a recovery ends the operation: the bank IDLE and, for a forwarded operation, the failed flag set and the tracker
IDLE, for the wipe's FAILED at its sector, after which a forwarded RESET that waited is requested. A settling RESET is polled
next. That all the writes reach the flash in this event is log 9, and that the port is free in it is log 22 (both DEDUCED). -/
def Obligations.ASequenceSentMakesItsBankBusyAndIsPolled : Prop :=
  ∀ (s : State) (q : SequenceRequest),
    let sent := s.withFlash (Flash.writes s.bankWords s.flash q.writes)
    -- what a program or erase of the bank does at the arbiter, with the access ended
    let busy := fun a : Arbiter =>
      a.access = none ∧ a.cond q.bank = (if q.kind = .reset then s.arbiter.cond q.bank else .busy) ∧
      a.cond q.bank.other = s.arbiter.cond q.bank.other ∧
      (∀ u, s.arbiter.suspended = some u → u.bank = q.bank → q.kind ≠ .reset →
        a.suspended = none ∧ a.parked = some u) ∧
      ((∀ u, s.arbiter.suspended = some u → u.bank ≠ q.bank) ∨ q.kind = .reset →
        a.suspended = s.arbiter.suspended ∧ a.parked = s.arbiter.parked)
    (∀ o, s.arbiter.access = some (.cpSequence q) → s.filter.op = some o → o.owner = .tracker → s.port = .writeHeld →
      s.arbiter.cpWait = none →
      ∃ t, exec .sequenceSent s = .next t ∧
        t = ((sent.withPort .free).withArbiter t.arbiter).withFilter
          { s.filter with op := some { o with phase := .polling } } ∧
        t.cpReady = true ∧ t.arbiter.pollWait = some { bank := o.bank, addr := o.pollAddr } ∧ busy t.arbiter) ∧
    (∀ o, s.arbiter.access = some (.maintenance q) → s.filter.op = some o →
      (o.phase ≠ .recovering → ∃ t, exec .sequenceSent s = .next t ∧
        t = (sent.withArbiter t.arbiter).withFilter { s.filter with op := some { o with phase := .polling } } ∧
        t.arbiter.pollWait = some { bank := o.bank, addr := o.pollAddr } ∧ busy t.arbiter) ∧
      (o.phase = .recovering → q.kind = .reset → (o.kind = .program ∨ o.kind = .erase) →
        let idle := { s.arbiter with access := none }.setCond o.bank .idle
        (o.owner = .tracker → exec .sequenceSent s = .next ((sent.withArbiter idle).withFilter
          { s.filter with op := none, failed := true, tracker := { state := .idle, bank := none, writes := [] } })) ∧
        (o.owner = .wipe →
          let failed := ((sent.withArbiter idle).withFilter { s.filter with op := none }).withWipe
            { s.wipe with state := .failed, last := .failed }
          (s.filter.tracker.state ≠ .flashBusy → exec .sequenceSent s = .next failed) ∧
          (∀ b ws, s.filter.tracker = { state := .flashBusy, bank := some b, writes := ws } →
            (ws[2]?).map (fun x => x.value) = some 0x00F5#16 → s.port = .writeHeld → s.arbiter.cpWait = none →
            exec .sequenceSent s = .next ((failed.withFilter
              { s.filter with op := some { owner := .tracker, kind := .reset, bank := b
                                           pollAddr := b.toNat * s.bankWords + 0x1E00
                                           phase := .sending, retry := false } }).withArbiter
              { idle with cpWait := some (.sequence
                  { bank := b, kind := .reset
                    writes := ws.map fun x => (b.toNat * s.bankWords + x.offset, x.value) }) }))))) ∧
    (∀ b, s.arbiter.access = some (.settleSequence q) → s.arbiter.settle = some { bank := b, step := .sending } →
      exec .sequenceSent s = .next (sent.withArbiter
        { s.arbiter with access := none, settle := some { bank := b, step := .pollDue } }))

/-- The flash ends an operation: a PROGRAM leaves its word ANDed with the data, and ends in FAILED where the data has a 1
over a 0; an ERASE without error leaves every word of the sector 0xFFFF. No other word changes. -/
def Obligations.AFlashOperationEndsInTheArray : Prop :=
  ∀ s : State, s.memoryLaw → s.flashLaw →
    (∀ (b : Bank) (addr : Nat) (data : Word), (s.flash.bank b).mode = .running (.program addr data) →
      ∃ t, exec (.flashOperationEnd false []) s = .next t ∧ t = s.withFlash t.flash ∧
        (∀ a, t.flash.arrayWord a =
          if addr = a then s.flash.arrayWord a &&& data else s.flash.arrayWord a) ∧
        (t.flash.bank b).mode = (if s.flash.arrayWord addr &&& data = data then .array else .failed) ∧
        (t.flash.bank b).toggle = (s.flash.bank b).toggle ∧ t.flash.bank b.other = s.flash.bank b.other) ∧
    (∀ (b : Bank) (sector : Nat), (s.flash.bank b).mode = .running (.erase sector) →
      ∃ t, exec (.flashOperationEnd false []) s = .next t ∧ t = s.withFlash t.flash ∧
        (∀ a, t.flash.arrayWord a =
          if sector ≤ a ∧ a < sector + 32768 then 0xFFFF#16 else s.flash.arrayWord a) ∧
        (t.flash.bank b).mode = .array ∧ t.flash.bank b.other = s.flash.bank b.other)

/-- A poll pair's second read judges the operation in flight. In ARRAY a forwarded PROGRAM or ERASE ends clean, the bank IDLE,
the failed flag clear, the tracker IDLE; a forwarded RESET ends clean with the bank condition and the failed flag as they were.
(The clean end of a wipe's erase is a later statement's.) In FAILED the filter's own RESET is requested, and in RUNNING the
next pair waits for a tick, for every kind and for the wipe's erase alike, the wipe and the tracker as they were. The first
word and the flash agree in the way R93 gives; the second is read in this event (log 9). -/
def Obligations.APollPairJudgesTheOperation : Prop :=
  ∀ (s : State) (p : PollRequest) (first : Word) (o : Operation),
    s.arbiter.access = some (.filterPoll p first) → s.filter.op = some o →
    ((s.flash.bank (bankOfFlash s.bankWords p.addr)).mode = .array → first = s.flash.arrayWord p.addr →
      o.owner = .tracker →
      (o.kind = .program ∨ o.kind = .erase →
        exec .pollPairComplete s = .next ((s.withArbiter ({ s.arbiter with access := none }.setCond o.bank .idle)).withFilter
          { s.filter with op := none, failed := false, tracker := { state := .idle, bank := none, writes := [] } })) ∧
      (o.kind = .reset →
        exec .pollPairComplete s = .next ((s.withArbiter { s.arbiter with access := none }).withFilter
          { s.filter with op := none, tracker := { state := .idle, bank := none, writes := [] } }))) ∧
    ((s.flash.bank (bankOfFlash s.bankWords p.addr)).mode = .failed →
      first = 0x0200#16 ||| toggleBit (!(s.flash.bank (bankOfFlash s.bankWords p.addr)).toggle) →
      ∃ t, exec .pollPairComplete s = .next t ∧
        t = ((s.withFlash t.flash).withArbiter t.arbiter).withFilter
          { s.filter with op := some { o with phase := .recovering } } ∧
        t.flash.cells = s.flash.cells ∧
        t.arbiter = { s.arbiter with access := none, maintWait := some { bank := o.bank, kind := .reset, writes :=
          [(o.bank.toNat * s.bankWords + 0x1E00, 0x5A3C#16), (o.bank.toNat * s.bankWords + 0x0E1E, 0xA5C3#16),
           (o.bank.toNat * s.bankWords + 0x1E00, 0x00F5#16)] } }) ∧
    (∀ op, (s.flash.bank (bankOfFlash s.bankWords p.addr)).mode = .running op →
      first = 0x1000#16 ||| toggleBit (!(s.flash.bank (bankOfFlash s.bankWords p.addr)).toggle) →
      ∃ t, exec .pollPairComplete s = .next t ∧
        t = ((s.withFlash t.flash).withArbiter { s.arbiter with access := none }).withFilter
          { s.filter with op := some { o with retry := true } } ∧
        t.flash.cells = s.flash.cells)

/-- A settling poll pair judged clean makes its bank IDLE; after bank 0 the RESET of bank 1 is due, after bank 1 settling is
over. Judged ENDED_ERROR, another RESET is due; judged RUNNING, the next pair comes at a tick. That tick, POLL_RETRY_TICK, asks
again for the filter's pair, too, at its poll address (that the row is the tick is log 3). The first word and the flash agree
in the way R93 gives; the second word is read in this event (log 9). -/
def Obligations.SettlingMakesTheBanksIdleInTurn : Prop :=
  ∀ (s : State) (b : Bank),
    (∀ (p : PollRequest) (first : Word), s.arbiter.access = some (.settlePoll p first) →
      s.arbiter.settle = some { bank := b, step := .polling } →
      let k := s.flash.bank (bankOfFlash s.bankWords p.addr)
      (k.mode = .array → first = s.flash.arrayWord p.addr →
        exec .pollPairComplete s = .next (s.withArbiter
          { ({ s.arbiter with access := none }.setCond b .idle) with
            settle := if b = .bank0 then some { bank := .bank1, step := .resetDue } else none })) ∧
      (k.mode = .failed → first = 0x0200#16 ||| toggleBit (!k.toggle) →
        ∃ t, exec .pollPairComplete s = .next t ∧ t.flash.cells = s.flash.cells ∧
          t = (s.withFlash t.flash).withArbiter
            { s.arbiter with access := none, settle := some { bank := b, step := .resetDue } }) ∧
      (∀ op, k.mode = .running op → first = 0x1000#16 ||| toggleBit (!k.toggle) →
        ∃ t, exec .pollPairComplete s = .next t ∧ t.flash.cells = s.flash.cells ∧
          t = (s.withFlash t.flash).withArbiter
            { s.arbiter with access := none, settle := some { bank := b, step := .retry } })) ∧
    (s.live = true →
      (s.arbiter.settle = some { bank := b, step := .retry } → s.filter.op = none →
        exec .pollRetryTick s = .next (s.withArbiter
          { s.arbiter with settle := some { bank := b, step := .pollDue } })) ∧
      (∀ o, s.filter.op = some o → o.phase = .polling → o.retry = true → s.arbiter.settle = none →
        exec .pollRetryTick s =
          .next ((s.withFilter { s.filter with op := some { o with retry := false } }).withArbiter
            { s.arbiter with pollWait := some { bank := o.bank, addr := o.pollAddr } })))

/-- WIPE_SECTOR_START in WAITING with the tracker IDLE, no operation in flight and SUPPLY_LOW absent: the erase of sector k
of the wipe bank is the operation in flight and is requested. A sector erase that ends clean: the next sector, WAITING or under
SUPPLY_LOW SUSPENDED; after the last sector CLEARING, with the lock clear begun or asked for, the update lock itself kept until
the clear ends; a forwarded RESET that waited for the erase is requested. The second word of the poll pair is read in this
event (log 9), and the sector start is a step of its own (log 14; both DEDUCED). -/
def Obligations.TheWipeErasesSectorAfterSector : Prop :=
  ∀ (s : State) (b : Bank),
    (s.live = true → s.wipe.state = .waiting → s.wipe.bank = some b →
      s.filter.tracker.state = .idle → s.filter.op = none → s.alerts.supplyLow = false →
      let w := b.toNat * s.bankWords
      exec .wipeSectorStart s = .next (((s.withWipe { s.wipe with state := .erasing }).withFilter
        { s.filter with op := some { owner := .wipe, kind := .erase, bank := b, pollAddr := w + s.wipe.k * 32768,
                                     phase := .sending, retry := false } }).withArbiter
        { s.arbiter with maintWait := some { bank := b, kind := .erase, writes :=
          [(w + 0x1E00, 0x5A3C#16), (w + 0x0E1E, 0xA5C3#16), (w + 0x1E00, 0x0026#16),
           (w + s.wipe.k * 32768, 0x00D9#16)] } })) ∧
    (∀ (p : PollRequest) (o : Operation),
      s.arbiter.access = some (.filterPoll p (s.flash.arrayWord p.addr)) →
      (s.flash.bank (bankOfFlash s.bankWords p.addr)).mode = .array → s.filter.op = some o → o.owner = .wipe →
      o.kind = .erase →
      ∃ t, exec .pollPairComplete s = .next t ∧
        t = (((s.withArbiter t.arbiter).withFilter t.filter).withWipe t.wipe).withFuse t.fuse ∧
        t.fuse.lock = s.fuse.lock ∧ t.arbiter.cond o.bank = .idle ∧ t.arbiter.access = none ∧
        (s.wipe.k + 1 < bankSectors s.lines.fsz → t.wipe.k = s.wipe.k + 1 ∧
          t.wipe.state = if s.alerts.supplyLow then .suspended else .waiting) ∧
        (bankSectors s.lines.fsz ≤ s.wipe.k + 1 → t.wipe.state = .clearing ∧ t.wipe.k = s.wipe.k ∧
          (t.fuse.lockClear = true ∨ t.fuse.op = some .lockClear)) ∧
        (s.filter.tracker.state ≠ .flashBusy → t.filter = { s.filter with op := none } ∧
          t.arbiter = { s.arbiter with access := none }.setCond o.bank .idle) ∧
        (∀ b' ws, s.filter.tracker = { state := .flashBusy, bank := some b', writes := ws } →
          (ws[2]?).map (fun x => x.value) = some 0x00F5#16 → s.port = .writeHeld → s.arbiter.cpWait = none →
          t.filter = { s.filter with op := some { owner := .tracker, kind := .reset, bank := b'
                                                  pollAddr := b'.toNat * s.bankWords + 0x1E00
                                                  phase := .sending, retry := false } } ∧
          t.arbiter = { ({ s.arbiter with access := none }.setCond o.bank .idle) with
            cpWait := some (.sequence
              { bank := b', kind := .reset
                writes := ws.map fun x => (b'.toNat * s.bankWords + x.offset, x.value) }) }))

/-! ## Hashing, verdicts, manifests -/

/-- The verdict on a region chunk in RELEASED: UNCHECKED goes to GOOD or to BAD, GOOD stays GOOD or goes to BAD, BAD stays;
the region's counts move with it, and a chunk going BAD sets BAD and fails the region. -/
def Obligations.AChunkVerdictMovesTheTables : Prop :=
  ∀ (s : State) (i : Fin 8) (r c : Nat) (g : ImageRegion) (k : ChunkRecord) (e : List Byte),
    s.boot.state = .released → s.verifier.engine = some i → (s.slot i).content = some (.chunk r c) →
    s.tables.image r = some g → s.tables.chunks[g.first + c]? = some k → k.expected = some e →
    let good := decide ((sha256 (Memory.bytes bufferDefault (s.slot i).buffer 0 4096)).take 16 = e)
    let move := fun (st : ChunkState) (g' : ImageRegion) =>
      ({ regions := s.tables.regions.set r (.image g'), chunks := s.tables.chunks.set (g.first + c) { k with state := st } } :
        Tables)
    ∃ t, exec .chunkHashComplete s = .next t ∧ t.boot.state = .released ∧ t.lines = s.lines ∧ t.flash = s.flash ∧
      t.filter = s.filter ∧ t.wipe = s.wipe ∧ t.walk = s.walk ∧ t.pending = s.pending ∧
      (k.state = .unchecked → good = true →
        t.tables = move .good { g with
          good := g.good + 1
          state := if g.state = .checking ∧ g.good + 1 = g.count then .complete else g.state } ∧
        t.alerts = s.alerts) ∧
      (k.state = .unchecked → good = false →
        t.tables = move .bad { g with bad := g.bad + 1, state := .failed } ∧ t.alerts.bad = true) ∧
      (k.state = .good → good = true → t.tables = s.tables ∧ t.alerts = s.alerts) ∧
      (k.state = .good → good = false →
        t.tables = move .bad { g with good := g.good - 1, bad := g.bad + 1, state := .failed } ∧ t.alerts.bad = true) ∧
      (k.state = .bad → t.tables = s.tables ∧ t.alerts = s.alerts)

/-- In RELEASED: a required region that fails latches the gate, from CLOSED and on a patrol mismatch from OPEN, with cause
CHUNK_BAD, PGATE low, the timer stopped and DEMOTE raised, and a patrol pass goes to PATROL_STOPPING until it has no slot left;
the last required region that completes with the gate CLOSED opens it, loads the patrol interval and raises COMMIT, and
UNDEMOTE where the active bank is the demoted one, which an IDLE programmer takes at once. -/
def Obligations.AVerdictMovesTheGate : Prop :=
  ∀ (s : State) (i : Fin 8) (r c : Nat) (g : ImageRegion) (k : ChunkRecord) (e : List Byte),
    s.boot.state = .released → s.verifier.engine = some i → (s.slot i).content = some (.chunk r c) →
    s.tables.image r = some g → s.tables.chunks[g.first + c]? = some k → k.expected = some e →
    (g.cls = .boot ∨ g.cls = .print) →
    let good := decide ((sha256 (Memory.bytes bufferDefault (s.slot i).buffer 0 4096)).take 16 = e)
    let latched := fun t : State => exec .chunkHashComplete s = .next t ∧ t.lines = s.lines ∧
      t.gate = { state := .latched, cause := some .chunkBad, pgate := false, count := 0, fresh := false } ∧
      t.timer = { s.timer with running := false } ∧
      (FuseItem.demote ∈ t.fuse.work ∨ t.fuse.op = some (.demote s.boot.active))
    (k.state = .unchecked → g.state = .checking → s.gate.state = .closed → good = false → ∃ t, latched t) ∧
    (k.state = .good → g.state = .complete → s.gate.state = .opened → good = false → ∃ t, latched t ∧
      t.scan.list = s.scan.list ∧
      (s.scan.pass = .patrol → t.scan.pass =
        if ∃ j, j ≠ i ∧ (s.slot j).state ≠ .free ∧ (s.slot j).purpose = some .patrol then .patrolStopping
        else .none)) ∧
    (k.state = .unchecked → g.state = .checking → s.gate.state = .closed → good = true →
      ∃ t, exec .chunkHashComplete s = .next t ∧ t.lines = s.lines ∧
        (t.tables.requiredComplete = false → t.gate = s.gate ∧ t.timer = s.timer ∧ t.fuse = s.fuse) ∧
        (t.tables.requiredComplete = true →
          t.gate = { state := .opened, cause := none, pgate := false, count := 0, fresh := true } ∧
          (s.boot.params.patrolInterval = 0 → t.timer.running = false) ∧
          (s.boot.params.patrolInterval ≠ 0 →
            t.timer = { counter := 0, compare := s.boot.params.patrolInterval, running := true, purpose := .patrol }) ∧
          (s.fuse.work = [] →
            let raised := if s.boot.active.isSome ∧ s.fuse.demoted = s.boot.active then [FuseItem.commit, .undemote]
              else [.commit]
            (s.live = true → s.fuse.op = none → s.alerts.supplyLow = false →
              takesWork t.tables s.boot.active t.fuse raised s.fuse) ∧
            (s.fuse.op.isSome = true ∨ s.alerts.supplyLow = true → t.fuse = { s.fuse with work := raised }))))

/-- In PREVERIFY: the last BOOT region that reaches COMPLETE releases the main controller, and the engine controller where a
region has its ENGINE flag; the boot deadline is loaded and the gate judged: LATCHED where a PRINT region has FAILED, else OPEN
where every required region is COMPLETE, else still CLOSED. A BOOT region that fails brings the fallback. A verdict on a region
of another class moves neither the boot state nor the gate. -/
def Obligations.AVerdictEndsPreverify : Prop :=
  ∀ (s : State) (i : Fin 8) (r c : Nat) (g : ImageRegion) (k : ChunkRecord) (e : List Byte),
    s.boot.state = .preverify → s.gate.state = .closed → (∀ h, s.port ≠ .held h) → s.verifier.engine = some i →
    (s.slot i).content = some (.chunk r c) →
    s.tables.image r = some g → s.tables.chunks[g.first + c]? = some k → k.expected = some e → k.state = .unchecked →
    let good := decide ((sha256 (Memory.bytes bufferDefault (s.slot i).buffer 0 4096)).take 16 = e)
    let bad := ({ regions := s.tables.regions.set r (.image { g with bad := g.bad + 1, state := .failed })
                  chunks := s.tables.chunks.set (g.first + c) { k with state := .bad } } : Tables)
    (good = true → g.state = .checking → ∃ t, exec .chunkHashComplete s = .next t ∧
      (t.tables.bootComplete = false → t.boot = s.boot ∧ t.lines = s.lines ∧ t.gate = s.gate ∧ t.timer = s.timer ∧
        t.fuse = s.fuse) ∧
      (t.tables.bootComplete = true → g.count = g.good + 1 → t.boot = { s.boot with state := .released, reserve := none } ∧
        t.lines.crstOut = false ∧
        (t.lines.erstOut = false ↔ ∃ x, Region.image x ∈ t.tables.regions ∧ x.engine = true) ∧
        (t.tables.printFailed = true → t.gate.state = .latched ∧ t.gate.cause = some .chunkBad ∧
          t.timer.running = false ∧ (FuseItem.demote ∈ t.fuse.work ∨ t.fuse.op = some (.demote s.boot.active))) ∧
        (t.tables.printFailed = false → t.tables.requiredComplete = true → t.gate.state = .opened ∧
          t.gate.pgate = false) ∧
        (t.tables.printFailed = false → t.tables.requiredComplete = false → t.gate = s.gate ∧
          t.timer = { counter := 0, compare := s.boot.params.bootDeadline, running := true,
                      purpose := .bootDeadline }))) ∧
    (good = false → g.cls = .boot → g.state ≠ .failed →
      let x := ((s.withTables bad).withAlerts { s.alerts with bad := true }).fallback
      exec .chunkHashComplete s = .next x.walkOnAll.readAhead) ∧
    (good = false → g.cls ≠ .boot → ∃ t, exec .chunkHashComplete s = .next t ∧ t.boot = s.boot ∧ t.gate = s.gate ∧
      t.lines = s.lines ∧ t.tables = bad ∧ t.alerts = { s.alerts with bad := true })

/-- A hash completion in RELEASED answers the held read its verdict concerns and gives its slot back. A read held for its proof
is answered with the word of the buffer at its offset where the chunk is left GOOD, with the fill word where it is BAD. A read
of the chunk held for a flash word that is not granted has its request withdrawn and is answered with the fill word by a BAD
verdict; any other stays as it was. The slot goes FREE, the newer claims' numbers fall by one, and the slot is offered: to the
pending demand, which takes it with its waiter or the demand flag and leaves the Scanner without a notice, else to the Scanner.
The engine takes the next head of the hash queue, and the Engine Link asks for its word where it now may. -/
def Obligations.AHashCompletionAnswersItsReadAndFreesItsSlot : Prop :=
  ∀ (s : State) (i : Fin 8) (r c : Nat) (g : ImageRegion) (k : ChunkRecord) (e : List Byte),
    s.boot.state = .released → s.verifier.engine = some i → (s.slot i).content = some (.chunk r c) →
    s.tables.image r = some g → s.tables.chunks[g.first + c]? = some k → k.expected = some e →
    let good := decide ((sha256 (Memory.bytes bufferDefault (s.slot i).buffer 0 4096)).take 16 = e)
    let fill := s.boot.params.fillWord
    ∃ x y z t : State, exec .chunkHashComplete s = .next t ∧
      t = (((x.withVerifier t.verifier).withArbiter t.arbiter).withScan t.scan).withEl t.el ∧
      -- the verdict and the answer
      x.verifier = s.verifier ∧ x.el = s.el ∧ x.arbiter = { s.arbiter with cpWait := x.arbiter.cpWait } ∧
      x.scan.list = s.scan.list ∧
      (good = true ∨ k.state = .bad ∨ g.cls = .optional ∨ s.scan.pass ≠ .patrol → x.scan = s.scan) ∧
      ((∀ h, s.port ≠ .held h) → x.port = s.port ∧ x.arbiter = s.arbiter) ∧
      (∀ h, s.port = .held h → h.wait = .proof → x.arbiter = s.arbiter ∧
        ((s.slot i).waiter = none → x.port = s.port) ∧
        (∀ w, (s.slot i).waiter = some w → t.cpReady = true ∧
          x.port = .answered (if good = true ∧ k.state ≠ .bad then Memory.readWord bufferDefault (s.slot i).buffer w
            else fill))) ∧
      (∀ h, s.port = .held h → h.wait = .flash → (s.slot i).waiter = none →
        let ends := good = false ∧ k.state ≠ .bad ∧ h.cls = .imageChunk ∧
          h.chunk.map ChunkRef.record = some (g.first + c) ∧ ∀ q, s.arbiter.access ≠ some (.cpRead q true)
        (ends → x.port = .answered fill ∧ x.arbiter.cpWait = none ∧ t.cpReady = true) ∧
        (¬ ends → x.port = s.port ∧ x.arbiter = s.arbiter)) ∧
      -- the slot is given back
      x.slotFreed y i ∧
      y = (x.withVerifier { x.verifier with slots := y.verifier.slots, engine := none }).withArbiter y.arbiter ∧
      -- it is offered
      (s.verifier.pendingDemand = none → z = y.scanResume) ∧
      (∀ d, s.verifier.pendingDemand = some d → z =
        ((y.withVerifier { y.verifier with pendingDemand := none }).demandTaken i d.region d.index d.waiter).endPass) ∧
      -- the engine goes on
      (s.verifier.hashQueue = [] → t = z.readAhead) ∧
      (∀ j rest, s.verifier.hashQueue = j :: rest → t = (z.withVerifier { z.verifier with
        slots := z.verifier.slots.set j { z.slot j with state := .hashing }
        engine := some j, hashQueue := rest }).readAhead)

/-- A list piece's digests go into the region's next records and its bytes join the running list hash (that both happen in the
event LIST_PIECE_HASH_COMPLETE is log 24, DEDUCED). After a piece that is not the last a slot is claimed for the next one. After
the last the list hash is compared with the entry's: on a match the region is CHECKING and the entry is taken; on a mismatch
the region is FAILED with every record of it BAD, BAD is set, and the walk ends with LIST_BAD for a BOOT or PRINT region and
goes on for an OPTIONAL one. -/
def Obligations.AListPieceLoadsItsDigests : Prop :=
  ∀ (s : State) (i : Fin 8) (j : ListJob) (b : Bank), s.boot.state = .walking → s.boot.active = some b →
    s.walk.job = .list j → s.verifier.engine = some i → (s.slot i).purpose = some .list → s.scan.pass = .none →
    s.verifier.pendingDemand = none → s.verifier.hashQueue = [] →
    let n := min ((2048 - j.loc % 2048) / 8) j.left
    (∀ m, m < n → (s.tables.chunks[j.record + m]?).isSome = true) →
    let bytes := Memory.bytes bufferDefault (s.slot i).buffer (2 * (j.loc % 2048)) (16 * n)
    let running := shaUpdate j.running bytes
    let loaded := fun t : Tables =>
      (∀ m, m < n → (t.chunks[j.record + m]?).map ChunkRecord.expected = some (some ((bytes.drop (16 * m)).take 16))) ∧
      (∀ m, m < j.record ∨ j.record + n ≤ m →
        (t.chunks[m]?).map ChunkRecord.expected = (s.tables.chunks[m]?).map ChunkRecord.expected)
    (n < j.left → ∃ t, exec .listPieceHashComplete s = .next t ∧
      t = (((s.withTables t.tables).withWalk t.walk).withVerifier t.verifier).withArbiter t.arbiter ∧
      t.walk = { s.walk with job := .list { j with loc := j.loc + 8 * n, left := j.left - n, record := j.record + n,
                                                   running := running } } ∧
      t.tables.regions = s.tables.regions ∧ loaded t.tables ∧
      (∀ m, m < j.record ∨ j.record + n ≤ m → t.tables.chunks[m]? = s.tables.chunks[m]?) ∧
      t.verifier.engine = none ∧
      (∃ q : Fin 8, (t.slot q).state = .filling ∧ (t.slot q).purpose = some .list ∧
        (t.slot q).content = some (.piece b ((j.loc + 8 * n) / 2048)))) ∧
    (∀ (g : ImageRegion) (f : Frame) (rest : List Frame), j.left ≤ n → s.tables.image j.region = some g →
      s.walk.stack = f :: rest →
      let entryDone := { s.walk with stack := { f with next := f.next + 1 } :: rest, job := .none }
      (shaFinish running = j.hash → ∃ x, exec .listPieceHashComplete s = .next x.walkOnAll ∧
        x = (((s.withTables x.tables).withWalk entryDone).withVerifier x.verifier).withArbiter x.arbiter ∧
        x.tables.regions = s.tables.regions.set j.region (.image { g with state := .checking }) ∧ loaded x.tables ∧
        (∀ m : Nat, (x.tables.chunks[m]?).map ChunkRecord.state = (s.tables.chunks[m]?).map ChunkRecord.state) ∧
        x.verifier.engine = none ∧ (x.slot i).state = .free) ∧
      (shaFinish running ≠ j.hash → ∃ x, exec .listPieceHashComplete s = .next x.walkOnAll ∧
        x = ((((s.withTables x.tables).withWalk x.walk).withVerifier x.verifier).withArbiter x.arbiter).withAlerts
          { s.alerts with bad := true } ∧
        x.walk = (if g.cls = .optional then entryDone
          else s.walk.rejected f rest true .listBad) ∧
        x.tables.regions = s.tables.regions.set j.region (.image { g with state := .failed, bad := g.count }) ∧
        loaded x.tables ∧
        (∀ (m : Nat) (k : ChunkRecord), s.tables.chunks[m]? = some k →
          (x.tables.chunks[m]?).map ChunkRecord.state = some (if k.owner = j.region then .bad else k.state)) ∧
        x.verifier.engine = none ∧ (x.slot i).state = .free))

/-- The key pass of a manifest: of either bank's root manifest, a digest of an ACTIVE slot brings the span pass, any other
digest makes the bank no candidate and frees the slot, and where both banks are then judged SELECTING ends; of a delegate
manifest, the digest of the entry brings the span pass, any other the rejection DELEGATE_BAD by the class rule. -/
def Obligations.TheKeyPassJudgesTheKey : Prop :=
  ∀ (s : State) (i : Fin 8), s.verifier.engine = some i → s.verifier.hashQueue = [] →
    let digest := sha256 (Memory.bytes bufferDefault (s.slot i).buffer 64 64)
    let spanBegun := fun t : State => (t.slot i).state = .hashing ∧ t.verifier.engine = some i ∧
      (t.slot i).buffer = (s.slot i).buffer ∧ ∀ j : Fin 8, j ≠ i → t.slot j = s.slot j
    (∀ (k : Bank) (d : List Byte), s.boot.root k = .judging i .key d → (∀ st d', s.boot.root k.other ≠ .judging i st d') →
      ((∃ n : Fin 4, s.fuse.keys[n].state = .active ∧ s.fuse.keys[n].digest = digest) →
        ∃ t, exec .keyPassComplete s = .next t ∧ spanBegun t ∧
          t = (s.withBoot (s.boot.setRoot k (.judging i .span digest))).withVerifier t.verifier) ∧
      ((∀ n : Fin 4, s.fuse.keys[n].state = .active → s.fuse.keys[n].digest ≠ digest) →
        s.verifier.pendingDemand = none → s.scan.pass = .none →
        ∃ x, exec .keyPassComplete s = .next x.endSelecting ∧ s.slotFreed x i ∧ x.verifier.engine = none ∧
          x = ((s.withBoot (s.boot.setRoot k .rejected)).withVerifier x.verifier).withArbiter x.arbiter)) ∧
    (∀ (j : DelegateJob) (f : Frame) (rest : List Frame), s.walk.job = .delegate j → j.slot = i → j.at_ = .key →
      s.walk.stack = f :: rest → (∀ k st d, s.boot.root k ≠ .judging i st d) →
      (digest = j.keyDigest → ∃ t, exec .keyPassComplete s = .next t ∧ spanBegun t ∧
        t = (s.withWalk { s.walk with job := .delegate { j with at_ := .span } }).withVerifier t.verifier) ∧
      (digest ≠ j.keyDigest → s.verifier.pendingDemand = none → s.scan.pass = .none →
        ∃ x, exec .keyPassComplete s = .next x.walkOnAll ∧ s.slotFreed x i ∧ x.verifier.engine = none ∧
          x = ((s.withWalk (s.walk.rejected f rest (j.mask.boot || j.mask.print) .delegateBad)).withVerifier
            x.verifier).withArbiter x.arbiter))

/-- The span pass of a root or delegate manifest hands the hash of the signed span to the signature unit, which begins the check
or, when busy, keeps it as its waiting request; the slot is HELD. -/
def Obligations.TheSpanPassAsksForTheSignatureCheck : Prop :=
  ∀ (s : State) (i : Fin 8), s.verifier.engine = some i → s.verifier.hashQueue = [] →
    let n := leNat (Memory.bytes bufferDefault (s.slot i).buffer 6 1)
    let q : CheckRequest :=
      { slot := i, spanHash := sha256 (Memory.bytes bufferDefault (s.slot i).buffer 0 (128 + 64 * n)) }
    let asked := fun t : State =>
      (t.slot i).state = .held ∧ (t.slot i).buffer = (s.slot i).buffer ∧ t.verifier.engine = none ∧
      (∀ j : Fin 8, j ≠ i → t.slot j = s.slot j) ∧
      (s.verifier.checking = none → t.verifier.checking = some q ∧ t.verifier.checkWaiting = s.verifier.checkWaiting) ∧
      (s.verifier.checking.isSome = true → t.verifier.checking = s.verifier.checking ∧ t.verifier.checkWaiting = some q)
    (∀ (k : Bank) (d : List Byte), s.boot.root k = .judging i .span d →
      (∀ st d', s.boot.root k.other ≠ .judging i st d') →
      ∃ t, exec .spanPassComplete s = .next t ∧ asked t ∧
        t = (s.withBoot (s.boot.setRoot k (.judging i .check d))).withVerifier t.verifier) ∧
    (∀ j : DelegateJob, s.walk.job = .delegate j → j.slot = i → j.at_ = .span →
      (∀ k st d, s.boot.root k ≠ .judging i st d) →
      ∃ t, exec .spanPassComplete s = .next t ∧ asked t ∧
        t = (s.withWalk { s.walk with job := .delegate { j with at_ := .check } }).withVerifier t.verifier)

/-- A signature check ends and a waiting request starts. Of either bank's root manifest: PASS makes the bank a candidate and
keeps the slot, FAIL makes it none and frees the slot; where both banks are then judged SELECTING ends. Of a delegate manifest:
PASS adds its key record and pushes its frame, with the delegating entry taken; FAIL is the rejection DELEGATE_BAD by the class
rule; the walker goes on. The check's arithmetic is log 11. -/
def Obligations.TheSignatureCheckDecidesTheManifest : Prop :=
  ∀ (s : State) (i : Fin 8) (h : List Byte), s.verifier.checking = some { slot := i, spanHash := h } →
    let m := (s.slot i).buffer
    let n := leNat (Memory.bytes bufferDefault m 6 1)
    let pass := signaturePasses (Memory.bytes bufferDefault m 64 64)
      (Memory.bytes bufferDefault m (128 + 64 * n) 64) h
    let checked := s.withVerifier { s.verifier with checking := s.verifier.checkWaiting, checkWaiting := none }
    (∀ (k : Bank) (d : List Byte), s.boot.root k = .judging i .check d →
      (∀ st d', s.boot.root k.other ≠ .judging i st d') →
      (pass = true → exec .signatureCheckEnd s =
        .next (checked.withBoot (s.boot.setRoot k (.candidate i d))).endSelecting) ∧
      (pass = false → s.verifier.pendingDemand = none → s.scan.pass = .none →
        ∃ x, exec .signatureCheckEnd s = .next x.endSelecting ∧ s.slotFreed x i ∧
          x.verifier.checking = s.verifier.checkWaiting ∧ x.verifier.checkWaiting = none ∧
          x = ((s.withBoot (s.boot.setRoot k .rejected)).withVerifier x.verifier).withArbiter x.arbiter)) ∧
    (∀ (j : DelegateJob) (f : Frame) (rest : List Frame) (key : KeyRecord), s.walk.job = .delegate j → j.slot = i →
      j.at_ = .check → s.walk.stack = f :: rest → s.walk.keys[f.signer]? = some key →
      (∀ k st d, s.boot.root k ≠ .judging i st d) →
      (pass = true → exec .signatureCheckEnd s = .next (checked.withWalk
        { s.walk with
          keys := s.walk.keys ++ [{ digest := j.keyDigest, parent := some f.signer, depth := key.depth + 1,
                                    entry := some f.next }]
          stack := { slot := i, signer := s.walk.keys.length, next := 0, base := j.base, count := j.count,
                     mask := j.mask } :: { f with next := f.next + 1 } :: rest
          job := .none }).walkOnAll) ∧
      (pass = false → s.verifier.pendingDemand = none → s.scan.pass = .none →
        ∃ x, exec .signatureCheckEnd s = .next x.walkOnAll ∧ s.slotFreed x i ∧
          x.verifier.checking = s.verifier.checkWaiting ∧ x.verifier.checkWaiting = none ∧
          x = ((s.withWalk (s.walk.rejected f rest (j.mask.boot || j.mask.print) .delegateBad)).withVerifier
            x.verifier).withArbiter x.arbiter))

/-! ## The walk -/

/-- What State.endSelecting and State.fallback, by which the commands above end, make of a state. SELECTING ends when both banks
are judged: with no candidate in NO_BANK, else in the walk of the first of the candidate list, the second one's manifest kept
in the reserve root slot. The list: a bank that is not demoted before one that is, then the higher sequence number, then bank
0. A fallback clears the tables, the walk and the scan list, gives back every slot but the reserve root slot, and walks the
next candidate with that slot, or enters NO_BANK. -/
def Obligations.SelectionAndFallbackStartAWalk : Prop :=
  ∀ s : State,
    let cand := fun (k : Bank) (i : Fin 8) (d : List Byte) =>
      ({ bank := k, sequence := leNat (Memory.bytes bufferDefault (s.slot i).buffer 8 4), keyDigest := d,
         demoted := decide (s.fuse.demoted = some k), slot := i } : Candidate)
    (s.boot.state ≠ .selecting ∨ s.boot.root0 = .notJudged ∨ s.boot.root1 = .notJudged ∨
        (∃ i st d, s.boot.root0 = .judging i st d ∨ s.boot.root1 = .judging i st d) → s.endSelecting = s) ∧
    (s.boot.state = .selecting →
      (s.boot.root0 = .rejected → s.boot.root1 = .rejected →
        noBankEntered s s.endSelecting ∧ s.endSelecting.boot.candidates = []) ∧
      (∀ i d, s.boot.root0 = .candidate i d → s.boot.root1 = .rejected →
        s.endSelecting = (s.walkBegun [cand .bank0 i d] 0 (cand .bank0 i d) none).walkOnAll) ∧
      (∀ i d, s.boot.root0 = .rejected → s.boot.root1 = .candidate i d →
        s.endSelecting = (s.walkBegun [cand .bank1 i d] 0 (cand .bank1 i d) none).walkOnAll) ∧
      (∀ i d i' d', s.boot.root0 = .candidate i d → s.boot.root1 = .candidate i' d' →
        let c0 := cand .bank0 i d
        let c1 := cand .bank1 i' d'
        (s.fuse.demoted = some .bank0 ∨ (s.fuse.demoted = none ∧ c0.sequence < c1.sequence) →
          s.endSelecting = (s.walkBegun [c1, c0] 0 c1 (some i)).walkOnAll) ∧
        (s.fuse.demoted = some .bank1 ∨ (s.fuse.demoted = none ∧ c1.sequence ≤ c0.sequence) →
          s.endSelecting = (s.walkBegun [c0, c1] 0 c0 (some i')).walkOnAll))) ∧
    (∀ n, s.boot.current = some n →
      (∀ c, s.boot.candidates[n + 1]? = some c → ∃ v, s.fallback = v.walkBegun s.boot.candidates (n + 1) c none ∧
        v = ((((((s.withTables { regions := [], chunks := [] }).withWalk
          { s.walk with stack := [], keys := [], engineUsed := false, job := .none }).withScan
          { list := [], pass := .none, cursor := none }).withVerifier v.verifier).withArbiter
          v.arbiter).withBoot { s.boot with active := none }) ∧
        (∀ i : Fin 8, v.slot i = if s.boot.reserve = some i then { s.slot i with order := some 1 }
          else { state := .free, purpose := none, content := none, bursts := 0, order := none, waiter := none,
                 flag := false, buffer := (s.slot i).buffer }) ∧
        v.verifier.hashQueue = [] ∧ v.verifier.engine = none ∧ v.verifier.checking = none ∧
        v.verifier.checkWaiting = none ∧ v.verifier.pendingDemand = none ∧ v.arbiter.suspended = none ∧
        v.arbiter.parked = none ∧ (∀ i : Fin 8, v.arbiter.slotWait[i] = none) ∧
        (∀ u, s.arbiter.access = some (.burst u) → v.arbiter.access = some (.burst { u with fate := .stop }))) ∧
      (s.boot.candidates[n + 1]? = none → noBankEntered s s.fallback))

/-- The walker at an IMAGE entry of its top frame (State.walkOnAll, by which the commands above end, goes on with it): the five
checks of R27 in their order, each rejection judged by the class rule; an entry that passes makes its region record in LOADING
and its digest records, uses the ENGINE flag, and claims the slot of its list's first piece, for which the walker waits. That an
entry whose class byte is none of the three is fatal with ROLLBACK, too, where it fails that check first, is the model's choice
(log 27, DEDUCED). -/
def Obligations.TheWalkerTakesImageEntries : Prop :=
  ∀ (u : State) (f : Frame) (rest : List Frame) (k : Fin 8), u.boot.state = .walking → u.walk.job = .none →
    u.walk.outcome = none → u.walk.stack = f :: rest →
    let m := (u.slot f.slot).buffer
    let fld := fun off n => leNat (Memory.bytes bufferDefault m (128 + 64 * f.next + off) n)
    f.next < leNat (Memory.bytes bufferDefault m 6 1) → fld 0 1 = 0x01 → fld 2 1 = k.val →
    let rejected := fun kind => (u.withWalk (u.walk.rejected f rest (decide (fld 1 1 ≠ 0x03)) kind)).walkOnAll
    let base := fld 8 2
    let count := fld 10 2
    let loc := fld 12 4
    let engine := (fld 4 1).testBit 0
    let ofClass := fun c : ImageClass => match c with
      | .boot => fld 1 1 = 0x01 ∧ f.mask.boot = true
      | .print => fld 1 1 = 0x02 ∧ f.mask.print = true
      | .optional => fld 1 1 = 0x03 ∧ f.mask.optional = true
    let inRange := 1 ≤ count ∧ count ≤ 4095 ∧ f.base ≤ base ∧ base + count ≤ f.base + f.count ∧ loc % 8 = 0 ∧
      loc + 8 * count ≤ bankWords u.lines.fsz
    (fld 3 1 < u.fuse.counters[k] → u.walkOnAll = rejected .rollback) ∧
    (u.fuse.counters[k] ≤ fld 3 1 →
      ((∀ c, ¬ ofClass c) ∨ ¬ inRange → u.walkOnAll = rejected .scope) ∧
      (∀ c, ofClass c → inRange →
        (16 ≤ u.tables.regions.length ∨ 4096 < u.tables.chunks.length + count → u.walkOnAll = rejected .capacity) ∧
        (u.tables.regions.length < 16 → u.tables.chunks.length + count ≤ 4096 →
          (engine = true → u.walk.engineUsed = true → u.walkOnAll = rejected .engineTwice) ∧
          (engine = false ∨ u.walk.engineUsed = false → ∀ b i, u.boot.active = some b → u.lowestFree = some i →
            ∃ t, u.walkOnAll = t ∧
              t = (((u.withTables t.tables).withWalk t.walk).withVerifier t.verifier).withArbiter t.arbiter ∧
              t.tables.regions = u.tables.regions ++ [.image
                { imageId := BitVec.ofNat 16 (fld 6 2), cls := c, signer := f.signer, base := base, count := count,
                  first := u.tables.chunks.length, counter := k, version := fld 3 1, engine := engine,
                  state := .loading, good := 0, bad := 0 }] ∧
              t.tables.chunks = u.tables.chunks ++ List.replicate count
                { expected := none, owner := u.tables.regions.length, state := .unchecked } ∧
              t.walk = { u.walk with
                engineUsed := u.walk.engineUsed || engine
                job := .list
                  { region := u.tables.regions.length
                    hash := Memory.bytes bufferDefault m (128 + 64 * f.next + 32) 32
                    loc := loc, left := count, record := u.tables.chunks.length, running := shaInit } } ∧
              t.slot i = { state := .filling, purpose := some .list, content := some (.piece b (loc / 2048)),
                           bursts := 0, order := some (u.inUseCount + 1), waiter := none, flag := false,
                           buffer := (u.slot i).buffer } ∧
              (∀ j, j ≠ i → t.slot j = u.slot j) ∧ t.arbiter.slotWait[i] = some .class3))))

/-- The walker at a DATA entry of its top frame: a record where R31 lets it be, else nothing, and the next entry. At a DELEGATE
entry: CAPACITY, OVERFLOW and SCOPE in the order of R32 and R33, each judged by the class rule and OVERFLOW by OVERFLOW_STRICT,
too; an entry that passes claims the slot of its delegate manifest, for which the walker waits. -/
def Obligations.TheWalkerTakesDataAndDelegateEntries : Prop :=
  ∀ (u : State) (f : Frame) (rest : List Frame), u.boot.state = .walking → u.walk.job = .none →
    u.walk.outcome = none → u.walk.stack = f :: rest →
    let m := (u.slot f.slot).buffer
    let fld := fun off n => leNat (Memory.bytes bufferDefault m (128 + 64 * f.next + off) n)
    f.next < leNat (Memory.bytes bufferDefault m 6 1) →
    (fld 0 1 = 0x02 →
      let base := 16 * fld 4 2
      let count := 16 * fld 6 2
      let skipped := u.withWalk { u.walk with stack := { f with next := f.next + 1 } :: rest }
      let fits := 1 ≤ fld 6 2 ∧ f.base ≤ base ∧ base + count ≤ f.base + f.count ∧
        base + count ≤ bankChunks u.lines.fsz - 16 ∧ u.tables.regions.length < 16
      (fits → u.walkOnAll = (skipped.withTables { u.tables with
        regions := u.tables.regions ++ [.data { signer := f.signer, base := base, count := count }] }).walkOnAll) ∧
      (¬ fits → u.walkOnAll = skipped.walkOnAll)) ∧
    (fld 0 1 = 0x03 →
      let bit := fun n => (fld 1 1).testBit n
      let fatal := bit 0 || bit 1
      let rejected := fun fatal kind => (u.withWalk (u.walk.rejected f rest fatal kind)).walkOnAll
      let loc := fld 4 4
      let base := fld 8 2
      let count := fld 10 2
      let inScope := (bit 0 = true → f.mask.boot = true) ∧ (bit 1 = true → f.mask.print = true) ∧
        (bit 2 = true → f.mask.optional = true) ∧ 1 ≤ count ∧ f.base ≤ base ∧ base + count ≤ f.base + f.count ∧
        loc % 2048 = 0 ∧ base ≤ loc / 2048 ∧ loc / 2048 < base + count
      (8 ≤ u.walk.keys.length → u.walkOnAll = rejected fatal .capacity) ∧
      (u.walk.keys.length < 8 → 4 ≤ u.walk.stack.length →
        u.walkOnAll = rejected (fatal || u.boot.params.overflowStrict) .overflow) ∧
      (u.walk.keys.length < 8 → u.walk.stack.length < 4 →
        (¬ inScope → u.walkOnAll = rejected fatal .scope) ∧
        (inScope → ∀ b i, u.boot.active = some b → u.lowestFree = some i →
          ∃ t, u.walkOnAll = t ∧ t = ((u.withWalk t.walk).withVerifier t.verifier).withArbiter t.arbiter ∧
            t.walk = { u.walk with
              job := .delegate
                { slot := i, at_ := .fill, base := base, count := count
                  mask := { boot := bit 0, print := bit 1, optional := bit 2 }
                  keyDigest := Memory.bytes bufferDefault m (128 + 64 * f.next + 32) 32 } } ∧
            t.slot i = { state := .filling, purpose := some .manifest, content := some (.piece b (loc / 2048)),
                         bursts := 0, order := some (u.inUseCount + 1), waiter := none, flag := false,
                         buffer := (u.slot i).buffer } ∧
            (∀ j, j ≠ i → t.slot j = u.slot j) ∧ t.arbiter.slotWait[i] = some .class3)))

/-- The walker at an exhausted frame: the frame is popped and its slot given back. With the stack empty: the first record in
table order that overlaps an earlier one or reaches the manifest sector is the fault OVERLAP, a ninth required region the fault
CAPACITY; else the scan list is the required regions not FAILED, BOOT before PRINT, and OPTIONAL ones up to eight, the outcome
is SUCCESS, and PREVERIFY is entered, where the first pass begins at the first of the list and steps, or RELEASED where no BOOT
region is left to prove. A fault brings the fallback. In any other state, or while it waits, the walker does nothing. -/
def Obligations.TheWalkerPopsItsFramesAndCloses : Prop :=
  ∀ u : State,
    (u.boot.state ≠ .walking ∨ (u.walk.job ≠ .none ∧ u.walk.outcome = none) → u.walkOnAll = u) ∧
    (∀ kind ref, u.boot.state = .walking → u.walk.outcome = some (.fault kind ref) →
      u.walkOnAll = u.fallback.walkOnAll) ∧
    (u.boot.state = .walking → u.walk.job = .none → u.walk.outcome = none →
      (∀ f rest, u.walk.stack = f :: rest →
        leNat (Memory.bytes bufferDefault (u.slot f.slot).buffer 6 1) ≤ f.next →
        u.verifier.pendingDemand = none → u.scan.pass = .none →
        ∃ x, u.walkOnAll = x.walkOnAll ∧ u.slotFreed x f.slot ∧
          x = ((u.withWalk { u.walk with stack := rest }).withVerifier x.verifier).withArbiter x.arbiter) ∧
      (u.walk.stack = [] →
        let reach := fun r : Region => r.base + r.count
        let clash := fun i => ∃ r, u.tables.regions[i]? = some r ∧
          (bankChunks u.lines.fsz - 16 < reach r ∨ ∃ j q, j < i ∧ u.tables.regions[j]? = some q ∧
            q.base < reach r ∧ r.base < reach q)
        let faulted := fun kind i => (u.withWalk
          { u.walk with outcome := some (.fault kind (.region i)), lastFault := some (kind, .region i) }).walkOnAll
        let listed := fun c : ImageClass => (List.range u.tables.regions.length).filter fun i =>
          match u.tables.regions[i]? with
          | some (Region.image g) => decide (g.cls = c) && decide (g.state ≠ .failed)
          | _ => false
        let required := listed .boot ++ listed .print
        let list := (required ++ listed .optional).take 8
        (∀ i, clash i → (∀ j, j < i → ¬ clash j) → u.walkOnAll = faulted .overlap i) ∧
        ((∀ i, ¬ clash i) →
          (∀ i, required[8]? = some i → u.walkOnAll = faulted .capacity i) ∧
          (required[8]? = none →
            let t := u.walkOnAll
            t.scan.list = list ∧ t.walk = { u.walk with outcome := some .success } ∧ t.tables = u.tables ∧
            t.boot.active = u.boot.active ∧ t.boot.params = u.boot.params ∧
            ((∃ g, Region.image g ∈ u.tables.regions ∧ g.cls = .boot ∧ g.state ≠ .complete) →
              t = ((((u.withWalk { u.walk with outcome := some .success }).withBoot
                { u.boot with state := .preverify }).withScan { u.scan with list := list }).passBegun .first).scanResume ∧
              t.boot = { u.boot with state := .preverify } ∧ t.lines = u.lines ∧ t.gate = u.gate ∧
              ∀ r g i, list.head? = some r → u.tables.image r = some g →
                u.tables.chunkState g.first = .unchecked → u.chunkHolder r 0 = none → u.lowestFree = some i →
                t.scan.pass = .first ∧ (t.slot i).state = .filling ∧ (t.slot i).purpose = some .scan ∧
                (t.slot i).content = some (.chunk r 0)) ∧
            ((∀ g, Region.image g ∈ u.tables.regions → g.cls = .boot → g.state = .complete) →
              t.boot.state = .released ∧ t.lines.crstOut = false)))))

/-! ## Controller Port reads -/

/-- A read that is answered in the event of its arrival: 0xFFFF where no bank is mapped; the fill word for UNCOVERED and
OUT_OF_RANGE, for a BAD chunk, and under FILL for a GOOD chunk whose bank is not IDLE. An arrival the port does not take
changes nothing (R99; while an access is on the port, log 1, the model's choice). -/
def Obligations.AReadIsAnsweredAtItsArrival : Prop :=
  ∀ (s : State) (a : Addr),
    (s.port ≠ .free ∨ s.lines.crstIn = true ∨ s.lines.inReset = true → exec (.cpReadArrival a) s = .next s) ∧
    (s.port = .free → s.lines.crstIn = false → s.lines.inReset = false →
      (s.boot.state ≠ .released → s.boot.state ≠ .transparent →
        exec (.cpReadArrival a) s = .next (s.withPort (.answered 0xFFFF#16))) ∧
      ((s.boot.state = .released ∧ s.boot.active.isSome = true) ∨ s.boot.state = .transparent →
        (2 * bankWords s.lines.fsz ≤ a.toNat →
          exec (.cpReadArrival a) s = .next (s.withPort (.answered s.boot.params.fillWord))) ∧
        ((s.windowMap a).cls = .uncovered ∨ (s.windowMap a).state = some .bad →
          exec (.cpReadArrival a) s = .next (s.withPort (.answered s.boot.params.fillWord))) ∧
        (∀ b, s.boot.active = some b → (s.windowMap a).state = some .good → s.bankCond b ≠ .idle →
          s.boot.params.holdFill = true →
          exec (.cpReadArrival a) s = .next (s.withPort (.answered s.boot.params.fillWord)))))

/-- What the Window Map answers, and where a forwarded read goes. In WALKING, PREVERIFY and RELEASED an address of the active
half is MANIFEST from the manifest sector on; else of the first record in table order whose range holds its chunk, IMAGE_CHUNK
with the region, the chunk index, the digest record, the word offset and that record's state, or DATA with the region; else
UNCOVERED. The other half is INACTIVE, and beyond it OUT_OF_RANGE; in TRANSPARENT bank 0 lies below bank 1, unclassified; in the
other boot states there is no map. A read that goes on to the flash is held, CP_READY low, and requests the word its address
maps to: in the active half of the window the active bank's, in the other half the other bank's, in TRANSPARENT bank 0 below
bank 1. -/
def Obligations.AReadIsForwardedToTheWordOfItsAddress : Prop :=
  (∀ (s : State) (a : Addr),
    let w := bankWords s.lines.fsz
    let maps := fun (cls : WindowClass) (loc : Option (Bank × Nat × Nat)) =>
      s.windowMap a = { cls := cls, loc := loc, region := none, chunk := none, state := none }
    (∀ b, s.boot.active = some b →
      s.boot.state = .walking ∨ s.boot.state = .preverify ∨ s.boot.state = .released →
      let c := a.toNat / 2048
      let here := some (b, a.toNat, b.toNat * w + a.toNat)
      let covers := fun r : Region => r.base ≤ c ∧ c < r.base + r.count
      (a.toNat < w → bankChunks s.lines.fsz - 16 ≤ c → maps .manifest here) ∧
      (a.toNat < w → c < bankChunks s.lines.fsz - 16 →
        (∀ i r, s.tables.regions[i]? = some r → covers r →
          (∀ j q, j < i → s.tables.regions[j]? = some q → ¬ covers q) →
          (∀ g k, r = .image g → s.tables.chunks[g.first + (c - g.base)]? = some k →
            s.windowMap a = {
              cls := .imageChunk, loc := here, region := some i, state := some k.state
              chunk := some { region := i, index := c - g.base, record := g.first + (c - g.base), offset := a.toNat % 2048 } }) ∧
          (∀ g, r = .data g →
            s.windowMap a = { cls := .data, loc := here, region := some i, chunk := none, state := none })) ∧
        ((∀ r ∈ s.tables.regions, ¬ covers r) → maps .uncovered here)) ∧
      (w ≤ a.toNat → a.toNat < 2 * w →
        maps .inactive (some (b.other, a.toNat - w, b.other.toNat * w + (a.toNat - w)))) ∧
      (2 * w ≤ a.toNat → maps .outOfRange none)) ∧
    (s.boot.state = .transparent →
      (a.toNat < w → maps .unclassified (some (.bank0, a.toNat, a.toNat))) ∧
      (w ≤ a.toNat → a.toNat < 2 * w → maps .unclassified (some (.bank1, a.toNat - w, a.toNat))) ∧
      (2 * w ≤ a.toNat → maps .outOfRange none)) ∧
    (s.boot.state = .selecting ∨ s.boot.state = .noBank ∨ s.boot.state = .halted → maps .noMap none)) ∧
  ∀ (s : State) (a : Addr), s.port = .free → s.lines.crstIn = false → s.lines.inReset = false → s.arbiter.cpWait = none →
    s.cpBusy = false →
    let w := bankWords s.lines.fsz
    let c := s.windowMap a
    let forwarded := fun (cls : WindowClass) (chunk : Option ChunkRef) (bank : Bank) (word : Nat) =>
      (s.withPort (.held { addr := a, cls := cls, chunk := chunk, bank := bank, flash := word, wait := .flash })).withArbiter
        { s.arbiter with cpWait := some (.read { bank := bank, addr := word, image := decide (cls = .imageChunk) }) }
    (∀ b, s.boot.state = .released → s.boot.active = some b →
      (a.toNat < w → c.cls = .data ∨ c.cls = .manifest →
        exec (.cpReadArrival a) s = .next (forwarded c.cls none b (b.toNat * w + a.toNat))) ∧
      (a.toNat < w → c.state = some .good → (s.bankCond b = .idle ∨ s.boot.params.holdFill = false) →
        exec (.cpReadArrival a) s = .next (forwarded .imageChunk c.chunk b (b.toNat * w + a.toNat))) ∧
      (w ≤ a.toNat → a.toNat < 2 * w →
        exec (.cpReadArrival a) s = .next (forwarded .inactive none b.other (b.other.toNat * w + (a.toNat - w))))) ∧
    (s.boot.state = .transparent → a.toNat < 2 * w →
      exec (.cpReadArrival a) s =
        .next (forwarded .unclassified none (if a.toNat < w then .bank0 else .bank1) a.toNat))

/-- A read of an UNCHECKED chunk: under STALL it is held for its proof and is the waiter of the demand claim, under FILL it
is answered with the fill word and the claim has no waiter. The claim joins the chunk's slot, takes the lowest FREE one, or
preempts the Scanner fill with the fewest bursts completed, the newest among equals: its slot is taken, the words of its granted
burst are discarded, and the Scanner's cursor goes back to its chunk where that lies behind, and the Scanner
steps. With no slot to preempt the claim becomes the pending demand. -/
def Obligations.AReadOfAnUncheckedChunkClaimsItsProof : Prop :=
  ∀ (s : State) (a : Addr) (b : Bank) (c : ChunkRef) (i : Fin 8), s.port = .free → s.lines.crstIn = false →
    s.lines.inReset = false → s.boot.state = .released → s.boot.active = some b →
    (s.windowMap a).chunk = some c → (s.windowMap a).state = some .unchecked →
    let content := Content.chunk c.region c.index
    let stall := s.boot.params.holdFill = false
    let held := Port.held { addr := a, cls := .imageChunk, chunk := some c, bank := b,
                            flash := b.toNat * bankWords s.lines.fsz + a.toNat, wait := .proof }
    let port := if stall then held else .answered s.boot.params.fillWord
    let waiter := if stall then some c.offset else none
    (s.chunkHolder c.region c.index = some i →
      exec (.cpReadArrival a) s = .next ((s.withPort port).demandJoined i waiter)) ∧
    (s.chunkHolder c.region c.index = none → s.lowestFree = some i →
      exec (.cpReadArrival a) s = .next ((s.withPort port).demandTaken i c.region c.index waiter)) ∧
    (s.chunkHolder c.region c.index = none → s.lowestFree = none → s.victimIs i →
      let v := s.slot i
      let discarded := fun u : Burst => if u.slot = i ∧ u.fate = .live then { u with fate := .discard } else u
      ∃ t, exec (.cpReadArrival a) s = .next t ∧ (s.withPort port).demandPreempts t i c.region c.index waiter ∧
        t = (((s.withPort port).withVerifier t.verifier).withArbiter t.arbiter).withScan t.scan ∧
        t.slot i = { state := .filling, purpose := some .demand, content := some content, bursts := 0,
                     order := some 8, waiter := waiter, flag := waiter.isNone, buffer := v.buffer } ∧
        (∀ n, v.order = some n → ∀ j, j ≠ i →
          t.slot j = { s.slot j with order := (s.slot j).order.map fun o => if n < o then o - 1 else o }) ∧
        t.verifier.pendingDemand = s.verifier.pendingDemand ∧
        t.arbiter = { s.arbiter with
          slotWait := s.arbiter.slotWait.set i (some .class3)
          access := s.arbiter.access.map fun x => match x with
            | .burst u => .burst (discarded u)
            | x => x
          suspended := s.arbiter.suspended.map discarded
          parked := s.arbiter.parked.map discarded } ∧
        t.scan.list = s.scan.list ∧
        (∀ r k pos at_ g, v.content = some (.chunk r k) → s.scan.cursor = some at_ → s.tables.image r = some g →
          (∀ j, j ≠ i → (s.slot j).content ≠ some (.chunk r k)) →
          1 ≤ pos → s.scan.list[pos - 1]? = some r → (∀ q, q < pos - 1 → s.scan.list[q]? ≠ some r) →
          at_ = .endMark ∨ (∃ p m, at_ = .at_ p m ∧ (pos < p ∨ (pos = p ∧ k < m))) →
          (s.scan.pass = .first ∧ v.purpose = some .scan ∧ g.state ≠ .failed ∧
              s.tables.chunkState (g.first + k) = .unchecked) ∨
            (s.scan.pass = .patrol ∧ v.purpose = some .patrol ∧ g.state = .complete ∧
              s.tables.chunkState (g.first + k) = .good) →
          t.scan = { s.scan with cursor := some (.at_ pos k) }) ∧
        (s.scan.pass = .none → t.scan = s.scan)) ∧
    (s.chunkHolder c.region c.index = none → s.lowestFree = none → (∀ j, ¬ (s.slot j).preemptible) →
      (stall ∨ s.verifier.pendingDemand = none →
        exec (.cpReadArrival a) s = .next ((s.withPort port).withVerifier
          { s.verifier with pendingDemand := some { region := c.region, index := c.index, waiter := waiter } })) ∧
      (¬ stall → s.verifier.pendingDemand.isSome = true →
        exec (.cpReadArrival a) s = .next (s.withPort port)))

/-- A held read is answered with the word that returned, and with the fill word where its chunk is no longer GOOD; a word no
read is held for is dropped. A read the main controller gives up ends without an answer, its request withdrawn or its
waiter turned into the demand flag. A rising strobe ends an answered read or a taken write. One that meets a held write leaves
it (R122); one commanded as CP_ACCESS_END while a read is held changes nothing, which is the model's choice (log 1): the rising
strobe that gives a held read up is CP_READ_ABANDON (R112). The word is read from the flash in the event of its return (log 9,
DEDUCED). -/
def Obligations.AHeldReadIsAnsweredOrEnds : Prop :=
  ∀ s : State,
    let dropped := fun (p : Port) => s.withPort p
    (∀ (r : CpWordRequest) (h : HeldRead), s.arbiter.access = some (.cpRead r true) → s.port = .held h →
      h.wait = .flash →
      let rd := Flash.read s.bankWords s.flash r.addr
      let answer := fun (w : Word) => exec .cpWordReturn s =
        .next (((s.withFlash rd.2).withArbiter { s.arbiter with access := none }).withPort (.answered w))
      (h.chunk = none → answer rd.1) ∧
      (∀ c, h.chunk = some c → h.cls = .imageChunk →
        answer (if s.tables.chunkState c.record = .good then rd.1 else s.boot.params.fillWord)) ∧
      ((s.flash.bank (bankOfFlash s.bankWords r.addr)).mode = .array →
        rd = (s.flash.arrayWord r.addr, s.flash))) ∧
    (∀ r : CpWordRequest, s.arbiter.access = some (.cpRead r false) → s.port = .free → s.filter.op = none →
      exec .cpWordReturn s = .next ((s.withFlash (Flash.read s.bankWords s.flash r.addr).2).withArbiter
        { s.arbiter with access := none })) ∧
    (∀ h, s.port = .held h → h.wait = .flash →
      exec .cpReadAbandon s = .next ((dropped .free).withArbiter
        { s.arbiter with cpWait := none, access := s.arbiter.access.map Access.dropCp })) ∧
    (∀ h, s.port = .held h → h.wait = .proof →
      ∃ t, exec .cpReadAbandon s = .next t ∧ t.cpReady = true ∧
        t = (dropped .free).withVerifier { s.verifier with
          slots := t.verifier.slots
          pendingDemand := s.verifier.pendingDemand.map fun d => { d with waiter := none } } ∧
        ∀ i : Fin 8, t.slot i =
          if (s.slot i).waiter.isSome then { s.slot i with waiter := none, flag := true } else s.slot i) ∧
    (∀ w, s.port = .answered w → exec .cpAccessEnd s = .next (dropped .free)) ∧
    (s.port = .written → exec .cpAccessEnd s = .next (dropped .free)) ∧
    (s.cpReady = false → exec .cpAccessEnd s = .next s)

/-! ## Controller Port writes -/

/-- A write that is not the last of a sequence: absorbed where it begins or continues one, else refused; one that breaks the
sequence in progress, in EN1, ENABLED, PROGRAM_WAIT or ERASE_WAIT, is taken as a first write; outside RELEASED and TRANSPARENT
a write is taken from the port and goes nowhere. -/
def Obligations.AWriteIsAbsorbedOrRefusedByTheTracker : Prop :=
  ∀ (s : State) (a : Addr) (v : Word), s.port = .free → s.lines.crstIn = false → s.lines.inReset = false →
    let refused := fun r => exec (.cpWriteArrival a v) s = .next (s.refusedWith a v r)
    let absorbed := fun (st : TrackerState) (b : Bank) (ws : List AbsorbedWrite) =>
      exec (.cpWriteArrival a v) s = .next ((s.withPort .written).withFilter
        { s.filter with tracker := { state := st, bank := some b, writes := ws } })
    (s.boot.state ≠ .released → s.boot.state ≠ .transparent →
      exec (.cpWriteArrival a v) s = .next (s.withPort .written)) ∧
    (s.boot.state = .released ∨ s.boot.state = .transparent →
      (s.filter.tracker.state = .flashBusy → refused .flashBusy) ∧
      (s.filter.tracker.state ≠ .flashBusy → (s.windowMap a).loc = none → refused .outOfRange) ∧
      (∀ b o f, (s.windowMap a).loc = some (b, o, f) →
        let w : AbsorbedWrite := { addr := a, offset := o, value := v }
        let t := s.filter.tracker
        let breaks :=
          (t.state = .en1 ∧ (t.bank ≠ some b ∨ ¬ (o = 0x0E1E ∧ v = 0xA5C3#16))) ∨
          (t.state = .enabled ∧ (t.bank ≠ some b ∨ o ≠ 0x1E00 ∨ (v ≠ 0x0071#16 ∧ v ≠ 0x0026#16 ∧ v ≠ 0x00F5#16))) ∨
          (t.state = .programWait ∧ t.bank ≠ some b) ∨
          (t.state = .eraseWait ∧ (t.bank ≠ some b ∨ v ≠ 0x00D9#16))
        (t.state = .idle ∨ breaks →
          (o = 0x1E00 ∧ v = 0x5A3C#16 → absorbed .en1 b [w]) ∧
          (¬ (o = 0x1E00 ∧ v = 0x5A3C#16) → refused .stray)) ∧
        (t.state = .en1 → t.bank = some b → o = 0x0E1E → v = 0xA5C3#16 → absorbed .enabled b (t.writes ++ [w])) ∧
        (t.state = .enabled → t.bank = some b → o = 0x1E00 →
          (v = 0x0071#16 → absorbed .programWait b (t.writes ++ [w])) ∧
          (v = 0x0026#16 → absorbed .eraseWait b (t.writes ++ [w])))))

/-- The last write of a sequence. In RELEASED a PROGRAM or an ERASE is refused by the class of its target, by the update lock,
by a running wipe and by SUPPLY_LOW, in this order, and else it is held and requested as the operation in flight; in TRANSPARENT
it is forwarded; a RESET is always forwarded, and while an operation of the wipe is in flight it is held and waits. In RELEASED
no other write makes the tracker FLASH_BUSY. -/
def Obligations.AFinalWriteIsForwardedOnlyWhereItMayChangeTheFlash : Prop :=
  ∀ (s : State) (a : Addr) (v : Word), s.port = .free → s.lines.crstIn = false → s.lines.inReset = false →
    (s.boot.state = .released ∨ s.boot.state = .transparent) → s.filter.tracker.state ≠ .flashBusy →
    let refused := fun r => exec (.cpWriteArrival a v) s = .next (s.refusedWith a v r)
    let c := (s.windowMap a).cls
    let wiping := s.wipe.state ≠ .off ∧ s.wipe.state ≠ .failed
    let blocked := (c = .inactive ∧ s.fuse.lock = true) ∨ wiping ∨ s.alerts.supplyLow = true
    let t := s.filter.tracker
    (∀ b o f, (s.windowMap a).loc = some (b, o, f) → t.bank = some b →
      let w : AbsorbedWrite := { addr := a, offset := o, value := v }
      let sequence := (t.writes ++ [w]).map fun x => (b.toNat * s.bankWords + x.offset, x.value)
      let busy : Tracker := { state := .flashBusy, bank := some b, writes := t.writes ++ [w] }
      let forwarded := fun (k : SequenceKind) (poll : Nat) =>
        (s.filter.op = none → s.arbiter.cpWait = none → s.cpBusy = false →
          exec (.cpWriteArrival a v) s = .next (((s.withPort .writeHeld).withFilter
            { s.filter with
              tracker := busy
              op := some { owner := .tracker, kind := k, bank := b, pollAddr := b.toNat * s.bankWords + poll,
                           phase := .sending, retry := false } }).withArbiter
            { s.arbiter with cpWait := some (.sequence { bank := b, kind := k, writes := sequence }) })) ∧
        (s.filter.op.isSome = true → exec (.cpWriteArrival a v) s =
          .next ((s.withPort .writeHeld).withFilter { s.filter with tracker := busy }))
      (t.state = .programWait ∨ (t.state = .eraseWait ∧ v = 0x00D9#16) →
        (s.boot.state = .released →
          (c = .imageChunk → refused .activeImage) ∧ (c = .manifest → refused .manifestSector) ∧
          (c = .uncovered → refused .uncovered)) ∧
        (s.boot.state = .released → c = .inactive ∨ c = .data →
          (c = .inactive → s.fuse.lock = true → refused .updateLocked) ∧
          (¬ (c = .inactive ∧ s.fuse.lock = true) → wiping → refused .wipeRunning) ∧
          (¬ (c = .inactive ∧ s.fuse.lock = true) → ¬ wiping → s.alerts.supplyLow = true → refused .supplyLow)) ∧
        (∀ e1 e2 x, t.writes = [e1, e2, x] →
          s.boot.state = .transparent ∨ ((c = .inactive ∨ c = .data) ∧ ¬ blocked) →
          (t.state = .programWait → x.value = 0x0071#16 → forwarded .program o) ∧
          (t.state = .eraseWait → x.value = 0x0026#16 → forwarded .erase o))) ∧
      (∀ e1 e2, t.writes = [e1, e2] → t.state = .enabled → o = 0x1E00 → v = 0x00F5#16 → forwarded .reset 0x1E00)) ∧
    (s.boot.state = .released → ∀ t', exec (.cpWriteArrival a v) s = .next t' → t'.filter.tracker.state = .flashBusy →
      (t.state = .enabled ∧ v = 0x00F5#16) ∨ ((c = .inactive ∨ c = .data) ∧ ¬ blocked))

/-! ## Engine Link -/

/-- Frames of the Engine Link. EL_DOUT is high while EL_SEL# is high, and in a frame sends the outgoing byte, most
significant bit first. The beginning, the end with the read state cleared and UNDER kept, an unknown command with 0xFF after it,
STATUS with UNDER captured and cleared, and the status byte worked out afresh at every boundary. IDENT: the
next four boundaries send 0x56, 0x62, 0x30, 0x01 and every later one 0xFF, in every state that acts, and no request is made;
after a byte that is no command every boundary sends 0xFF. The model takes the boundaries of IDENT_OUT and DISCARD by
EL_READ_BYTE_BOUNDARY (log 16, the model's choice); a frame begun in a part reset or in HALTED has no phase (log 26, DEDUCED). -/
def Obligations.AnEngineLinkFrameRuns : Prop :=
  ∀ s : State,
    (∀ k, k < 8 → (s.el.selected = false → s.el.dout k = true) ∧
      (s.el.selected = true → s.el.dout k = s.el.out.getLsbD (7 - k))) ∧
    (s.el.selected = false → exec .elFrameBegin s = .next (s.withEl
      { s.el with selected := true, out := 0xFF#8, phase := if s.live then .command else .none })) ∧
    (s.el.selected = true → exec .elFrameEnd s = .next ((s.withEl
      { s.el with selected := false, out := 0xFF#8, phase := .none, latch := none, ahead := .empty }).withArbiter
      { s.arbiter with elWait := none, access := s.arbiter.access.map Access.dropEl })) ∧
    (s.live = true → s.el.phase = .command →
      (∀ code, exec (.elUnknownCommand code) s = .next (s.withEl { s.el with phase := .discard })) ∧
      exec .elStatus s = .next (s.withEl { s.el with phase := .statusOut s.el.under, under := false })) ∧
    (s.live = true → s.el.selected = true → s.el.phase = .discard →
      exec .elReadByteBoundary s = .next (s.withEl { s.el with out := 0xFF#8 })) ∧
    (∀ under, s.live = true → s.el.selected = true → s.el.phase = .statusOut under →
      let sent := fun (b : Byte) => exec .elStatusByteBoundary s = .next (s.withEl { s.el with out := b })
      let u := if under then 0x08#8 else 0x00#8
      (s.engineWindow = none → sent (0x04#8 ||| u)) ∧
      (∀ r g, s.engineWindow = some (r, g) →
        (g.state = .complete → sent (0x01#8 ||| u)) ∧ (g.state = .failed → sent (0x02#8 ||| u)) ∧
        (g.state = .checking → sent u))) ∧
    (s.live = true → s.el.selected = true → s.el.phase = .command →
      (∃ t : Nat → State, exec .elIdent s = .next (t 0) ∧ t 0 = s.withEl (t 0).el ∧
        ∀ n, exec .elReadByteBoundary (t n) = .next (t (n + 1)) ∧ t (n + 1) = s.withEl (t (n + 1)).el ∧
          (t (n + 1)).el.out = [0x56#8, 0x62#8, 0x30#8, 0x01#8].getD n 0xFF#8) ∧
      ∀ code, ∃ t : Nat → State, exec (.elUnknownCommand code) s = .next (t 0) ∧
        ∀ n, exec .elReadByteBoundary (t n) = .next (t (n + 1)) ∧ t (n + 1) = s.withEl (t (n + 1)).el ∧
          (t (n + 1)).el.out = 0xFF#8)

/-- The engine window is in RELEASED the first ENGINE-flagged IMAGE region of the Region Table, with its index, and there is none
without such a region and in every other boot state. Read-ahead (what State.readAhead, by which the commands end that can meet its conditions, makes of a state): the request for
the wanted word is made and the ahead buffer is PENDING for it where the phase is READ_DATA reached while a window existed, the
ahead buffer EMPTY, no request of the link waiting or granted, the word inside the window, the region not FAILED and the chunk
GOOD; else nothing changes. READ begins a read at its address and asks for the word there. A word that returns is held while it
is the wanted one or holds p; else it is stale, and the next request is made; so is it after a word of an ended frame. That
EL_READ goes from the phase COMMAND straight to READ_DATA is log 29, and that the returned word is the flash's at EL_WORD_RETURN is log 9 (both DEDUCED). -/
def Obligations.ReadAsksForTheWordAhead : Prop :=
  ∀ s : State,
    (s.boot.state ≠ .released → s.engineWindow = none) ∧
    (s.boot.state = .released →
      (∀ i g, s.tables.regions[i]? = some (.image g) → g.engine = true →
        (∀ j h, j < i → s.tables.regions[j]? = some (.image h) → h.engine = false) → s.engineWindow = some (i, g)) ∧
      ((∀ g, Region.image g ∈ s.tables.regions → g.engine = false) → s.engineWindow = none)) ∧
    ((∀ p, s.el.phase ≠ .readData p true) ∨ s.engineWindow = none ∨ s.boot.active = none → s.readAhead = s) ∧
    (∀ p r g b, s.el.phase = .readData p true → s.engineWindow = some (r, g) → s.boot.active = some b →
      let n := match s.el.latch with
        | some (w, _) => if w = p / 2 then p / 2 + 1 else p / 2
        | none => p / 2
      let may := s.live = true ∧ s.el.ahead = .empty ∧ s.arbiter.elWait = none ∧
        (∀ q keep, s.arbiter.access ≠ some (.elRead q keep)) ∧ 2 * n < g.count * 4096 ∧ g.state ≠ .failed ∧
        s.tables.chunkState (g.first + n / 2048) = .good
      (may → s.readAhead = (s.withEl { s.el with ahead := .pending n }).withArbiter { s.arbiter with
        elWait := some { window := n, bank := b, addr := b.toNat * s.bankWords + (g.base * 2048 + n) } }) ∧
      (¬ may → s.readAhead = s)) ∧
    (∀ (a : Addr), s.live = true → s.el.phase = .command →
      (s.engineWindow = none →
        exec (.elRead a) s = .next (s.withEl { s.el with phase := .readData a.toNat false })) ∧
      (∀ r g b, s.engineWindow = some (r, g) → s.boot.active = some b → s.el.ahead = .empty → s.el.latch = none →
        s.arbiter.elWait = none → s.arbiter.access = none →
        (a.toNat < g.count * 4096 → g.state ≠ .failed →
          s.tables.chunkState (g.first + a.toNat / 4096) = .good →
          let q : ElWordRequest :=
            { window := a.toNat / 2, bank := b, addr := b.toNat * s.bankWords + (g.base * 2048 + a.toNat / 2) }
          exec (.elRead a) s = .next ((s.withEl
            { s.el with phase := .readData a.toNat true, ahead := .pending (a.toNat / 2) }).withArbiter
            { s.arbiter with elWait := some q })) ∧
        (g.count * 4096 ≤ a.toNat ∨ g.state = .failed ∨
            s.tables.chunkState (g.first + a.toNat / 4096) ≠ .good →
          exec (.elRead a) s = .next (s.withEl { s.el with phase := .readData a.toNat true })))) ∧
    (∀ (r : ElWordRequest) (p : Nat) (w : Bool), s.arbiter.access = some (.elRead r true) →
      s.el.phase = .readData p w → (s.flash.bank (bankOfFlash s.bankWords r.addr)).mode = .array →
      (r.window = p / 2 ∨ r.window = s.el.wanted p →
        exec .elWordReturn s = .next ((s.withEl
          { s.el with ahead := .held r.window (s.flash.arrayWord r.addr) }).withArbiter
          { s.arbiter with access := none })) ∧
      (r.window ≠ p / 2 → r.window ≠ s.el.wanted p →
        exec .elWordReturn s = .next (((s.withEl { s.el with ahead := .empty }).withArbiter
          { s.arbiter with access := none }).readAhead))) ∧
    (∀ r : ElWordRequest, s.arbiter.access = some (.elRead r false) → exec .elWordReturn s =
      .next (((s.withFlash (Flash.read s.bankWords s.flash r.addr).2).withArbiter
        { s.arbiter with access := none }).readAhead))

/-- A boundary of READ. The byte is 0xFF outside the window, for a FAILED window and for a chunk that is not GOOD; for a GOOD
chunk it is the latch's or the ahead buffer's byte at p (whose word moves to the latch), and with neither 0xFF with UNDER set.
A byte of an UNCHECKED chunk is claimed as a demand without waiter: it joins the slot that holds the chunk, takes the lowest
FREE one, preempts a Scanner fill, or is dropped without a trace. Then p advances by one: a latch whose word p has passed
becomes empty, an ungranted request for a word p has passed is withdrawn, and the wanted word is asked for. -/
def Obligations.AReadBoundarySendsTheByteAtP : Prop :=
  ∀ (s : State) (p : Nat) (w : Bool), s.live = true → s.el.selected = true → s.el.phase = .readData p w →
    let sent := fun b : Byte => s.withEl { s.el with out := b }
    let byte := fun v : Word => if p % 2 = 0 then v.extractLsb' 0 8 else v.extractLsb' 8 8
    let word := (p + 1) / 2
    let passed := fun x : State => match x.el.ahead with
      | .pending n => decide (n < word) && x.arbiter.elWait.isSome
      | _ => false
    let ends := fun x : State => exec .elReadByteBoundary s = .next (((x.withEl { x.el with
        phase := .readData (p + 1) w
        latch := x.el.latch.filter fun l => decide (word ≤ l.1)
        ahead := if passed x then .empty else x.el.ahead }).withArbiter { x.arbiter with
        elWait := if passed x then none else x.arbiter.elWait }).readAhead)
    (s.engineWindow = none → ends (sent 0xFF#8)) ∧
    (∀ r g, s.engineWindow = some (r, g) →
      (w = false ∨ g.state = .failed ∨ g.count * 4096 ≤ p → ends (sent 0xFF#8)) ∧
      (w = true → g.state ≠ .failed → p < g.count * 4096 →
        let c := p / 4096
        let st := s.tables.chunkState (g.first + c)
        (st = .bad → ends (sent 0xFF#8)) ∧
        (st = .unchecked →
          (∀ i, s.chunkHolder r c = some i → ends ((sent 0xFF#8).demandJoined i none)) ∧
          (∀ i, s.chunkHolder r c = none → s.lowestFree = some i → ends ((sent 0xFF#8).demandTaken i r c none)) ∧
          (∀ i, s.chunkHolder r c = none → s.lowestFree = none → s.victimIs i →
            ∃ x, (sent 0xFF#8).demandPreempts x i r c none ∧ ends x) ∧
          (s.chunkHolder r c = none → s.lowestFree = none → (∀ i, ¬ (s.slot i).preemptible) → ends (sent 0xFF#8))) ∧
        (st = .good →
          (∀ v, s.el.latch = some (p / 2, v) → ends (sent (byte v))) ∧
          ((∀ v, s.el.latch ≠ some (p / 2, v)) →
            (∀ v, s.el.ahead = .held (p / 2) v →
              ends (s.withEl { s.el with out := byte v, latch := some (p / 2, v), ahead := .empty })) ∧
            ((∀ v, s.el.ahead ≠ .held (p / 2) v) → ends (s.withEl { s.el with out := 0xFF#8, under := true }))))))

/-! ## Service Link -/

/-- Frames of the Service Link. SL_DOUT is low while SL_SEL# is high; it sends bytes most significant bit first, 0x00 until
the decision event and after it the response's bytes and then 0x00. The commands that only report are answered with the
result byte and the record, and nothing else changes. In HALTED and in a part reset every command's frame is decided without a response and without effect, and a
command in a frame already decided, or in none, changes nothing (log 1). The records' fields are the next statement's. -/
def Obligations.TheServiceLinkReports : Prop :=
  ∀ s : State,
    let sent := fun (bytes : List Byte) => s.withSl { s.sl with frame := .decided bytes }
    (s.sl.selected = false → s.lines.inReset = false →
      exec .slFrameBegin s = .next (s.withSl { selected := true, frame := .receiving })) ∧
    exec .slFrameEnd s = .next (s.withSl { selected := false, frame := .none }) ∧
    (∀ n, (∀ k, k < 8 → (s.sl.selected = false → s.sl.dout n k = false) ∧
        (s.sl.selected = true → s.sl.dout n k = (s.sl.sends n).getLsbD (7 - k))) ∧
      (s.sl.frame = .receiving → s.sl.sends n = 0x00#8) ∧
      (∀ bytes, s.sl.frame = .decided bytes → s.sl.sends n = bytes.getD n 0x00#8)) ∧
    (∀ (n slot code : Byte) (start : Word) (digest : List Byte),
      ∀ c ∈ [Instr.slStatus, .slRegion n, .slChunks n start, .slCapture, .slCounters, .slKeys, .slProvision slot digest,
          .slRevoke slot, .slClose, .slLock, .slWipe, .slPatrol, .slUnknown code],
        (s.sl.frame = .receiving → s.live = false → exec c s = .next (sent [])) ∧
        (s.sl.frame ≠ .receiving → exec c s = .next s)) ∧
    (s.sl.frame = .receiving → s.live = true →
      exec .slStatus s = .next (sent (0x01#8 :: s.summary)) ∧
      (∀ code, exec (.slUnknown code) s = .next (sent [0x05#8])) ∧
      exec .slCounters s = .next (sent (0x01#8 :: s.fuse.counters.toList.map (BitVec.ofNat 8))) ∧
      exec .slKeys s = .next (sent (0x01#8 :: s.fuse.keys.toList.flatMap fun k =>
        (match k.state with | .empty => 0x00#8 | .active => 0x01#8 | .revoked => 0x02#8) :: k.digest)) ∧
      (∀ n : Byte,
        (∀ r, s.tables.regions[n.toNat]? = some r → exec (.slRegion n) s = .next (sent (0x01#8 :: r.record))) ∧
        (s.tables.regions[n.toNat]? = none → exec (.slRegion n) s = .next (sent [0x04#8]))) ∧
      (∀ (n : Byte) (start : Word),
        (∀ g, s.tables.image n.toNat = some g → start.toNat < g.count →
          exec (.slChunks n start) s = .next (sent (0x01#8 :: s.tables.chunksRecord g start.toNat))) ∧
        (s.tables.image n.toNat = none → exec (.slChunks n start) s = .next (sent [0x04#8])) ∧
        (∀ g, s.tables.image n.toNat = some g → g.count ≤ start.toNat →
          exec (.slChunks n start) s = .next (sent [0x04#8]))))

/-- The records that STATUS, REGION, CHUNKS and CAPTURE send, field by field at the byte positions of R187. A boot state of
HALTED has no code and is sent in no record (log 20). -/
def Obligations.TheRecordsHoldTheirFields : Prop :=
  ∀ s : State,
    let bank := fun b : Option Bank => match b with
      | some .bank0 => 0x00#8
      | some .bank1 => 0x01#8
      | none => 0xFF#8
    let bootCode := fun b : BootState => match b with
      | .selecting => some 0x00#8
      | .walking => some 0x01#8
      | .preverify => some 0x02#8
      | .released => some 0x03#8
      | .noBank => some 0x04#8
      | .transparent => some 0x06#8
      | .halted => none
    let gateCode := fun g : GateState => match g with | .closed => 0x00#8 | .opened => 0x01#8 | .latched => 0x02#8
    -- the bits of a byte, from bit 0 up; the rest are 0
    let bits := fun (r : List Byte) (k : Nat) (l : List Bool) => ∃ b, r[k]? = some b ∧ ∀ n, b.getLsbD n = l.getD n false
    let half := fun (r : List Byte) (k v : Nat) =>
      r[k]? = some (BitVec.ofNat 8 v) ∧ r[k + 1]? = some (BitVec.ofNat 8 (v / 256))
    (let r := s.summary
     r.length = 21 ∧
     r[0]? = some (match s.fuse.lifecycle with | .factory => 0x00#8 | .deployed => 0x01#8) ∧
     (∀ b, bootCode s.boot.state = some b → r[1]? = some b) ∧ r[2]? = some (bank s.boot.active) ∧
     r[3]? = some (gateCode s.gate.state) ∧
     r[4]? = some (match s.gate.cause with | none => 0x00#8 | some .chunkBad => 0x01#8 | some .late => 0x02#8) ∧
     bits r 5 [s.alerts.bad, s.alerts.late, s.alerts.violation, s.alerts.supplyLow, s.alerts.noBank] ∧
     r[6]? = some (match s.lines.cause with | .powerOn => 0x01#8 | .pin => 0x02#8 | .brownOut => 0x03#8) ∧
     (s.walk.lastFault = none → (r.drop 7).take 4 = [0x00#8, 0x00#8, 0x00#8, 0x00#8]) ∧
     (∀ kind ref, s.walk.lastFault = some (kind, ref) →
       r[7]? = some (match kind with
         | .rollback => 0x01#8
         | .scope => 0x02#8
         | .capacity => 0x03#8
         | .engineTwice => 0x04#8
         | .overflow => 0x05#8
         | .delegateBad => 0x06#8
         | .listBad => 0x07#8
         | .overlap => 0x08#8) ∧
       (r.drop 8).take 3 = match ref with
         | .entry signer index => [0x01#8, BitVec.ofNat 8 signer, BitVec.ofNat 8 index]
         | .region index => [0x02#8, BitVec.ofNat 8 index, 0x00#8]) ∧
     r[11]? = some (BitVec.ofNat 8 s.tables.regions.length) ∧
     r[12]? = some (BitVec.ofNat 8 (s.tables.regions.countP fun x => match x with
       | .image g => decide (g.state = .complete)
       | .data _ => false)) ∧
     bits r 13 [decide (s.scan.pass = .patrol ∨ s.scan.pass = .patrolStopping), s.fuse.lock, s.fuse.op.isSome,
       s.fuse.lockClear, s.filter.capture.isSome, s.filter.failed] ∧
     r[14]? = some (bank s.fuse.demoted) ∧ r[15]? = some (BitVec.ofNat 8 s.fuse.work.length) ∧
     r[16]? = some (match s.wipe.state with
       | .off => 0x00#8
       | .waiting => 0x01#8
       | .erasing => 0x02#8
       | .suspended => 0x03#8
       | .clearing => 0x04#8
       | .failed => 0x05#8) ∧
     r[17]? = some (BitVec.ofNat 8 s.wipe.k) ∧
     r[18]? = some (match s.wipe.last with | .none => 0x00#8 | .completed => 0x01#8 | .failed => 0x02#8) ∧
     half r 19 s.filter.violations) ∧
    (∀ g : ImageRegion,
      let r := (Region.image g).record
      r.length = 20 ∧ r[0]? = some 0x01#8 ∧
      r[1]? = some (match g.cls with | .boot => 0x01#8 | .print => 0x02#8 | .optional => 0x03#8) ∧
      r[2]? = some (BitVec.ofNat 8 g.signer) ∧
      r[3]? = some (match g.state with
        | .loading => 0x00#8
        | .checking => 0x01#8
        | .complete => 0x02#8
        | .failed => 0x03#8) ∧
      bits r 4 [g.engine] ∧ r[5]? = some (BitVec.ofNat 8 g.counter.val) ∧ r[6]? = some (BitVec.ofNat 8 g.version) ∧
      r[7]? = some 0x00#8 ∧ half r 8 g.imageId.toNat ∧ half r 10 g.base ∧ half r 12 g.count ∧ half r 14 g.first ∧
      half r 16 g.good ∧ half r 18 g.bad) ∧
    (∀ d : DataRegion,
      let r := (Region.data d).record
      r.length = 20 ∧ r[0]? = some 0x02#8 ∧ r[1]? = some 0x00#8 ∧ r[2]? = some (BitVec.ofNat 8 d.signer) ∧
      r[3]? = some 0xFF#8 ∧ (r.drop 4).take 6 = List.replicate 6 0x00#8 ∧ half r 10 d.base ∧ half r 12 d.count ∧
      r.drop 14 = List.replicate 6 0x00#8) ∧
    (∀ (g : ImageRegion) (start j : Nat), j < 64 →
      let r := s.tables.chunksRecord g start
      r.length = 16 ∧ ∃ b, r[j / 4]? = some b ∧
        (b.extractLsb' (2 * (j % 4)) 2 : BitVec 2) =
          if start + j < g.count then
            match s.tables.chunkState (g.first + (start + j)) with
            | .unchecked => 0#2
            | .good => 1#2
            | .bad => 2#2
          else 3#2) ∧
    (∀ (c : Capture) (b : Byte), bootCode c.boot = some b →
      captureRecord (some c) =
        [0x01#8,
         (match c.reason with
          | .activeImage => 0x01#8
          | .manifestSector => 0x02#8
          | .uncovered => 0x03#8
          | .updateLocked => 0x04#8
          | .wipeRunning => 0x05#8
          | .supplyLow => 0x06#8
          | .outOfRange => 0x07#8
          | .stray => 0x08#8
          | .flashBusy => 0x09#8),
         c.addr.extractLsb' 0 8, c.addr.extractLsb' 8 8, c.addr.extractLsb' 16 8, c.value.extractLsb' 0 8,
         c.value.extractLsb' 8 8, b, gateCode c.gate]) ∧
    captureRecord none = List.replicate 9 0x00#8

/-- CAPTURE sends the capture as it stood, or the record of none, empties it and clears VIOLATION; the violation count stays.
A refusal after it is counted, and the first fills the capture and sets VIOLATION again; a refusal before it fills an empty
capture, which is then sent. -/
def Obligations.CaptureIsSentAndEmptied : Prop :=
  ∀ s : State, s.sl.frame = .receiving → s.live = true →
    let emptied := fun (u : State) (sent : Option Capture) =>
      ((u.withFilter { u.filter with capture := none }).withAlerts
        { u.alerts with violation := false }).withSl { u.sl with frame := .decided (0x01#8 :: captureRecord sent) }
    exec .slCapture s = .next (emptied s s.filter.capture) ∧ captureRecord none = List.replicate 9 0x00#8 ∧
    ∀ (r : Reason) (a : Addr) (v : Word),
      let record : Capture := { reason := r, addr := a, value := v, boot := s.boot.state, gate := s.gate.state }
      let n := min (s.filter.violations + 1) 65535
      (let u := s.refuse r a v
       u.filter.violations = n ∧ exec .slCapture u = .next (emptied u (some (s.filter.capture.getD record)))) ∧
      (let u := (emptied s s.filter.capture).refuse r a v
       u.filter.violations = n ∧ u.filter.capture = some record ∧ u.alerts.violation = true) ∧
      (∀ c, s.filter.capture = some c → (s.refuse r a v).filter.capture = some c ∧
        (s.refuse r a v).filter.violations = n)

/-- PROVISION, REVOKE, CLOSE, LOCK and WIPE: BADARG, BUSY and REFUSED in the order R177 gives, with no effect; else OK, and the
programmer begins the operation, or the wipe of the inactive bank begins at sector 0. -/
def Obligations.TheServiceLinkOrdersFuseWorkAndTheWipe : Prop :=
  ∀ s : State, s.sl.frame = .receiving → s.live = true →
    let sent := fun (b : Byte) (t : State) => t.withSl { s.sl with frame := .decided [b] }
    let busy := s.fuse.op.isSome = true ∨ s.fuse.work ≠ [] ∨ s.fuse.lockClear = true ∨ s.alerts.supplyLow = true
    let begun := fun (op : FuseOp) => sent 0x01#8 (s.withFuse { s.fuse with op := some op })
    (∀ (n : Byte) (d : List Byte), 4 ≤ n.toNat →
      exec (.slProvision n d) s = .next (sent 0x04#8 s) ∧ exec (.slRevoke n) s = .next (sent 0x04#8 s)) ∧
    (∀ (i : Fin 4) (d : List Byte),
      let n := BitVec.ofNat 8 i.val
      let k := s.fuse.keys[i].state
      (busy → exec (.slProvision n d) s = .next (sent 0x03#8 s) ∧ exec (.slRevoke n) s = .next (sent 0x03#8 s)) ∧
      (¬ busy →
        (s.fuse.lifecycle = .deployed ∨ k ≠ .empty → exec (.slProvision n d) s = .next (sent 0x02#8 s)) ∧
        (s.fuse.lifecycle = .factory → k = .empty →
          exec (.slProvision n d) s = .next (begun (.provision i d))) ∧
        (k ≠ .active → exec (.slRevoke n) s = .next (sent 0x02#8 s)) ∧
        (k = .active → exec (.slRevoke n) s = .next (begun (.revoke i))))) ∧
    (busy → exec .slClose s = .next (sent 0x03#8 s)) ∧
    (¬ busy →
      (s.fuse.lifecycle = .deployed ∨ (∀ i : Fin 4, s.fuse.keys[i].state ≠ .active) →
        exec .slClose s = .next (sent 0x02#8 s)) ∧
      (s.fuse.lifecycle = .factory → (∃ i : Fin 4, s.fuse.keys[i].state = .active) →
        exec .slClose s = .next (begun .close))) ∧
    (let settled := s.fuse.lock = true ∧ s.fuse.lockClear = false ∧ s.fuse.op ≠ some .lockClear
     (settled → exec .slLock s = .next (sent 0x01#8 s)) ∧
     (¬ settled → busy → exec .slLock s = .next (sent 0x03#8 s)) ∧
     (¬ settled → ¬ busy → exec .slLock s = .next (begun .lockSet))) ∧
    (s.boot.state ≠ .released ∨ (s.wipe.state ≠ .off ∧ s.wipe.state ≠ .failed) →
      exec .slWipe s = .next (sent 0x02#8 s)) ∧
    (∀ b, s.boot.state = .released → s.boot.active = some b → s.wipe.state = .off ∨ s.wipe.state = .failed →
      exec .slWipe s = .next (sent 0x01#8 (s.withWipe
        { s.wipe with state := if s.alerts.supplyLow then .suspended else .waiting, k := 0, bank := some b.other })))

/-! ## Fuse programmer -/

/-- A COMMIT raises its counter by one each step, goes on to the next counter at the target and ends with the last; every
other operation ends with its own cells written and no other; the end of a wipe's lock clear completes the wipe. The programmer
then takes its next work, where SUPPLY_LOW is absent: the head of its list, a COMMIT with its targets, or a pending lock clear.
In HALTED and in a part reset an operation ends with its cells written too, nothing is begun and the wipe keeps its state. That
the last step's end is the operation's end is log 13 (DEDUCED), that a part reset begins nothing is log 31, and that the wipe
keeps its state in a part reset is log 36 (the model's choices). -/
def Obligations.TheProgrammerWritesItsCells : Prop :=
  ∀ s : State,
    -- the operation has ended with these cells and this wipe
    let ended := fun (c : Instr) (f : Fuse) (w : Wipe) =>
      (s.live = true → s.alerts.supplyLow = false → ∃ t, exec c s = .next t ∧ t = (s.withFuse t.fuse).withWipe w ∧
        takesWork s.tables s.boot.active t.fuse s.fuse.work { f with op := none }) ∧
      (s.live = false ∨ s.alerts.supplyLow = true → exec c s = .next ((s.withFuse { f with op := none }).withWipe w))
    (∀ (c : Fin 8) (n : Nat) (rest : List (Fin 8 × Nat)), s.fuse.op = some (.commit ((c, n) :: rest)) →
      let raised := { s.fuse with counters := s.fuse.counters.set c (s.fuse.counters[c] + 1) }
      (s.fuse.counters[c] + 1 < n → exec .fuseStepEnd s = .next (s.withFuse raised)) ∧
      (n ≤ s.fuse.counters[c] + 1 → rest ≠ [] →
        exec .fuseStepEnd s = .next (s.withFuse { raised with op := some (.commit rest) })) ∧
      (n ≤ s.fuse.counters[c] + 1 → rest = [] → ended .fuseStepEnd raised s.wipe)) ∧
    (let written := fun (f : Fuse) (w : Wipe) => ended .fuseOperationEnd f w
     (∀ b, s.fuse.op = some (.demote b) → written { s.fuse with demoted := b } s.wipe) ∧
     (s.fuse.op = some .undemote → written { s.fuse with demoted := none } s.wipe) ∧
     (s.fuse.op = some .lockSet → written { s.fuse with lock := true } s.wipe) ∧
     (s.fuse.op = some .lockClear → written { s.fuse with lock := false }
       (if s.live = true ∧ s.wipe.state = .clearing then { s.wipe with state := .off, k := 0, last := .completed }
        else s.wipe)) ∧
     (∀ i d, s.fuse.op = some (.provision i d) →
       written { s.fuse with keys := s.fuse.keys.set i { state := .active, digest := d } } s.wipe) ∧
     (∀ i, s.fuse.op = some (.revoke i) →
       written { s.fuse with keys := s.fuse.keys.set i { s.fuse.keys[i] with state := .revoked } } s.wipe) ∧
     (s.fuse.op = some .close → written { s.fuse with lifecycle := .deployed } s.wipe))
end

