-- ==== Sys2Proof/Laws/State.lean ====
section
/-! SUPPORT. One lemma per field per update of a block: what each `State.with…` changes and what it leaves. -/

namespace Sys2Proof.Machine

section
variable (s : State) (v : Lines)
@[simp] theorem State.withLines_lines : (s.withLines v).lines = v := rfl
@[simp] theorem State.withLines_boot : (s.withLines v).boot = s.boot := rfl
@[simp] theorem State.withLines_gate : (s.withLines v).gate = s.gate := rfl
@[simp] theorem State.withLines_alerts : (s.withLines v).alerts = s.alerts := rfl
@[simp] theorem State.withLines_timer : (s.withLines v).timer = s.timer := rfl
@[simp] theorem State.withLines_walk : (s.withLines v).walk = s.walk := rfl
@[simp] theorem State.withLines_tables : (s.withLines v).tables = s.tables := rfl
@[simp] theorem State.withLines_scan : (s.withLines v).scan = s.scan := rfl
@[simp] theorem State.withLines_verifier : (s.withLines v).verifier = s.verifier := rfl
@[simp] theorem State.withLines_arbiter : (s.withLines v).arbiter = s.arbiter := rfl
@[simp] theorem State.withLines_flash : (s.withLines v).flash = s.flash := rfl
@[simp] theorem State.withLines_port : (s.withLines v).port = s.port := rfl
@[simp] theorem State.withLines_filter : (s.withLines v).filter = s.filter := rfl
@[simp] theorem State.withLines_wipe : (s.withLines v).wipe = s.wipe := rfl
@[simp] theorem State.withLines_fuse : (s.withLines v).fuse = s.fuse := rfl
@[simp] theorem State.withLines_el : (s.withLines v).el = s.el := rfl
@[simp] theorem State.withLines_sl : (s.withLines v).sl = s.sl := rfl
@[simp] theorem State.withLines_pending : (s.withLines v).pending = s.pending := rfl
end

section
variable (s : State) (v : Boot)
@[simp] theorem State.withBoot_lines : (s.withBoot v).lines = s.lines := rfl
@[simp] theorem State.withBoot_boot : (s.withBoot v).boot = v := rfl
@[simp] theorem State.withBoot_gate : (s.withBoot v).gate = s.gate := rfl
@[simp] theorem State.withBoot_alerts : (s.withBoot v).alerts = s.alerts := rfl
@[simp] theorem State.withBoot_timer : (s.withBoot v).timer = s.timer := rfl
@[simp] theorem State.withBoot_walk : (s.withBoot v).walk = s.walk := rfl
@[simp] theorem State.withBoot_tables : (s.withBoot v).tables = s.tables := rfl
@[simp] theorem State.withBoot_scan : (s.withBoot v).scan = s.scan := rfl
@[simp] theorem State.withBoot_verifier : (s.withBoot v).verifier = s.verifier := rfl
@[simp] theorem State.withBoot_arbiter : (s.withBoot v).arbiter = s.arbiter := rfl
@[simp] theorem State.withBoot_flash : (s.withBoot v).flash = s.flash := rfl
@[simp] theorem State.withBoot_port : (s.withBoot v).port = s.port := rfl
@[simp] theorem State.withBoot_filter : (s.withBoot v).filter = s.filter := rfl
@[simp] theorem State.withBoot_wipe : (s.withBoot v).wipe = s.wipe := rfl
@[simp] theorem State.withBoot_fuse : (s.withBoot v).fuse = s.fuse := rfl
@[simp] theorem State.withBoot_el : (s.withBoot v).el = s.el := rfl
@[simp] theorem State.withBoot_sl : (s.withBoot v).sl = s.sl := rfl
@[simp] theorem State.withBoot_pending : (s.withBoot v).pending = s.pending := rfl
end

section
variable (s : State) (v : Gate)
@[simp] theorem State.withGate_lines : (s.withGate v).lines = s.lines := rfl
@[simp] theorem State.withGate_boot : (s.withGate v).boot = s.boot := rfl
@[simp] theorem State.withGate_gate : (s.withGate v).gate = v := rfl
@[simp] theorem State.withGate_alerts : (s.withGate v).alerts = s.alerts := rfl
@[simp] theorem State.withGate_timer : (s.withGate v).timer = s.timer := rfl
@[simp] theorem State.withGate_walk : (s.withGate v).walk = s.walk := rfl
@[simp] theorem State.withGate_tables : (s.withGate v).tables = s.tables := rfl
@[simp] theorem State.withGate_scan : (s.withGate v).scan = s.scan := rfl
@[simp] theorem State.withGate_verifier : (s.withGate v).verifier = s.verifier := rfl
@[simp] theorem State.withGate_arbiter : (s.withGate v).arbiter = s.arbiter := rfl
@[simp] theorem State.withGate_flash : (s.withGate v).flash = s.flash := rfl
@[simp] theorem State.withGate_port : (s.withGate v).port = s.port := rfl
@[simp] theorem State.withGate_filter : (s.withGate v).filter = s.filter := rfl
@[simp] theorem State.withGate_wipe : (s.withGate v).wipe = s.wipe := rfl
@[simp] theorem State.withGate_fuse : (s.withGate v).fuse = s.fuse := rfl
@[simp] theorem State.withGate_el : (s.withGate v).el = s.el := rfl
@[simp] theorem State.withGate_sl : (s.withGate v).sl = s.sl := rfl
@[simp] theorem State.withGate_pending : (s.withGate v).pending = s.pending := rfl
end

section
variable (s : State) (v : Alerts)
@[simp] theorem State.withAlerts_lines : (s.withAlerts v).lines = s.lines := rfl
@[simp] theorem State.withAlerts_boot : (s.withAlerts v).boot = s.boot := rfl
@[simp] theorem State.withAlerts_gate : (s.withAlerts v).gate = s.gate := rfl
@[simp] theorem State.withAlerts_alerts : (s.withAlerts v).alerts = v := rfl
@[simp] theorem State.withAlerts_timer : (s.withAlerts v).timer = s.timer := rfl
@[simp] theorem State.withAlerts_walk : (s.withAlerts v).walk = s.walk := rfl
@[simp] theorem State.withAlerts_tables : (s.withAlerts v).tables = s.tables := rfl
@[simp] theorem State.withAlerts_scan : (s.withAlerts v).scan = s.scan := rfl
@[simp] theorem State.withAlerts_verifier : (s.withAlerts v).verifier = s.verifier := rfl
@[simp] theorem State.withAlerts_arbiter : (s.withAlerts v).arbiter = s.arbiter := rfl
@[simp] theorem State.withAlerts_flash : (s.withAlerts v).flash = s.flash := rfl
@[simp] theorem State.withAlerts_port : (s.withAlerts v).port = s.port := rfl
@[simp] theorem State.withAlerts_filter : (s.withAlerts v).filter = s.filter := rfl
@[simp] theorem State.withAlerts_wipe : (s.withAlerts v).wipe = s.wipe := rfl
@[simp] theorem State.withAlerts_fuse : (s.withAlerts v).fuse = s.fuse := rfl
@[simp] theorem State.withAlerts_el : (s.withAlerts v).el = s.el := rfl
@[simp] theorem State.withAlerts_sl : (s.withAlerts v).sl = s.sl := rfl
@[simp] theorem State.withAlerts_pending : (s.withAlerts v).pending = s.pending := rfl
end

section
variable (s : State) (v : Timer)
@[simp] theorem State.withTimer_lines : (s.withTimer v).lines = s.lines := rfl
@[simp] theorem State.withTimer_boot : (s.withTimer v).boot = s.boot := rfl
@[simp] theorem State.withTimer_gate : (s.withTimer v).gate = s.gate := rfl
@[simp] theorem State.withTimer_alerts : (s.withTimer v).alerts = s.alerts := rfl
@[simp] theorem State.withTimer_timer : (s.withTimer v).timer = v := rfl
@[simp] theorem State.withTimer_walk : (s.withTimer v).walk = s.walk := rfl
@[simp] theorem State.withTimer_tables : (s.withTimer v).tables = s.tables := rfl
@[simp] theorem State.withTimer_scan : (s.withTimer v).scan = s.scan := rfl
@[simp] theorem State.withTimer_verifier : (s.withTimer v).verifier = s.verifier := rfl
@[simp] theorem State.withTimer_arbiter : (s.withTimer v).arbiter = s.arbiter := rfl
@[simp] theorem State.withTimer_flash : (s.withTimer v).flash = s.flash := rfl
@[simp] theorem State.withTimer_port : (s.withTimer v).port = s.port := rfl
@[simp] theorem State.withTimer_filter : (s.withTimer v).filter = s.filter := rfl
@[simp] theorem State.withTimer_wipe : (s.withTimer v).wipe = s.wipe := rfl
@[simp] theorem State.withTimer_fuse : (s.withTimer v).fuse = s.fuse := rfl
@[simp] theorem State.withTimer_el : (s.withTimer v).el = s.el := rfl
@[simp] theorem State.withTimer_sl : (s.withTimer v).sl = s.sl := rfl
@[simp] theorem State.withTimer_pending : (s.withTimer v).pending = s.pending := rfl
end

section
variable (s : State) (v : Walk)
@[simp] theorem State.withWalk_lines : (s.withWalk v).lines = s.lines := rfl
@[simp] theorem State.withWalk_boot : (s.withWalk v).boot = s.boot := rfl
@[simp] theorem State.withWalk_gate : (s.withWalk v).gate = s.gate := rfl
@[simp] theorem State.withWalk_alerts : (s.withWalk v).alerts = s.alerts := rfl
@[simp] theorem State.withWalk_timer : (s.withWalk v).timer = s.timer := rfl
@[simp] theorem State.withWalk_walk : (s.withWalk v).walk = v := rfl
@[simp] theorem State.withWalk_tables : (s.withWalk v).tables = s.tables := rfl
@[simp] theorem State.withWalk_scan : (s.withWalk v).scan = s.scan := rfl
@[simp] theorem State.withWalk_verifier : (s.withWalk v).verifier = s.verifier := rfl
@[simp] theorem State.withWalk_arbiter : (s.withWalk v).arbiter = s.arbiter := rfl
@[simp] theorem State.withWalk_flash : (s.withWalk v).flash = s.flash := rfl
@[simp] theorem State.withWalk_port : (s.withWalk v).port = s.port := rfl
@[simp] theorem State.withWalk_filter : (s.withWalk v).filter = s.filter := rfl
@[simp] theorem State.withWalk_wipe : (s.withWalk v).wipe = s.wipe := rfl
@[simp] theorem State.withWalk_fuse : (s.withWalk v).fuse = s.fuse := rfl
@[simp] theorem State.withWalk_el : (s.withWalk v).el = s.el := rfl
@[simp] theorem State.withWalk_sl : (s.withWalk v).sl = s.sl := rfl
@[simp] theorem State.withWalk_pending : (s.withWalk v).pending = s.pending := rfl
end

section
variable (s : State) (v : Tables)
@[simp] theorem State.withTables_lines : (s.withTables v).lines = s.lines := rfl
@[simp] theorem State.withTables_boot : (s.withTables v).boot = s.boot := rfl
@[simp] theorem State.withTables_gate : (s.withTables v).gate = s.gate := rfl
@[simp] theorem State.withTables_alerts : (s.withTables v).alerts = s.alerts := rfl
@[simp] theorem State.withTables_timer : (s.withTables v).timer = s.timer := rfl
@[simp] theorem State.withTables_walk : (s.withTables v).walk = s.walk := rfl
@[simp] theorem State.withTables_tables : (s.withTables v).tables = v := rfl
@[simp] theorem State.withTables_scan : (s.withTables v).scan = s.scan := rfl
@[simp] theorem State.withTables_verifier : (s.withTables v).verifier = s.verifier := rfl
@[simp] theorem State.withTables_arbiter : (s.withTables v).arbiter = s.arbiter := rfl
@[simp] theorem State.withTables_flash : (s.withTables v).flash = s.flash := rfl
@[simp] theorem State.withTables_port : (s.withTables v).port = s.port := rfl
@[simp] theorem State.withTables_filter : (s.withTables v).filter = s.filter := rfl
@[simp] theorem State.withTables_wipe : (s.withTables v).wipe = s.wipe := rfl
@[simp] theorem State.withTables_fuse : (s.withTables v).fuse = s.fuse := rfl
@[simp] theorem State.withTables_el : (s.withTables v).el = s.el := rfl
@[simp] theorem State.withTables_sl : (s.withTables v).sl = s.sl := rfl
@[simp] theorem State.withTables_pending : (s.withTables v).pending = s.pending := rfl
end

section
variable (s : State) (v : Scan)
@[simp] theorem State.withScan_lines : (s.withScan v).lines = s.lines := rfl
@[simp] theorem State.withScan_boot : (s.withScan v).boot = s.boot := rfl
@[simp] theorem State.withScan_gate : (s.withScan v).gate = s.gate := rfl
@[simp] theorem State.withScan_alerts : (s.withScan v).alerts = s.alerts := rfl
@[simp] theorem State.withScan_timer : (s.withScan v).timer = s.timer := rfl
@[simp] theorem State.withScan_walk : (s.withScan v).walk = s.walk := rfl
@[simp] theorem State.withScan_tables : (s.withScan v).tables = s.tables := rfl
@[simp] theorem State.withScan_scan : (s.withScan v).scan = v := rfl
@[simp] theorem State.withScan_verifier : (s.withScan v).verifier = s.verifier := rfl
@[simp] theorem State.withScan_arbiter : (s.withScan v).arbiter = s.arbiter := rfl
@[simp] theorem State.withScan_flash : (s.withScan v).flash = s.flash := rfl
@[simp] theorem State.withScan_port : (s.withScan v).port = s.port := rfl
@[simp] theorem State.withScan_filter : (s.withScan v).filter = s.filter := rfl
@[simp] theorem State.withScan_wipe : (s.withScan v).wipe = s.wipe := rfl
@[simp] theorem State.withScan_fuse : (s.withScan v).fuse = s.fuse := rfl
@[simp] theorem State.withScan_el : (s.withScan v).el = s.el := rfl
@[simp] theorem State.withScan_sl : (s.withScan v).sl = s.sl := rfl
@[simp] theorem State.withScan_pending : (s.withScan v).pending = s.pending := rfl
end

section
variable (s : State) (v : Verifier)
@[simp] theorem State.withVerifier_lines : (s.withVerifier v).lines = s.lines := rfl
@[simp] theorem State.withVerifier_boot : (s.withVerifier v).boot = s.boot := rfl
@[simp] theorem State.withVerifier_gate : (s.withVerifier v).gate = s.gate := rfl
@[simp] theorem State.withVerifier_alerts : (s.withVerifier v).alerts = s.alerts := rfl
@[simp] theorem State.withVerifier_timer : (s.withVerifier v).timer = s.timer := rfl
@[simp] theorem State.withVerifier_walk : (s.withVerifier v).walk = s.walk := rfl
@[simp] theorem State.withVerifier_tables : (s.withVerifier v).tables = s.tables := rfl
@[simp] theorem State.withVerifier_scan : (s.withVerifier v).scan = s.scan := rfl
@[simp] theorem State.withVerifier_verifier : (s.withVerifier v).verifier = v := rfl
@[simp] theorem State.withVerifier_arbiter : (s.withVerifier v).arbiter = s.arbiter := rfl
@[simp] theorem State.withVerifier_flash : (s.withVerifier v).flash = s.flash := rfl
@[simp] theorem State.withVerifier_port : (s.withVerifier v).port = s.port := rfl
@[simp] theorem State.withVerifier_filter : (s.withVerifier v).filter = s.filter := rfl
@[simp] theorem State.withVerifier_wipe : (s.withVerifier v).wipe = s.wipe := rfl
@[simp] theorem State.withVerifier_fuse : (s.withVerifier v).fuse = s.fuse := rfl
@[simp] theorem State.withVerifier_el : (s.withVerifier v).el = s.el := rfl
@[simp] theorem State.withVerifier_sl : (s.withVerifier v).sl = s.sl := rfl
@[simp] theorem State.withVerifier_pending : (s.withVerifier v).pending = s.pending := rfl
end

section
variable (s : State) (v : Arbiter)
@[simp] theorem State.withArbiter_lines : (s.withArbiter v).lines = s.lines := rfl
@[simp] theorem State.withArbiter_boot : (s.withArbiter v).boot = s.boot := rfl
@[simp] theorem State.withArbiter_gate : (s.withArbiter v).gate = s.gate := rfl
@[simp] theorem State.withArbiter_alerts : (s.withArbiter v).alerts = s.alerts := rfl
@[simp] theorem State.withArbiter_timer : (s.withArbiter v).timer = s.timer := rfl
@[simp] theorem State.withArbiter_walk : (s.withArbiter v).walk = s.walk := rfl
@[simp] theorem State.withArbiter_tables : (s.withArbiter v).tables = s.tables := rfl
@[simp] theorem State.withArbiter_scan : (s.withArbiter v).scan = s.scan := rfl
@[simp] theorem State.withArbiter_verifier : (s.withArbiter v).verifier = s.verifier := rfl
@[simp] theorem State.withArbiter_arbiter : (s.withArbiter v).arbiter = v := rfl
@[simp] theorem State.withArbiter_flash : (s.withArbiter v).flash = s.flash := rfl
@[simp] theorem State.withArbiter_port : (s.withArbiter v).port = s.port := rfl
@[simp] theorem State.withArbiter_filter : (s.withArbiter v).filter = s.filter := rfl
@[simp] theorem State.withArbiter_wipe : (s.withArbiter v).wipe = s.wipe := rfl
@[simp] theorem State.withArbiter_fuse : (s.withArbiter v).fuse = s.fuse := rfl
@[simp] theorem State.withArbiter_el : (s.withArbiter v).el = s.el := rfl
@[simp] theorem State.withArbiter_sl : (s.withArbiter v).sl = s.sl := rfl
@[simp] theorem State.withArbiter_pending : (s.withArbiter v).pending = s.pending := rfl
end

section
variable (s : State) (v : Flash)
@[simp] theorem State.withFlash_lines : (s.withFlash v).lines = s.lines := rfl
@[simp] theorem State.withFlash_boot : (s.withFlash v).boot = s.boot := rfl
@[simp] theorem State.withFlash_gate : (s.withFlash v).gate = s.gate := rfl
@[simp] theorem State.withFlash_alerts : (s.withFlash v).alerts = s.alerts := rfl
@[simp] theorem State.withFlash_timer : (s.withFlash v).timer = s.timer := rfl
@[simp] theorem State.withFlash_walk : (s.withFlash v).walk = s.walk := rfl
@[simp] theorem State.withFlash_tables : (s.withFlash v).tables = s.tables := rfl
@[simp] theorem State.withFlash_scan : (s.withFlash v).scan = s.scan := rfl
@[simp] theorem State.withFlash_verifier : (s.withFlash v).verifier = s.verifier := rfl
@[simp] theorem State.withFlash_arbiter : (s.withFlash v).arbiter = s.arbiter := rfl
@[simp] theorem State.withFlash_flash : (s.withFlash v).flash = v := rfl
@[simp] theorem State.withFlash_port : (s.withFlash v).port = s.port := rfl
@[simp] theorem State.withFlash_filter : (s.withFlash v).filter = s.filter := rfl
@[simp] theorem State.withFlash_wipe : (s.withFlash v).wipe = s.wipe := rfl
@[simp] theorem State.withFlash_fuse : (s.withFlash v).fuse = s.fuse := rfl
@[simp] theorem State.withFlash_el : (s.withFlash v).el = s.el := rfl
@[simp] theorem State.withFlash_sl : (s.withFlash v).sl = s.sl := rfl
@[simp] theorem State.withFlash_pending : (s.withFlash v).pending = s.pending := rfl
end

section
variable (s : State) (v : Port)
@[simp] theorem State.withPort_lines : (s.withPort v).lines = s.lines := rfl
@[simp] theorem State.withPort_boot : (s.withPort v).boot = s.boot := rfl
@[simp] theorem State.withPort_gate : (s.withPort v).gate = s.gate := rfl
@[simp] theorem State.withPort_alerts : (s.withPort v).alerts = s.alerts := rfl
@[simp] theorem State.withPort_timer : (s.withPort v).timer = s.timer := rfl
@[simp] theorem State.withPort_walk : (s.withPort v).walk = s.walk := rfl
@[simp] theorem State.withPort_tables : (s.withPort v).tables = s.tables := rfl
@[simp] theorem State.withPort_scan : (s.withPort v).scan = s.scan := rfl
@[simp] theorem State.withPort_verifier : (s.withPort v).verifier = s.verifier := rfl
@[simp] theorem State.withPort_arbiter : (s.withPort v).arbiter = s.arbiter := rfl
@[simp] theorem State.withPort_flash : (s.withPort v).flash = s.flash := rfl
@[simp] theorem State.withPort_port : (s.withPort v).port = v := rfl
@[simp] theorem State.withPort_filter : (s.withPort v).filter = s.filter := rfl
@[simp] theorem State.withPort_wipe : (s.withPort v).wipe = s.wipe := rfl
@[simp] theorem State.withPort_fuse : (s.withPort v).fuse = s.fuse := rfl
@[simp] theorem State.withPort_el : (s.withPort v).el = s.el := rfl
@[simp] theorem State.withPort_sl : (s.withPort v).sl = s.sl := rfl
@[simp] theorem State.withPort_pending : (s.withPort v).pending = s.pending := rfl
end

section
variable (s : State) (v : Filter)
@[simp] theorem State.withFilter_lines : (s.withFilter v).lines = s.lines := rfl
@[simp] theorem State.withFilter_boot : (s.withFilter v).boot = s.boot := rfl
@[simp] theorem State.withFilter_gate : (s.withFilter v).gate = s.gate := rfl
@[simp] theorem State.withFilter_alerts : (s.withFilter v).alerts = s.alerts := rfl
@[simp] theorem State.withFilter_timer : (s.withFilter v).timer = s.timer := rfl
@[simp] theorem State.withFilter_walk : (s.withFilter v).walk = s.walk := rfl
@[simp] theorem State.withFilter_tables : (s.withFilter v).tables = s.tables := rfl
@[simp] theorem State.withFilter_scan : (s.withFilter v).scan = s.scan := rfl
@[simp] theorem State.withFilter_verifier : (s.withFilter v).verifier = s.verifier := rfl
@[simp] theorem State.withFilter_arbiter : (s.withFilter v).arbiter = s.arbiter := rfl
@[simp] theorem State.withFilter_flash : (s.withFilter v).flash = s.flash := rfl
@[simp] theorem State.withFilter_port : (s.withFilter v).port = s.port := rfl
@[simp] theorem State.withFilter_filter : (s.withFilter v).filter = v := rfl
@[simp] theorem State.withFilter_wipe : (s.withFilter v).wipe = s.wipe := rfl
@[simp] theorem State.withFilter_fuse : (s.withFilter v).fuse = s.fuse := rfl
@[simp] theorem State.withFilter_el : (s.withFilter v).el = s.el := rfl
@[simp] theorem State.withFilter_sl : (s.withFilter v).sl = s.sl := rfl
@[simp] theorem State.withFilter_pending : (s.withFilter v).pending = s.pending := rfl
end

section
variable (s : State) (v : Wipe)
@[simp] theorem State.withWipe_lines : (s.withWipe v).lines = s.lines := rfl
@[simp] theorem State.withWipe_boot : (s.withWipe v).boot = s.boot := rfl
@[simp] theorem State.withWipe_gate : (s.withWipe v).gate = s.gate := rfl
@[simp] theorem State.withWipe_alerts : (s.withWipe v).alerts = s.alerts := rfl
@[simp] theorem State.withWipe_timer : (s.withWipe v).timer = s.timer := rfl
@[simp] theorem State.withWipe_walk : (s.withWipe v).walk = s.walk := rfl
@[simp] theorem State.withWipe_tables : (s.withWipe v).tables = s.tables := rfl
@[simp] theorem State.withWipe_scan : (s.withWipe v).scan = s.scan := rfl
@[simp] theorem State.withWipe_verifier : (s.withWipe v).verifier = s.verifier := rfl
@[simp] theorem State.withWipe_arbiter : (s.withWipe v).arbiter = s.arbiter := rfl
@[simp] theorem State.withWipe_flash : (s.withWipe v).flash = s.flash := rfl
@[simp] theorem State.withWipe_port : (s.withWipe v).port = s.port := rfl
@[simp] theorem State.withWipe_filter : (s.withWipe v).filter = s.filter := rfl
@[simp] theorem State.withWipe_wipe : (s.withWipe v).wipe = v := rfl
@[simp] theorem State.withWipe_fuse : (s.withWipe v).fuse = s.fuse := rfl
@[simp] theorem State.withWipe_el : (s.withWipe v).el = s.el := rfl
@[simp] theorem State.withWipe_sl : (s.withWipe v).sl = s.sl := rfl
@[simp] theorem State.withWipe_pending : (s.withWipe v).pending = s.pending := rfl
end

section
variable (s : State) (v : Fuse)
@[simp] theorem State.withFuse_lines : (s.withFuse v).lines = s.lines := rfl
@[simp] theorem State.withFuse_boot : (s.withFuse v).boot = s.boot := rfl
@[simp] theorem State.withFuse_gate : (s.withFuse v).gate = s.gate := rfl
@[simp] theorem State.withFuse_alerts : (s.withFuse v).alerts = s.alerts := rfl
@[simp] theorem State.withFuse_timer : (s.withFuse v).timer = s.timer := rfl
@[simp] theorem State.withFuse_walk : (s.withFuse v).walk = s.walk := rfl
@[simp] theorem State.withFuse_tables : (s.withFuse v).tables = s.tables := rfl
@[simp] theorem State.withFuse_scan : (s.withFuse v).scan = s.scan := rfl
@[simp] theorem State.withFuse_verifier : (s.withFuse v).verifier = s.verifier := rfl
@[simp] theorem State.withFuse_arbiter : (s.withFuse v).arbiter = s.arbiter := rfl
@[simp] theorem State.withFuse_flash : (s.withFuse v).flash = s.flash := rfl
@[simp] theorem State.withFuse_port : (s.withFuse v).port = s.port := rfl
@[simp] theorem State.withFuse_filter : (s.withFuse v).filter = s.filter := rfl
@[simp] theorem State.withFuse_wipe : (s.withFuse v).wipe = s.wipe := rfl
@[simp] theorem State.withFuse_fuse : (s.withFuse v).fuse = v := rfl
@[simp] theorem State.withFuse_el : (s.withFuse v).el = s.el := rfl
@[simp] theorem State.withFuse_sl : (s.withFuse v).sl = s.sl := rfl
@[simp] theorem State.withFuse_pending : (s.withFuse v).pending = s.pending := rfl
end

section
variable (s : State) (v : EngineLink)
@[simp] theorem State.withEl_lines : (s.withEl v).lines = s.lines := rfl
@[simp] theorem State.withEl_boot : (s.withEl v).boot = s.boot := rfl
@[simp] theorem State.withEl_gate : (s.withEl v).gate = s.gate := rfl
@[simp] theorem State.withEl_alerts : (s.withEl v).alerts = s.alerts := rfl
@[simp] theorem State.withEl_timer : (s.withEl v).timer = s.timer := rfl
@[simp] theorem State.withEl_walk : (s.withEl v).walk = s.walk := rfl
@[simp] theorem State.withEl_tables : (s.withEl v).tables = s.tables := rfl
@[simp] theorem State.withEl_scan : (s.withEl v).scan = s.scan := rfl
@[simp] theorem State.withEl_verifier : (s.withEl v).verifier = s.verifier := rfl
@[simp] theorem State.withEl_arbiter : (s.withEl v).arbiter = s.arbiter := rfl
@[simp] theorem State.withEl_flash : (s.withEl v).flash = s.flash := rfl
@[simp] theorem State.withEl_port : (s.withEl v).port = s.port := rfl
@[simp] theorem State.withEl_filter : (s.withEl v).filter = s.filter := rfl
@[simp] theorem State.withEl_wipe : (s.withEl v).wipe = s.wipe := rfl
@[simp] theorem State.withEl_fuse : (s.withEl v).fuse = s.fuse := rfl
@[simp] theorem State.withEl_el : (s.withEl v).el = v := rfl
@[simp] theorem State.withEl_sl : (s.withEl v).sl = s.sl := rfl
@[simp] theorem State.withEl_pending : (s.withEl v).pending = s.pending := rfl
end

section
variable (s : State) (v : ServiceLink)
@[simp] theorem State.withSl_lines : (s.withSl v).lines = s.lines := rfl
@[simp] theorem State.withSl_boot : (s.withSl v).boot = s.boot := rfl
@[simp] theorem State.withSl_gate : (s.withSl v).gate = s.gate := rfl
@[simp] theorem State.withSl_alerts : (s.withSl v).alerts = s.alerts := rfl
@[simp] theorem State.withSl_timer : (s.withSl v).timer = s.timer := rfl
@[simp] theorem State.withSl_walk : (s.withSl v).walk = s.walk := rfl
@[simp] theorem State.withSl_tables : (s.withSl v).tables = s.tables := rfl
@[simp] theorem State.withSl_scan : (s.withSl v).scan = s.scan := rfl
@[simp] theorem State.withSl_verifier : (s.withSl v).verifier = s.verifier := rfl
@[simp] theorem State.withSl_arbiter : (s.withSl v).arbiter = s.arbiter := rfl
@[simp] theorem State.withSl_flash : (s.withSl v).flash = s.flash := rfl
@[simp] theorem State.withSl_port : (s.withSl v).port = s.port := rfl
@[simp] theorem State.withSl_filter : (s.withSl v).filter = s.filter := rfl
@[simp] theorem State.withSl_wipe : (s.withSl v).wipe = s.wipe := rfl
@[simp] theorem State.withSl_fuse : (s.withSl v).fuse = s.fuse := rfl
@[simp] theorem State.withSl_el : (s.withSl v).el = s.el := rfl
@[simp] theorem State.withSl_sl : (s.withSl v).sl = v := rfl
@[simp] theorem State.withSl_pending : (s.withSl v).pending = s.pending := rfl
end

section
variable (s : State) (v : List Instr)
@[simp] theorem State.withPending_lines : (s.withPending v).lines = s.lines := rfl
@[simp] theorem State.withPending_boot : (s.withPending v).boot = s.boot := rfl
@[simp] theorem State.withPending_gate : (s.withPending v).gate = s.gate := rfl
@[simp] theorem State.withPending_alerts : (s.withPending v).alerts = s.alerts := rfl
@[simp] theorem State.withPending_timer : (s.withPending v).timer = s.timer := rfl
@[simp] theorem State.withPending_walk : (s.withPending v).walk = s.walk := rfl
@[simp] theorem State.withPending_tables : (s.withPending v).tables = s.tables := rfl
@[simp] theorem State.withPending_scan : (s.withPending v).scan = s.scan := rfl
@[simp] theorem State.withPending_verifier : (s.withPending v).verifier = s.verifier := rfl
@[simp] theorem State.withPending_arbiter : (s.withPending v).arbiter = s.arbiter := rfl
@[simp] theorem State.withPending_flash : (s.withPending v).flash = s.flash := rfl
@[simp] theorem State.withPending_port : (s.withPending v).port = s.port := rfl
@[simp] theorem State.withPending_filter : (s.withPending v).filter = s.filter := rfl
@[simp] theorem State.withPending_wipe : (s.withPending v).wipe = s.wipe := rfl
@[simp] theorem State.withPending_fuse : (s.withPending v).fuse = s.fuse := rfl
@[simp] theorem State.withPending_el : (s.withPending v).el = s.el := rfl
@[simp] theorem State.withPending_sl : (s.withPending v).sl = s.sl := rfl
@[simp] theorem State.withPending_pending : (s.withPending v).pending = v := rfl
end

/-! The later update of a block takes the earlier one's place, and a block set to itself changes nothing. -/

section
variable (s : State)
@[simp] theorem State.withLines_withLines (v w : Lines) : (s.withLines v).withLines w = s.withLines w := rfl
@[simp] theorem State.withBoot_withBoot (v w : Boot) : (s.withBoot v).withBoot w = s.withBoot w := rfl
@[simp] theorem State.withGate_withGate (v w : Gate) : (s.withGate v).withGate w = s.withGate w := rfl
@[simp] theorem State.withAlerts_withAlerts (v w : Alerts) : (s.withAlerts v).withAlerts w = s.withAlerts w := rfl
@[simp] theorem State.withTimer_withTimer (v w : Timer) : (s.withTimer v).withTimer w = s.withTimer w := rfl
@[simp] theorem State.withWalk_withWalk (v w : Walk) : (s.withWalk v).withWalk w = s.withWalk w := rfl
@[simp] theorem State.withTables_withTables (v w : Tables) : (s.withTables v).withTables w = s.withTables w := rfl
@[simp] theorem State.withScan_withScan (v w : Scan) : (s.withScan v).withScan w = s.withScan w := rfl
@[simp] theorem State.withVerifier_withVerifier (v w : Verifier) : (s.withVerifier v).withVerifier w = s.withVerifier w := rfl
@[simp] theorem State.withArbiter_withArbiter (v w : Arbiter) : (s.withArbiter v).withArbiter w = s.withArbiter w := rfl
@[simp] theorem State.withFlash_withFlash (v w : Flash) : (s.withFlash v).withFlash w = s.withFlash w := rfl
@[simp] theorem State.withPort_withPort (v w : Port) : (s.withPort v).withPort w = s.withPort w := rfl
@[simp] theorem State.withFilter_withFilter (v w : Filter) : (s.withFilter v).withFilter w = s.withFilter w := rfl
@[simp] theorem State.withWipe_withWipe (v w : Wipe) : (s.withWipe v).withWipe w = s.withWipe w := rfl
@[simp] theorem State.withFuse_withFuse (v w : Fuse) : (s.withFuse v).withFuse w = s.withFuse w := rfl
@[simp] theorem State.withEl_withEl (v w : EngineLink) : (s.withEl v).withEl w = s.withEl w := rfl
@[simp] theorem State.withSl_withSl (v w : ServiceLink) : (s.withSl v).withSl w = s.withSl w := rfl
@[simp] theorem State.withPending_withPending (v w : List Instr) : (s.withPending v).withPending w = s.withPending w := rfl
@[simp] theorem State.withLines_self : s.withLines s.lines = s := rfl
@[simp] theorem State.withBoot_self : s.withBoot s.boot = s := rfl
@[simp] theorem State.withGate_self : s.withGate s.gate = s := rfl
@[simp] theorem State.withAlerts_self : s.withAlerts s.alerts = s := rfl
@[simp] theorem State.withTimer_self : s.withTimer s.timer = s := rfl
@[simp] theorem State.withWalk_self : s.withWalk s.walk = s := rfl
@[simp] theorem State.withTables_self : s.withTables s.tables = s := rfl
@[simp] theorem State.withScan_self : s.withScan s.scan = s := rfl
@[simp] theorem State.withVerifier_self : s.withVerifier s.verifier = s := rfl
@[simp] theorem State.withArbiter_self : s.withArbiter s.arbiter = s := rfl
@[simp] theorem State.withFlash_self : s.withFlash s.flash = s := rfl
@[simp] theorem State.withPort_self : s.withPort s.port = s := rfl
@[simp] theorem State.withFilter_self : s.withFilter s.filter = s := rfl
@[simp] theorem State.withWipe_self : s.withWipe s.wipe = s := rfl
@[simp] theorem State.withFuse_self : s.withFuse s.fuse = s := rfl
@[simp] theorem State.withEl_self : s.withEl s.el = s := rfl
@[simp] theorem State.withSl_self : s.withSl s.sl = s := rfl
@[simp] theorem State.withPending_self : s.withPending s.pending = s := rfl
end

end Sys2Proof.Machine
end

