-- ==== Sys2Proof/Laws/Blocks.lean ====
section
/-! SUPPORT. Which blocks each shared operation leaves as they are: one lemma per operation, a conjunction that the
simplifier takes as rewrite rules. -/

namespace Sys2Proof.Machine

@[simp] theorem State.setSlot_blocks (s : State) (i : Fin 8) (v : Slot) :
    (State.setSlot s i v).lines = s.lines ∧
    (State.setSlot s i v).boot = s.boot ∧
    (State.setSlot s i v).gate = s.gate ∧
    (State.setSlot s i v).alerts = s.alerts ∧
    (State.setSlot s i v).timer = s.timer ∧
    (State.setSlot s i v).walk = s.walk ∧
    (State.setSlot s i v).tables = s.tables ∧
    (State.setSlot s i v).scan = s.scan ∧
    (State.setSlot s i v).arbiter = s.arbiter ∧
    (State.setSlot s i v).flash = s.flash ∧
    (State.setSlot s i v).port = s.port ∧
    (State.setSlot s i v).filter = s.filter ∧
    (State.setSlot s i v).wipe = s.wipe ∧
    (State.setSlot s i v).fuse = s.fuse ∧
    (State.setSlot s i v).el = s.el ∧
    (State.setSlot s i v).sl = s.sl ∧
    (State.setSlot s i v).pending = s.pending := by
  simp [State.setSlot]

@[simp] theorem State.reportIdle_blocks (s : State) (b : Bank) :
    (State.reportIdle s b).lines = s.lines ∧
    (State.reportIdle s b).boot = s.boot ∧
    (State.reportIdle s b).gate = s.gate ∧
    (State.reportIdle s b).alerts = s.alerts ∧
    (State.reportIdle s b).timer = s.timer ∧
    (State.reportIdle s b).walk = s.walk ∧
    (State.reportIdle s b).tables = s.tables ∧
    (State.reportIdle s b).scan = s.scan ∧
    (State.reportIdle s b).verifier = s.verifier ∧
    (State.reportIdle s b).flash = s.flash ∧
    (State.reportIdle s b).port = s.port ∧
    (State.reportIdle s b).filter = s.filter ∧
    (State.reportIdle s b).wipe = s.wipe ∧
    (State.reportIdle s b).fuse = s.fuse ∧
    (State.reportIdle s b).el = s.el ∧
    (State.reportIdle s b).sl = s.sl ∧
    (State.reportIdle s b).pending = s.pending := by
  simp [State.reportIdle]

@[simp] theorem State.readFlash_blocks (s : State) (addr : Nat) :
    (State.readFlash s addr).2.lines = s.lines ∧
    (State.readFlash s addr).2.boot = s.boot ∧
    (State.readFlash s addr).2.gate = s.gate ∧
    (State.readFlash s addr).2.alerts = s.alerts ∧
    (State.readFlash s addr).2.timer = s.timer ∧
    (State.readFlash s addr).2.walk = s.walk ∧
    (State.readFlash s addr).2.tables = s.tables ∧
    (State.readFlash s addr).2.scan = s.scan ∧
    (State.readFlash s addr).2.verifier = s.verifier ∧
    (State.readFlash s addr).2.arbiter = s.arbiter ∧
    (State.readFlash s addr).2.port = s.port ∧
    (State.readFlash s addr).2.filter = s.filter ∧
    (State.readFlash s addr).2.wipe = s.wipe ∧
    (State.readFlash s addr).2.fuse = s.fuse ∧
    (State.readFlash s addr).2.el = s.el ∧
    (State.readFlash s addr).2.sl = s.sl ∧
    (State.readFlash s addr).2.pending = s.pending := by
  simp [State.readFlash]

@[simp] theorem State.requestBurst_blocks (s : State) (i : Fin 8) :
    (State.requestBurst s i).lines = s.lines ∧
    (State.requestBurst s i).boot = s.boot ∧
    (State.requestBurst s i).gate = s.gate ∧
    (State.requestBurst s i).alerts = s.alerts ∧
    (State.requestBurst s i).timer = s.timer ∧
    (State.requestBurst s i).walk = s.walk ∧
    (State.requestBurst s i).tables = s.tables ∧
    (State.requestBurst s i).scan = s.scan ∧
    (State.requestBurst s i).verifier = s.verifier ∧
    (State.requestBurst s i).flash = s.flash ∧
    (State.requestBurst s i).port = s.port ∧
    (State.requestBurst s i).filter = s.filter ∧
    (State.requestBurst s i).wipe = s.wipe ∧
    (State.requestBurst s i).fuse = s.fuse ∧
    (State.requestBurst s i).el = s.el ∧
    (State.requestBurst s i).sl = s.sl ∧
    (State.requestBurst s i).pending = s.pending := by
  simp [State.requestBurst]

@[simp] theorem State.withdrawBurst_blocks (s : State) (i : Fin 8) :
    (State.withdrawBurst s i).lines = s.lines ∧
    (State.withdrawBurst s i).boot = s.boot ∧
    (State.withdrawBurst s i).gate = s.gate ∧
    (State.withdrawBurst s i).alerts = s.alerts ∧
    (State.withdrawBurst s i).timer = s.timer ∧
    (State.withdrawBurst s i).walk = s.walk ∧
    (State.withdrawBurst s i).tables = s.tables ∧
    (State.withdrawBurst s i).scan = s.scan ∧
    (State.withdrawBurst s i).verifier = s.verifier ∧
    (State.withdrawBurst s i).flash = s.flash ∧
    (State.withdrawBurst s i).port = s.port ∧
    (State.withdrawBurst s i).filter = s.filter ∧
    (State.withdrawBurst s i).wipe = s.wipe ∧
    (State.withdrawBurst s i).fuse = s.fuse ∧
    (State.withdrawBurst s i).el = s.el ∧
    (State.withdrawBurst s i).sl = s.sl ∧
    (State.withdrawBurst s i).pending = s.pending := by
  simp [State.withdrawBurst]

@[simp] theorem State.refile_blocks (s : State) (i : Fin 8) :
    (State.refile s i).lines = s.lines ∧
    (State.refile s i).boot = s.boot ∧
    (State.refile s i).gate = s.gate ∧
    (State.refile s i).alerts = s.alerts ∧
    (State.refile s i).timer = s.timer ∧
    (State.refile s i).walk = s.walk ∧
    (State.refile s i).tables = s.tables ∧
    (State.refile s i).scan = s.scan ∧
    (State.refile s i).verifier = s.verifier ∧
    (State.refile s i).flash = s.flash ∧
    (State.refile s i).port = s.port ∧
    (State.refile s i).filter = s.filter ∧
    (State.refile s i).wipe = s.wipe ∧
    (State.refile s i).fuse = s.fuse ∧
    (State.refile s i).el = s.el ∧
    (State.refile s i).sl = s.sl ∧
    (State.refile s i).pending = s.pending := by
  unfold State.refile; (repeat' split) <;> simp

@[simp] theorem State.preemptBurst_blocks (s : State) (i : Fin 8) :
    (State.preemptBurst s i).lines = s.lines ∧
    (State.preemptBurst s i).boot = s.boot ∧
    (State.preemptBurst s i).gate = s.gate ∧
    (State.preemptBurst s i).alerts = s.alerts ∧
    (State.preemptBurst s i).timer = s.timer ∧
    (State.preemptBurst s i).walk = s.walk ∧
    (State.preemptBurst s i).tables = s.tables ∧
    (State.preemptBurst s i).scan = s.scan ∧
    (State.preemptBurst s i).verifier = s.verifier ∧
    (State.preemptBurst s i).flash = s.flash ∧
    (State.preemptBurst s i).port = s.port ∧
    (State.preemptBurst s i).filter = s.filter ∧
    (State.preemptBurst s i).wipe = s.wipe ∧
    (State.preemptBurst s i).fuse = s.fuse ∧
    (State.preemptBurst s i).el = s.el ∧
    (State.preemptBurst s i).sl = s.sl ∧
    (State.preemptBurst s i).pending = s.pending := by
  simp [State.preemptBurst]

@[simp] theorem State.withAccess_blocks (s : State) (a : Access) :
    (State.withAccess s a).lines = s.lines ∧
    (State.withAccess s a).boot = s.boot ∧
    (State.withAccess s a).gate = s.gate ∧
    (State.withAccess s a).alerts = s.alerts ∧
    (State.withAccess s a).timer = s.timer ∧
    (State.withAccess s a).walk = s.walk ∧
    (State.withAccess s a).tables = s.tables ∧
    (State.withAccess s a).scan = s.scan ∧
    (State.withAccess s a).verifier = s.verifier ∧
    (State.withAccess s a).flash = s.flash ∧
    (State.withAccess s a).port = s.port ∧
    (State.withAccess s a).filter = s.filter ∧
    (State.withAccess s a).wipe = s.wipe ∧
    (State.withAccess s a).fuse = s.fuse ∧
    (State.withAccess s a).el = s.el ∧
    (State.withAccess s a).sl = s.sl ∧
    (State.withAccess s a).pending = s.pending := by
  simp [State.withAccess]

@[simp] theorem State.endAccess_blocks (s : State) :
    (State.endAccess s).lines = s.lines ∧
    (State.endAccess s).boot = s.boot ∧
    (State.endAccess s).gate = s.gate ∧
    (State.endAccess s).alerts = s.alerts ∧
    (State.endAccess s).timer = s.timer ∧
    (State.endAccess s).walk = s.walk ∧
    (State.endAccess s).tables = s.tables ∧
    (State.endAccess s).scan = s.scan ∧
    (State.endAccess s).verifier = s.verifier ∧
    (State.endAccess s).flash = s.flash ∧
    (State.endAccess s).port = s.port ∧
    (State.endAccess s).filter = s.filter ∧
    (State.endAccess s).wipe = s.wipe ∧
    (State.endAccess s).fuse = s.fuse ∧
    (State.endAccess s).el = s.el ∧
    (State.endAccess s).sl = s.sl ∧
    (State.endAccess s).pending = s.pending := by
  simp [State.endAccess]

@[simp] theorem State.grantCp_blocks (s : State) :
    (State.grantCp s).lines = s.lines ∧
    (State.grantCp s).boot = s.boot ∧
    (State.grantCp s).gate = s.gate ∧
    (State.grantCp s).alerts = s.alerts ∧
    (State.grantCp s).timer = s.timer ∧
    (State.grantCp s).walk = s.walk ∧
    (State.grantCp s).tables = s.tables ∧
    (State.grantCp s).scan = s.scan ∧
    (State.grantCp s).verifier = s.verifier ∧
    (State.grantCp s).flash = s.flash ∧
    (State.grantCp s).port = s.port ∧
    (State.grantCp s).filter = s.filter ∧
    (State.grantCp s).wipe = s.wipe ∧
    (State.grantCp s).fuse = s.fuse ∧
    (State.grantCp s).el = s.el ∧
    (State.grantCp s).sl = s.sl ∧
    (State.grantCp s).pending = s.pending := by
  unfold State.grantCp; (repeat' split) <;> simp

@[simp] theorem State.grantEl_blocks (s : State) :
    (State.grantEl s).lines = s.lines ∧
    (State.grantEl s).boot = s.boot ∧
    (State.grantEl s).gate = s.gate ∧
    (State.grantEl s).alerts = s.alerts ∧
    (State.grantEl s).timer = s.timer ∧
    (State.grantEl s).walk = s.walk ∧
    (State.grantEl s).tables = s.tables ∧
    (State.grantEl s).scan = s.scan ∧
    (State.grantEl s).verifier = s.verifier ∧
    (State.grantEl s).flash = s.flash ∧
    (State.grantEl s).port = s.port ∧
    (State.grantEl s).filter = s.filter ∧
    (State.grantEl s).wipe = s.wipe ∧
    (State.grantEl s).fuse = s.fuse ∧
    (State.grantEl s).el = s.el ∧
    (State.grantEl s).sl = s.sl ∧
    (State.grantEl s).pending = s.pending := by
  unfold State.grantEl; (repeat' split) <;> simp

@[simp] theorem State.grantBurst_blocks (s : State) (c : BurstClass) (i : Fin 8) :
    (State.grantBurst s c i).lines = s.lines ∧
    (State.grantBurst s c i).boot = s.boot ∧
    (State.grantBurst s c i).gate = s.gate ∧
    (State.grantBurst s c i).alerts = s.alerts ∧
    (State.grantBurst s c i).timer = s.timer ∧
    (State.grantBurst s c i).walk = s.walk ∧
    (State.grantBurst s c i).tables = s.tables ∧
    (State.grantBurst s c i).scan = s.scan ∧
    (State.grantBurst s c i).verifier = s.verifier ∧
    (State.grantBurst s c i).flash = s.flash ∧
    (State.grantBurst s c i).port = s.port ∧
    (State.grantBurst s c i).filter = s.filter ∧
    (State.grantBurst s c i).wipe = s.wipe ∧
    (State.grantBurst s c i).fuse = s.fuse ∧
    (State.grantBurst s c i).el = s.el ∧
    (State.grantBurst s c i).sl = s.sl ∧
    (State.grantBurst s c i).pending = s.pending := by
  unfold State.grantBurst; (repeat' split) <;> simp

@[simp] theorem State.grantPoll_blocks (s : State) :
    (State.grantPoll s).lines = s.lines ∧
    (State.grantPoll s).boot = s.boot ∧
    (State.grantPoll s).gate = s.gate ∧
    (State.grantPoll s).alerts = s.alerts ∧
    (State.grantPoll s).timer = s.timer ∧
    (State.grantPoll s).walk = s.walk ∧
    (State.grantPoll s).tables = s.tables ∧
    (State.grantPoll s).scan = s.scan ∧
    (State.grantPoll s).verifier = s.verifier ∧
    (State.grantPoll s).port = s.port ∧
    (State.grantPoll s).filter = s.filter ∧
    (State.grantPoll s).wipe = s.wipe ∧
    (State.grantPoll s).fuse = s.fuse ∧
    (State.grantPoll s).el = s.el ∧
    (State.grantPoll s).sl = s.sl ∧
    (State.grantPoll s).pending = s.pending := by
  unfold State.grantPoll; (repeat' split) <;> simp

@[simp] theorem State.grantMaint_blocks (s : State) :
    (State.grantMaint s).lines = s.lines ∧
    (State.grantMaint s).boot = s.boot ∧
    (State.grantMaint s).gate = s.gate ∧
    (State.grantMaint s).alerts = s.alerts ∧
    (State.grantMaint s).timer = s.timer ∧
    (State.grantMaint s).walk = s.walk ∧
    (State.grantMaint s).tables = s.tables ∧
    (State.grantMaint s).scan = s.scan ∧
    (State.grantMaint s).verifier = s.verifier ∧
    (State.grantMaint s).flash = s.flash ∧
    (State.grantMaint s).port = s.port ∧
    (State.grantMaint s).filter = s.filter ∧
    (State.grantMaint s).wipe = s.wipe ∧
    (State.grantMaint s).fuse = s.fuse ∧
    (State.grantMaint s).el = s.el ∧
    (State.grantMaint s).sl = s.sl ∧
    (State.grantMaint s).pending = s.pending := by
  unfold State.grantMaint; (repeat' split) <;> simp

@[simp] theorem State.grantByClass_blocks (s : State) :
    (State.grantByClass s).lines = s.lines ∧
    (State.grantByClass s).boot = s.boot ∧
    (State.grantByClass s).gate = s.gate ∧
    (State.grantByClass s).alerts = s.alerts ∧
    (State.grantByClass s).timer = s.timer ∧
    (State.grantByClass s).walk = s.walk ∧
    (State.grantByClass s).tables = s.tables ∧
    (State.grantByClass s).scan = s.scan ∧
    (State.grantByClass s).verifier = s.verifier ∧
    (State.grantByClass s).port = s.port ∧
    (State.grantByClass s).filter = s.filter ∧
    (State.grantByClass s).wipe = s.wipe ∧
    (State.grantByClass s).fuse = s.fuse ∧
    (State.grantByClass s).el = s.el ∧
    (State.grantByClass s).sl = s.sl ∧
    (State.grantByClass s).pending = s.pending := by
  unfold State.grantByClass; (repeat' split) <;> simp

@[simp] theorem State.grantRequest_blocks (s : State) :
    (State.grantRequest s).lines = s.lines ∧
    (State.grantRequest s).boot = s.boot ∧
    (State.grantRequest s).gate = s.gate ∧
    (State.grantRequest s).alerts = s.alerts ∧
    (State.grantRequest s).timer = s.timer ∧
    (State.grantRequest s).walk = s.walk ∧
    (State.grantRequest s).tables = s.tables ∧
    (State.grantRequest s).scan = s.scan ∧
    (State.grantRequest s).verifier = s.verifier ∧
    (State.grantRequest s).port = s.port ∧
    (State.grantRequest s).filter = s.filter ∧
    (State.grantRequest s).wipe = s.wipe ∧
    (State.grantRequest s).fuse = s.fuse ∧
    (State.grantRequest s).el = s.el ∧
    (State.grantRequest s).sl = s.sl ∧
    (State.grantRequest s).pending = s.pending := by
  unfold State.grantRequest; (repeat' split) <;> simp

@[simp] theorem State.grantSettle_blocks (s : State) (t : Settle) :
    (State.grantSettle s t).lines = s.lines ∧
    (State.grantSettle s t).boot = s.boot ∧
    (State.grantSettle s t).gate = s.gate ∧
    (State.grantSettle s t).alerts = s.alerts ∧
    (State.grantSettle s t).timer = s.timer ∧
    (State.grantSettle s t).walk = s.walk ∧
    (State.grantSettle s t).tables = s.tables ∧
    (State.grantSettle s t).scan = s.scan ∧
    (State.grantSettle s t).verifier = s.verifier ∧
    (State.grantSettle s t).port = s.port ∧
    (State.grantSettle s t).filter = s.filter ∧
    (State.grantSettle s t).wipe = s.wipe ∧
    (State.grantSettle s t).fuse = s.fuse ∧
    (State.grantSettle s t).el = s.el ∧
    (State.grantSettle s t).sl = s.sl ∧
    (State.grantSettle s t).pending = s.pending := by
  unfold State.grantSettle; (repeat' split) <;> simp

@[simp] theorem State.grant_blocks (s : State) :
    (State.grant s).lines = s.lines ∧
    (State.grant s).boot = s.boot ∧
    (State.grant s).gate = s.gate ∧
    (State.grant s).alerts = s.alerts ∧
    (State.grant s).timer = s.timer ∧
    (State.grant s).walk = s.walk ∧
    (State.grant s).tables = s.tables ∧
    (State.grant s).scan = s.scan ∧
    (State.grant s).verifier = s.verifier ∧
    (State.grant s).port = s.port ∧
    (State.grant s).filter = s.filter ∧
    (State.grant s).wipe = s.wipe ∧
    (State.grant s).fuse = s.fuse ∧
    (State.grant s).el = s.el ∧
    (State.grant s).sl = s.sl ∧
    (State.grant s).pending = s.pending := by
  unfold State.grant; (repeat' split) <;> simp

@[simp] theorem State.finishAccess_blocks (s : State) :
    (State.finishAccess s).lines = s.lines ∧
    (State.finishAccess s).boot = s.boot ∧
    (State.finishAccess s).gate = s.gate ∧
    (State.finishAccess s).alerts = s.alerts ∧
    (State.finishAccess s).timer = s.timer ∧
    (State.finishAccess s).walk = s.walk ∧
    (State.finishAccess s).tables = s.tables ∧
    (State.finishAccess s).scan = s.scan ∧
    (State.finishAccess s).verifier = s.verifier ∧
    (State.finishAccess s).port = s.port ∧
    (State.finishAccess s).filter = s.filter ∧
    (State.finishAccess s).wipe = s.wipe ∧
    (State.finishAccess s).fuse = s.fuse ∧
    (State.finishAccess s).el = s.el ∧
    (State.finishAccess s).sl = s.sl ∧
    (State.finishAccess s).pending = s.pending := by
  unfold State.finishAccess; (repeat' split) <;> simp

@[simp] theorem State.stopPort_blocks (s : State) :
    (State.stopPort s).lines = s.lines ∧
    (State.stopPort s).boot = s.boot ∧
    (State.stopPort s).gate = s.gate ∧
    (State.stopPort s).alerts = s.alerts ∧
    (State.stopPort s).timer = s.timer ∧
    (State.stopPort s).walk = s.walk ∧
    (State.stopPort s).tables = s.tables ∧
    (State.stopPort s).scan = s.scan ∧
    (State.stopPort s).verifier = s.verifier ∧
    (State.stopPort s).port = s.port ∧
    (State.stopPort s).filter = s.filter ∧
    (State.stopPort s).wipe = s.wipe ∧
    (State.stopPort s).fuse = s.fuse ∧
    (State.stopPort s).el = s.el ∧
    (State.stopPort s).sl = s.sl ∧
    (State.stopPort s).pending = s.pending := by
  simp [State.stopPort]

@[simp] theorem State.takeSlot_blocks (s : State) (i : Fin 8) (purpose : Purpose) (content : Content) (waiter : Option Nat) (flag : Bool) :
    (State.takeSlot s i purpose content waiter flag).lines = s.lines ∧
    (State.takeSlot s i purpose content waiter flag).boot = s.boot ∧
    (State.takeSlot s i purpose content waiter flag).gate = s.gate ∧
    (State.takeSlot s i purpose content waiter flag).alerts = s.alerts ∧
    (State.takeSlot s i purpose content waiter flag).timer = s.timer ∧
    (State.takeSlot s i purpose content waiter flag).walk = s.walk ∧
    (State.takeSlot s i purpose content waiter flag).tables = s.tables ∧
    (State.takeSlot s i purpose content waiter flag).scan = s.scan ∧
    (State.takeSlot s i purpose content waiter flag).flash = s.flash ∧
    (State.takeSlot s i purpose content waiter flag).port = s.port ∧
    (State.takeSlot s i purpose content waiter flag).filter = s.filter ∧
    (State.takeSlot s i purpose content waiter flag).wipe = s.wipe ∧
    (State.takeSlot s i purpose content waiter flag).fuse = s.fuse ∧
    (State.takeSlot s i purpose content waiter flag).el = s.el ∧
    (State.takeSlot s i purpose content waiter flag).sl = s.sl ∧
    (State.takeSlot s i purpose content waiter flag).pending = s.pending := by
  simp [State.takeSlot]

@[simp] theorem State.freeSlot_blocks (s : State) (i : Fin 8) :
    (State.freeSlot s i).lines = s.lines ∧
    (State.freeSlot s i).boot = s.boot ∧
    (State.freeSlot s i).gate = s.gate ∧
    (State.freeSlot s i).alerts = s.alerts ∧
    (State.freeSlot s i).timer = s.timer ∧
    (State.freeSlot s i).walk = s.walk ∧
    (State.freeSlot s i).tables = s.tables ∧
    (State.freeSlot s i).scan = s.scan ∧
    (State.freeSlot s i).flash = s.flash ∧
    (State.freeSlot s i).port = s.port ∧
    (State.freeSlot s i).filter = s.filter ∧
    (State.freeSlot s i).wipe = s.wipe ∧
    (State.freeSlot s i).fuse = s.fuse ∧
    (State.freeSlot s i).el = s.el ∧
    (State.freeSlot s i).sl = s.sl ∧
    (State.freeSlot s i).pending = s.pending := by
  simp [State.freeSlot]

@[simp] theorem State.engineNext_blocks (s : State) :
    (State.engineNext s).lines = s.lines ∧
    (State.engineNext s).boot = s.boot ∧
    (State.engineNext s).gate = s.gate ∧
    (State.engineNext s).alerts = s.alerts ∧
    (State.engineNext s).timer = s.timer ∧
    (State.engineNext s).walk = s.walk ∧
    (State.engineNext s).tables = s.tables ∧
    (State.engineNext s).scan = s.scan ∧
    (State.engineNext s).arbiter = s.arbiter ∧
    (State.engineNext s).flash = s.flash ∧
    (State.engineNext s).port = s.port ∧
    (State.engineNext s).filter = s.filter ∧
    (State.engineNext s).wipe = s.wipe ∧
    (State.engineNext s).fuse = s.fuse ∧
    (State.engineNext s).el = s.el ∧
    (State.engineNext s).sl = s.sl ∧
    (State.engineNext s).pending = s.pending := by
  unfold State.engineNext; (repeat' split) <;> simp

@[simp] theorem State.engineIdle_blocks (s : State) :
    (State.engineIdle s).lines = s.lines ∧
    (State.engineIdle s).boot = s.boot ∧
    (State.engineIdle s).gate = s.gate ∧
    (State.engineIdle s).alerts = s.alerts ∧
    (State.engineIdle s).timer = s.timer ∧
    (State.engineIdle s).walk = s.walk ∧
    (State.engineIdle s).tables = s.tables ∧
    (State.engineIdle s).scan = s.scan ∧
    (State.engineIdle s).arbiter = s.arbiter ∧
    (State.engineIdle s).flash = s.flash ∧
    (State.engineIdle s).port = s.port ∧
    (State.engineIdle s).filter = s.filter ∧
    (State.engineIdle s).wipe = s.wipe ∧
    (State.engineIdle s).fuse = s.fuse ∧
    (State.engineIdle s).el = s.el ∧
    (State.engineIdle s).sl = s.sl ∧
    (State.engineIdle s).pending = s.pending := by
  simp [State.engineIdle]

@[simp] theorem State.enqueue_blocks (s : State) (i : Fin 8) :
    (State.enqueue s i).lines = s.lines ∧
    (State.enqueue s i).boot = s.boot ∧
    (State.enqueue s i).gate = s.gate ∧
    (State.enqueue s i).alerts = s.alerts ∧
    (State.enqueue s i).timer = s.timer ∧
    (State.enqueue s i).walk = s.walk ∧
    (State.enqueue s i).tables = s.tables ∧
    (State.enqueue s i).scan = s.scan ∧
    (State.enqueue s i).arbiter = s.arbiter ∧
    (State.enqueue s i).flash = s.flash ∧
    (State.enqueue s i).port = s.port ∧
    (State.enqueue s i).filter = s.filter ∧
    (State.enqueue s i).wipe = s.wipe ∧
    (State.enqueue s i).fuse = s.fuse ∧
    (State.enqueue s i).el = s.el ∧
    (State.enqueue s i).sl = s.sl ∧
    (State.enqueue s i).pending = s.pending := by
  simp [State.enqueue]

@[simp] theorem State.holdSlot_blocks (s : State) (i : Fin 8) :
    (State.holdSlot s i).lines = s.lines ∧
    (State.holdSlot s i).boot = s.boot ∧
    (State.holdSlot s i).gate = s.gate ∧
    (State.holdSlot s i).alerts = s.alerts ∧
    (State.holdSlot s i).timer = s.timer ∧
    (State.holdSlot s i).walk = s.walk ∧
    (State.holdSlot s i).tables = s.tables ∧
    (State.holdSlot s i).scan = s.scan ∧
    (State.holdSlot s i).arbiter = s.arbiter ∧
    (State.holdSlot s i).flash = s.flash ∧
    (State.holdSlot s i).port = s.port ∧
    (State.holdSlot s i).filter = s.filter ∧
    (State.holdSlot s i).wipe = s.wipe ∧
    (State.holdSlot s i).fuse = s.fuse ∧
    (State.holdSlot s i).el = s.el ∧
    (State.holdSlot s i).sl = s.sl ∧
    (State.holdSlot s i).pending = s.pending := by
  simp [State.holdSlot]

@[simp] theorem State.claimIntake_blocks (s : State) (purpose : Purpose) (bank : Bank) (chunk : Nat) :
    (State.claimIntake s purpose bank chunk).1.lines = s.lines ∧
    (State.claimIntake s purpose bank chunk).1.boot = s.boot ∧
    (State.claimIntake s purpose bank chunk).1.gate = s.gate ∧
    (State.claimIntake s purpose bank chunk).1.alerts = s.alerts ∧
    (State.claimIntake s purpose bank chunk).1.timer = s.timer ∧
    (State.claimIntake s purpose bank chunk).1.walk = s.walk ∧
    (State.claimIntake s purpose bank chunk).1.tables = s.tables ∧
    (State.claimIntake s purpose bank chunk).1.scan = s.scan ∧
    (State.claimIntake s purpose bank chunk).1.flash = s.flash ∧
    (State.claimIntake s purpose bank chunk).1.port = s.port ∧
    (State.claimIntake s purpose bank chunk).1.filter = s.filter ∧
    (State.claimIntake s purpose bank chunk).1.wipe = s.wipe ∧
    (State.claimIntake s purpose bank chunk).1.fuse = s.fuse ∧
    (State.claimIntake s purpose bank chunk).1.el = s.el ∧
    (State.claimIntake s purpose bank chunk).1.sl = s.sl ∧
    (State.claimIntake s purpose bank chunk).1.pending = s.pending := by
  unfold State.claimIntake; (repeat' split) <;> simp

@[simp] theorem State.joinSlot_blocks (s : State) (i : Fin 8) (waiter : Option Nat) :
    (State.joinSlot s i waiter).lines = s.lines ∧
    (State.joinSlot s i waiter).boot = s.boot ∧
    (State.joinSlot s i waiter).gate = s.gate ∧
    (State.joinSlot s i waiter).alerts = s.alerts ∧
    (State.joinSlot s i waiter).timer = s.timer ∧
    (State.joinSlot s i waiter).walk = s.walk ∧
    (State.joinSlot s i waiter).tables = s.tables ∧
    (State.joinSlot s i waiter).scan = s.scan ∧
    (State.joinSlot s i waiter).flash = s.flash ∧
    (State.joinSlot s i waiter).port = s.port ∧
    (State.joinSlot s i waiter).filter = s.filter ∧
    (State.joinSlot s i waiter).wipe = s.wipe ∧
    (State.joinSlot s i waiter).fuse = s.fuse ∧
    (State.joinSlot s i waiter).el = s.el ∧
    (State.joinSlot s i waiter).sl = s.sl ∧
    (State.joinSlot s i waiter).pending = s.pending := by
  simp [State.joinSlot]

@[simp] theorem State.claimScan_blocks (s : State) (purpose : Purpose) (region index : Nat) :
    (State.claimScan s purpose region index).1.lines = s.lines ∧
    (State.claimScan s purpose region index).1.boot = s.boot ∧
    (State.claimScan s purpose region index).1.gate = s.gate ∧
    (State.claimScan s purpose region index).1.alerts = s.alerts ∧
    (State.claimScan s purpose region index).1.timer = s.timer ∧
    (State.claimScan s purpose region index).1.walk = s.walk ∧
    (State.claimScan s purpose region index).1.tables = s.tables ∧
    (State.claimScan s purpose region index).1.scan = s.scan ∧
    (State.claimScan s purpose region index).1.flash = s.flash ∧
    (State.claimScan s purpose region index).1.port = s.port ∧
    (State.claimScan s purpose region index).1.filter = s.filter ∧
    (State.claimScan s purpose region index).1.wipe = s.wipe ∧
    (State.claimScan s purpose region index).1.fuse = s.fuse ∧
    (State.claimScan s purpose region index).1.el = s.el ∧
    (State.claimScan s purpose region index).1.sl = s.sl ∧
    (State.claimScan s purpose region index).1.pending = s.pending := by
  unfold State.claimScan; (repeat' split) <;> simp

@[simp] theorem State.setCursor_blocks (s : State) (c : Cursor) :
    (State.setCursor s c).lines = s.lines ∧
    (State.setCursor s c).boot = s.boot ∧
    (State.setCursor s c).gate = s.gate ∧
    (State.setCursor s c).alerts = s.alerts ∧
    (State.setCursor s c).timer = s.timer ∧
    (State.setCursor s c).walk = s.walk ∧
    (State.setCursor s c).tables = s.tables ∧
    (State.setCursor s c).verifier = s.verifier ∧
    (State.setCursor s c).arbiter = s.arbiter ∧
    (State.setCursor s c).flash = s.flash ∧
    (State.setCursor s c).port = s.port ∧
    (State.setCursor s c).filter = s.filter ∧
    (State.setCursor s c).wipe = s.wipe ∧
    (State.setCursor s c).fuse = s.fuse ∧
    (State.setCursor s c).el = s.el ∧
    (State.setCursor s c).sl = s.sl ∧
    (State.setCursor s c).pending = s.pending := by
  simp [State.setCursor]

@[simp] theorem State.scanSteps_blocks (fuel : Nat) (s : State) :
    (State.scanSteps fuel s).lines = s.lines ∧
    (State.scanSteps fuel s).boot = s.boot ∧
    (State.scanSteps fuel s).gate = s.gate ∧
    (State.scanSteps fuel s).alerts = s.alerts ∧
    (State.scanSteps fuel s).timer = s.timer ∧
    (State.scanSteps fuel s).walk = s.walk ∧
    (State.scanSteps fuel s).tables = s.tables ∧
    (State.scanSteps fuel s).flash = s.flash ∧
    (State.scanSteps fuel s).port = s.port ∧
    (State.scanSteps fuel s).filter = s.filter ∧
    (State.scanSteps fuel s).wipe = s.wipe ∧
    (State.scanSteps fuel s).fuse = s.fuse ∧
    (State.scanSteps fuel s).el = s.el ∧
    (State.scanSteps fuel s).sl = s.sl ∧
    (State.scanSteps fuel s).pending = s.pending := by
  induction fuel generalizing s with
  | zero => simp [State.scanSteps]
  | succ n ih =>
    unfold State.scanSteps
    split
    · simp
    · simp
    · dsimp only
      split
      · simp [ih]
      · simp [ih]
      · rename_i pos chunk _ _ purpose r _
        have h := State.claimScan_blocks s purpose r chunk
        split <;> rename_i heq <;> rw [heq] at h <;> simp_all

@[simp] theorem State.endPass_blocks (s : State) :
    (State.endPass s).lines = s.lines ∧
    (State.endPass s).boot = s.boot ∧
    (State.endPass s).gate = s.gate ∧
    (State.endPass s).alerts = s.alerts ∧
    (State.endPass s).timer = s.timer ∧
    (State.endPass s).walk = s.walk ∧
    (State.endPass s).tables = s.tables ∧
    (State.endPass s).verifier = s.verifier ∧
    (State.endPass s).arbiter = s.arbiter ∧
    (State.endPass s).flash = s.flash ∧
    (State.endPass s).port = s.port ∧
    (State.endPass s).filter = s.filter ∧
    (State.endPass s).wipe = s.wipe ∧
    (State.endPass s).fuse = s.fuse ∧
    (State.endPass s).el = s.el ∧
    (State.endPass s).sl = s.sl ∧
    (State.endPass s).pending = s.pending := by
  unfold State.endPass; (repeat' split) <;> simp

@[simp] theorem State.scanResume_blocks (s : State) :
    (State.scanResume s).lines = s.lines ∧
    (State.scanResume s).boot = s.boot ∧
    (State.scanResume s).gate = s.gate ∧
    (State.scanResume s).alerts = s.alerts ∧
    (State.scanResume s).timer = s.timer ∧
    (State.scanResume s).walk = s.walk ∧
    (State.scanResume s).tables = s.tables ∧
    (State.scanResume s).flash = s.flash ∧
    (State.scanResume s).port = s.port ∧
    (State.scanResume s).filter = s.filter ∧
    (State.scanResume s).wipe = s.wipe ∧
    (State.scanResume s).fuse = s.fuse ∧
    (State.scanResume s).el = s.el ∧
    (State.scanResume s).sl = s.sl ∧
    (State.scanResume s).pending = s.pending := by
  unfold State.scanResume; (repeat' split) <;> simp

@[simp] theorem State.startPass_blocks (s : State) (p : Pass) :
    (State.startPass s p).lines = s.lines ∧
    (State.startPass s p).boot = s.boot ∧
    (State.startPass s p).gate = s.gate ∧
    (State.startPass s p).alerts = s.alerts ∧
    (State.startPass s p).timer = s.timer ∧
    (State.startPass s p).walk = s.walk ∧
    (State.startPass s p).tables = s.tables ∧
    (State.startPass s p).flash = s.flash ∧
    (State.startPass s p).port = s.port ∧
    (State.startPass s p).filter = s.filter ∧
    (State.startPass s p).wipe = s.wipe ∧
    (State.startPass s p).fuse = s.fuse ∧
    (State.startPass s p).el = s.el ∧
    (State.startPass s p).sl = s.sl ∧
    (State.startPass s p).pending = s.pending := by
  simp [State.startPass]

@[simp] theorem State.takePending_blocks (s : State) (i : Fin 8) (d : PendingDemand) :
    (State.takePending s i d).lines = s.lines ∧
    (State.takePending s i d).boot = s.boot ∧
    (State.takePending s i d).gate = s.gate ∧
    (State.takePending s i d).alerts = s.alerts ∧
    (State.takePending s i d).timer = s.timer ∧
    (State.takePending s i d).walk = s.walk ∧
    (State.takePending s i d).tables = s.tables ∧
    (State.takePending s i d).scan = s.scan ∧
    (State.takePending s i d).flash = s.flash ∧
    (State.takePending s i d).port = s.port ∧
    (State.takePending s i d).filter = s.filter ∧
    (State.takePending s i d).wipe = s.wipe ∧
    (State.takePending s i d).fuse = s.fuse ∧
    (State.takePending s i d).el = s.el ∧
    (State.takePending s i d).sl = s.sl ∧
    (State.takePending s i d).pending = s.pending := by
  simp [State.takePending]

@[simp] theorem State.releaseSlot_blocks (s : State) (i : Fin 8) :
    (State.releaseSlot s i).lines = s.lines ∧
    (State.releaseSlot s i).boot = s.boot ∧
    (State.releaseSlot s i).gate = s.gate ∧
    (State.releaseSlot s i).alerts = s.alerts ∧
    (State.releaseSlot s i).timer = s.timer ∧
    (State.releaseSlot s i).walk = s.walk ∧
    (State.releaseSlot s i).tables = s.tables ∧
    (State.releaseSlot s i).flash = s.flash ∧
    (State.releaseSlot s i).port = s.port ∧
    (State.releaseSlot s i).filter = s.filter ∧
    (State.releaseSlot s i).wipe = s.wipe ∧
    (State.releaseSlot s i).fuse = s.fuse ∧
    (State.releaseSlot s i).el = s.el ∧
    (State.releaseSlot s i).sl = s.sl ∧
    (State.releaseSlot s i).pending = s.pending := by
  unfold State.releaseSlot; dsimp only; (repeat' split) <;> simp

@[simp] theorem State.rewind_blocks (s : State) (purpose : Option Purpose) (content : Option Content) :
    (State.rewind s purpose content).lines = s.lines ∧
    (State.rewind s purpose content).boot = s.boot ∧
    (State.rewind s purpose content).gate = s.gate ∧
    (State.rewind s purpose content).alerts = s.alerts ∧
    (State.rewind s purpose content).timer = s.timer ∧
    (State.rewind s purpose content).walk = s.walk ∧
    (State.rewind s purpose content).tables = s.tables ∧
    (State.rewind s purpose content).flash = s.flash ∧
    (State.rewind s purpose content).port = s.port ∧
    (State.rewind s purpose content).filter = s.filter ∧
    (State.rewind s purpose content).wipe = s.wipe ∧
    (State.rewind s purpose content).fuse = s.fuse ∧
    (State.rewind s purpose content).el = s.el ∧
    (State.rewind s purpose content).sl = s.sl ∧
    (State.rewind s purpose content).pending = s.pending := by
  unfold State.rewind; (repeat' split) <;> simp

@[simp] theorem State.preempt_blocks (s : State) (i : Fin 8) (region index : Nat) (waiter : Option Nat) :
    (State.preempt s i region index waiter).lines = s.lines ∧
    (State.preempt s i region index waiter).boot = s.boot ∧
    (State.preempt s i region index waiter).gate = s.gate ∧
    (State.preempt s i region index waiter).alerts = s.alerts ∧
    (State.preempt s i region index waiter).timer = s.timer ∧
    (State.preempt s i region index waiter).walk = s.walk ∧
    (State.preempt s i region index waiter).tables = s.tables ∧
    (State.preempt s i region index waiter).flash = s.flash ∧
    (State.preempt s i region index waiter).port = s.port ∧
    (State.preempt s i region index waiter).filter = s.filter ∧
    (State.preempt s i region index waiter).wipe = s.wipe ∧
    (State.preempt s i region index waiter).fuse = s.fuse ∧
    (State.preempt s i region index waiter).el = s.el ∧
    (State.preempt s i region index waiter).sl = s.sl ∧
    (State.preempt s i region index waiter).pending = s.pending := by
  simp [State.preempt]

@[simp] theorem State.setPending_blocks (s : State) (d : PendingDemand) :
    (State.setPending s d).lines = s.lines ∧
    (State.setPending s d).boot = s.boot ∧
    (State.setPending s d).gate = s.gate ∧
    (State.setPending s d).alerts = s.alerts ∧
    (State.setPending s d).timer = s.timer ∧
    (State.setPending s d).walk = s.walk ∧
    (State.setPending s d).tables = s.tables ∧
    (State.setPending s d).scan = s.scan ∧
    (State.setPending s d).arbiter = s.arbiter ∧
    (State.setPending s d).flash = s.flash ∧
    (State.setPending s d).port = s.port ∧
    (State.setPending s d).filter = s.filter ∧
    (State.setPending s d).wipe = s.wipe ∧
    (State.setPending s d).fuse = s.fuse ∧
    (State.setPending s d).el = s.el ∧
    (State.setPending s d).sl = s.sl ∧
    (State.setPending s d).pending = s.pending := by
  simp [State.setPending]

@[simp] theorem State.claimPending_blocks (s : State) (region index : Nat) (waiter : Option Nat) :
    (State.claimPending s region index waiter).1.lines = s.lines ∧
    (State.claimPending s region index waiter).1.boot = s.boot ∧
    (State.claimPending s region index waiter).1.gate = s.gate ∧
    (State.claimPending s region index waiter).1.alerts = s.alerts ∧
    (State.claimPending s region index waiter).1.timer = s.timer ∧
    (State.claimPending s region index waiter).1.walk = s.walk ∧
    (State.claimPending s region index waiter).1.tables = s.tables ∧
    (State.claimPending s region index waiter).1.scan = s.scan ∧
    (State.claimPending s region index waiter).1.arbiter = s.arbiter ∧
    (State.claimPending s region index waiter).1.flash = s.flash ∧
    (State.claimPending s region index waiter).1.port = s.port ∧
    (State.claimPending s region index waiter).1.filter = s.filter ∧
    (State.claimPending s region index waiter).1.wipe = s.wipe ∧
    (State.claimPending s region index waiter).1.fuse = s.fuse ∧
    (State.claimPending s region index waiter).1.el = s.el ∧
    (State.claimPending s region index waiter).1.sl = s.sl ∧
    (State.claimPending s region index waiter).1.pending = s.pending := by
  unfold State.claimPending; (repeat' split) <;> simp

@[simp] theorem State.claimDemand_blocks (s : State) (fromCp : Bool) (region index : Nat) (waiter : Option Nat) :
    (State.claimDemand s fromCp region index waiter).1.lines = s.lines ∧
    (State.claimDemand s fromCp region index waiter).1.boot = s.boot ∧
    (State.claimDemand s fromCp region index waiter).1.gate = s.gate ∧
    (State.claimDemand s fromCp region index waiter).1.alerts = s.alerts ∧
    (State.claimDemand s fromCp region index waiter).1.timer = s.timer ∧
    (State.claimDemand s fromCp region index waiter).1.walk = s.walk ∧
    (State.claimDemand s fromCp region index waiter).1.tables = s.tables ∧
    (State.claimDemand s fromCp region index waiter).1.flash = s.flash ∧
    (State.claimDemand s fromCp region index waiter).1.port = s.port ∧
    (State.claimDemand s fromCp region index waiter).1.filter = s.filter ∧
    (State.claimDemand s fromCp region index waiter).1.wipe = s.wipe ∧
    (State.claimDemand s fromCp region index waiter).1.fuse = s.fuse ∧
    (State.claimDemand s fromCp region index waiter).1.el = s.el ∧
    (State.claimDemand s fromCp region index waiter).1.sl = s.sl ∧
    (State.claimDemand s fromCp region index waiter).1.pending = s.pending := by
  unfold State.claimDemand; (repeat' split) <;> simp

@[simp] theorem State.beginFuse_blocks (s : State) (op : FuseOp) :
    (State.beginFuse s op).lines = s.lines ∧
    (State.beginFuse s op).boot = s.boot ∧
    (State.beginFuse s op).gate = s.gate ∧
    (State.beginFuse s op).alerts = s.alerts ∧
    (State.beginFuse s op).timer = s.timer ∧
    (State.beginFuse s op).walk = s.walk ∧
    (State.beginFuse s op).tables = s.tables ∧
    (State.beginFuse s op).scan = s.scan ∧
    (State.beginFuse s op).verifier = s.verifier ∧
    (State.beginFuse s op).arbiter = s.arbiter ∧
    (State.beginFuse s op).flash = s.flash ∧
    (State.beginFuse s op).port = s.port ∧
    (State.beginFuse s op).filter = s.filter ∧
    (State.beginFuse s op).wipe = s.wipe ∧
    (State.beginFuse s op).el = s.el ∧
    (State.beginFuse s op).sl = s.sl ∧
    (State.beginFuse s op).pending = s.pending := by
  simp [State.beginFuse]

@[simp] theorem State.fuseNext_blocks (fuel : Nat) (s : State) :
    (State.fuseNext fuel s).lines = s.lines ∧
    (State.fuseNext fuel s).boot = s.boot ∧
    (State.fuseNext fuel s).gate = s.gate ∧
    (State.fuseNext fuel s).alerts = s.alerts ∧
    (State.fuseNext fuel s).timer = s.timer ∧
    (State.fuseNext fuel s).walk = s.walk ∧
    (State.fuseNext fuel s).tables = s.tables ∧
    (State.fuseNext fuel s).scan = s.scan ∧
    (State.fuseNext fuel s).verifier = s.verifier ∧
    (State.fuseNext fuel s).arbiter = s.arbiter ∧
    (State.fuseNext fuel s).flash = s.flash ∧
    (State.fuseNext fuel s).port = s.port ∧
    (State.fuseNext fuel s).filter = s.filter ∧
    (State.fuseNext fuel s).wipe = s.wipe ∧
    (State.fuseNext fuel s).el = s.el ∧
    (State.fuseNext fuel s).sl = s.sl ∧
    (State.fuseNext fuel s).pending = s.pending := by
  induction fuel generalizing s with
  | zero => simp [State.fuseNext]
  | succ n ih =>
    unfold State.fuseNext
    (repeat' split) <;> simp_all

@[simp] theorem State.fuseResume_blocks (s : State) :
    (State.fuseResume s).lines = s.lines ∧
    (State.fuseResume s).boot = s.boot ∧
    (State.fuseResume s).gate = s.gate ∧
    (State.fuseResume s).alerts = s.alerts ∧
    (State.fuseResume s).timer = s.timer ∧
    (State.fuseResume s).walk = s.walk ∧
    (State.fuseResume s).tables = s.tables ∧
    (State.fuseResume s).scan = s.scan ∧
    (State.fuseResume s).verifier = s.verifier ∧
    (State.fuseResume s).arbiter = s.arbiter ∧
    (State.fuseResume s).flash = s.flash ∧
    (State.fuseResume s).port = s.port ∧
    (State.fuseResume s).filter = s.filter ∧
    (State.fuseResume s).wipe = s.wipe ∧
    (State.fuseResume s).el = s.el ∧
    (State.fuseResume s).sl = s.sl ∧
    (State.fuseResume s).pending = s.pending := by
  simp [State.fuseResume]

@[simp] theorem State.endFuse_blocks (s : State) :
    (State.endFuse s).lines = s.lines ∧
    (State.endFuse s).boot = s.boot ∧
    (State.endFuse s).gate = s.gate ∧
    (State.endFuse s).alerts = s.alerts ∧
    (State.endFuse s).timer = s.timer ∧
    (State.endFuse s).walk = s.walk ∧
    (State.endFuse s).tables = s.tables ∧
    (State.endFuse s).scan = s.scan ∧
    (State.endFuse s).verifier = s.verifier ∧
    (State.endFuse s).arbiter = s.arbiter ∧
    (State.endFuse s).flash = s.flash ∧
    (State.endFuse s).port = s.port ∧
    (State.endFuse s).filter = s.filter ∧
    (State.endFuse s).wipe = s.wipe ∧
    (State.endFuse s).el = s.el ∧
    (State.endFuse s).sl = s.sl ∧
    (State.endFuse s).pending = s.pending := by
  simp [State.endFuse]

@[simp] theorem State.stopTimer_blocks (s : State) :
    (State.stopTimer s).lines = s.lines ∧
    (State.stopTimer s).boot = s.boot ∧
    (State.stopTimer s).gate = s.gate ∧
    (State.stopTimer s).alerts = s.alerts ∧
    (State.stopTimer s).walk = s.walk ∧
    (State.stopTimer s).tables = s.tables ∧
    (State.stopTimer s).scan = s.scan ∧
    (State.stopTimer s).verifier = s.verifier ∧
    (State.stopTimer s).arbiter = s.arbiter ∧
    (State.stopTimer s).flash = s.flash ∧
    (State.stopTimer s).port = s.port ∧
    (State.stopTimer s).filter = s.filter ∧
    (State.stopTimer s).wipe = s.wipe ∧
    (State.stopTimer s).fuse = s.fuse ∧
    (State.stopTimer s).el = s.el ∧
    (State.stopTimer s).sl = s.sl ∧
    (State.stopTimer s).pending = s.pending := by
  simp [State.stopTimer]

@[simp] theorem State.loadPatrol_blocks (s : State) :
    (State.loadPatrol s).lines = s.lines ∧
    (State.loadPatrol s).boot = s.boot ∧
    (State.loadPatrol s).gate = s.gate ∧
    (State.loadPatrol s).alerts = s.alerts ∧
    (State.loadPatrol s).walk = s.walk ∧
    (State.loadPatrol s).tables = s.tables ∧
    (State.loadPatrol s).scan = s.scan ∧
    (State.loadPatrol s).verifier = s.verifier ∧
    (State.loadPatrol s).arbiter = s.arbiter ∧
    (State.loadPatrol s).flash = s.flash ∧
    (State.loadPatrol s).port = s.port ∧
    (State.loadPatrol s).filter = s.filter ∧
    (State.loadPatrol s).wipe = s.wipe ∧
    (State.loadPatrol s).fuse = s.fuse ∧
    (State.loadPatrol s).el = s.el ∧
    (State.loadPatrol s).sl = s.sl ∧
    (State.loadPatrol s).pending = s.pending := by
  unfold State.loadPatrol; (repeat' split) <;> simp

@[simp] theorem State.raiseOpening_blocks (s : State) :
    (State.raiseOpening s).lines = s.lines ∧
    (State.raiseOpening s).boot = s.boot ∧
    (State.raiseOpening s).gate = s.gate ∧
    (State.raiseOpening s).alerts = s.alerts ∧
    (State.raiseOpening s).timer = s.timer ∧
    (State.raiseOpening s).walk = s.walk ∧
    (State.raiseOpening s).tables = s.tables ∧
    (State.raiseOpening s).scan = s.scan ∧
    (State.raiseOpening s).verifier = s.verifier ∧
    (State.raiseOpening s).arbiter = s.arbiter ∧
    (State.raiseOpening s).flash = s.flash ∧
    (State.raiseOpening s).port = s.port ∧
    (State.raiseOpening s).filter = s.filter ∧
    (State.raiseOpening s).wipe = s.wipe ∧
    (State.raiseOpening s).el = s.el ∧
    (State.raiseOpening s).sl = s.sl ∧
    (State.raiseOpening s).pending = s.pending := by
  simp [State.raiseOpening]

@[simp] theorem State.openGate_blocks (s : State) :
    (State.openGate s).lines = s.lines ∧
    (State.openGate s).boot = s.boot ∧
    (State.openGate s).alerts = s.alerts ∧
    (State.openGate s).walk = s.walk ∧
    (State.openGate s).tables = s.tables ∧
    (State.openGate s).scan = s.scan ∧
    (State.openGate s).verifier = s.verifier ∧
    (State.openGate s).arbiter = s.arbiter ∧
    (State.openGate s).flash = s.flash ∧
    (State.openGate s).port = s.port ∧
    (State.openGate s).filter = s.filter ∧
    (State.openGate s).wipe = s.wipe ∧
    (State.openGate s).el = s.el ∧
    (State.openGate s).sl = s.sl ∧
    (State.openGate s).pending = s.pending := by
  simp [State.openGate]

@[simp] theorem State.stopPatrol_blocks (s : State) :
    (State.stopPatrol s).lines = s.lines ∧
    (State.stopPatrol s).boot = s.boot ∧
    (State.stopPatrol s).gate = s.gate ∧
    (State.stopPatrol s).alerts = s.alerts ∧
    (State.stopPatrol s).timer = s.timer ∧
    (State.stopPatrol s).walk = s.walk ∧
    (State.stopPatrol s).tables = s.tables ∧
    (State.stopPatrol s).verifier = s.verifier ∧
    (State.stopPatrol s).arbiter = s.arbiter ∧
    (State.stopPatrol s).flash = s.flash ∧
    (State.stopPatrol s).port = s.port ∧
    (State.stopPatrol s).filter = s.filter ∧
    (State.stopPatrol s).wipe = s.wipe ∧
    (State.stopPatrol s).fuse = s.fuse ∧
    (State.stopPatrol s).el = s.el ∧
    (State.stopPatrol s).sl = s.sl ∧
    (State.stopPatrol s).pending = s.pending := by
  unfold State.stopPatrol; (repeat' split) <;> simp

@[simp] theorem State.latchGate_blocks (s : State) (cause : GateCause) :
    (State.latchGate s cause).lines = s.lines ∧
    (State.latchGate s cause).boot = s.boot ∧
    (State.latchGate s cause).alerts = s.alerts ∧
    (State.latchGate s cause).walk = s.walk ∧
    (State.latchGate s cause).tables = s.tables ∧
    (State.latchGate s cause).verifier = s.verifier ∧
    (State.latchGate s cause).arbiter = s.arbiter ∧
    (State.latchGate s cause).flash = s.flash ∧
    (State.latchGate s cause).port = s.port ∧
    (State.latchGate s cause).filter = s.filter ∧
    (State.latchGate s cause).wipe = s.wipe ∧
    (State.latchGate s cause).el = s.el ∧
    (State.latchGate s cause).sl = s.sl ∧
    (State.latchGate s cause).pending = s.pending := by
  unfold State.latchGate; (repeat' split) <;> simp

@[simp] theorem State.judgeOpening_blocks (s : State) :
    (State.judgeOpening s).lines = s.lines ∧
    (State.judgeOpening s).boot = s.boot ∧
    (State.judgeOpening s).alerts = s.alerts ∧
    (State.judgeOpening s).walk = s.walk ∧
    (State.judgeOpening s).tables = s.tables ∧
    (State.judgeOpening s).scan = s.scan ∧
    (State.judgeOpening s).verifier = s.verifier ∧
    (State.judgeOpening s).arbiter = s.arbiter ∧
    (State.judgeOpening s).flash = s.flash ∧
    (State.judgeOpening s).port = s.port ∧
    (State.judgeOpening s).filter = s.filter ∧
    (State.judgeOpening s).wipe = s.wipe ∧
    (State.judgeOpening s).el = s.el ∧
    (State.judgeOpening s).sl = s.sl ∧
    (State.judgeOpening s).pending = s.pending := by
  unfold State.judgeOpening; (repeat' split) <;> simp

@[simp] theorem State.setPhase_blocks (s : State) (p : ElPhase) :
    (State.setPhase s p).lines = s.lines ∧
    (State.setPhase s p).boot = s.boot ∧
    (State.setPhase s p).gate = s.gate ∧
    (State.setPhase s p).alerts = s.alerts ∧
    (State.setPhase s p).timer = s.timer ∧
    (State.setPhase s p).walk = s.walk ∧
    (State.setPhase s p).tables = s.tables ∧
    (State.setPhase s p).scan = s.scan ∧
    (State.setPhase s p).verifier = s.verifier ∧
    (State.setPhase s p).arbiter = s.arbiter ∧
    (State.setPhase s p).flash = s.flash ∧
    (State.setPhase s p).port = s.port ∧
    (State.setPhase s p).filter = s.filter ∧
    (State.setPhase s p).wipe = s.wipe ∧
    (State.setPhase s p).fuse = s.fuse ∧
    (State.setPhase s p).sl = s.sl ∧
    (State.setPhase s p).pending = s.pending := by
  simp [State.setPhase]

@[simp] theorem State.sendEl_blocks (s : State) (b : Byte) :
    (State.sendEl s b).lines = s.lines ∧
    (State.sendEl s b).boot = s.boot ∧
    (State.sendEl s b).gate = s.gate ∧
    (State.sendEl s b).alerts = s.alerts ∧
    (State.sendEl s b).timer = s.timer ∧
    (State.sendEl s b).walk = s.walk ∧
    (State.sendEl s b).tables = s.tables ∧
    (State.sendEl s b).scan = s.scan ∧
    (State.sendEl s b).verifier = s.verifier ∧
    (State.sendEl s b).arbiter = s.arbiter ∧
    (State.sendEl s b).flash = s.flash ∧
    (State.sendEl s b).port = s.port ∧
    (State.sendEl s b).filter = s.filter ∧
    (State.sendEl s b).wipe = s.wipe ∧
    (State.sendEl s b).fuse = s.fuse ∧
    (State.sendEl s b).sl = s.sl ∧
    (State.sendEl s b).pending = s.pending := by
  simp [State.sendEl]

@[simp] theorem State.readAhead_blocks (s : State) :
    (State.readAhead s).lines = s.lines ∧
    (State.readAhead s).boot = s.boot ∧
    (State.readAhead s).gate = s.gate ∧
    (State.readAhead s).alerts = s.alerts ∧
    (State.readAhead s).timer = s.timer ∧
    (State.readAhead s).walk = s.walk ∧
    (State.readAhead s).tables = s.tables ∧
    (State.readAhead s).scan = s.scan ∧
    (State.readAhead s).verifier = s.verifier ∧
    (State.readAhead s).flash = s.flash ∧
    (State.readAhead s).port = s.port ∧
    (State.readAhead s).filter = s.filter ∧
    (State.readAhead s).wipe = s.wipe ∧
    (State.readAhead s).fuse = s.fuse ∧
    (State.readAhead s).sl = s.sl ∧
    (State.readAhead s).pending = s.pending := by
  unfold State.readAhead; dsimp only; (repeat' split) <;> simp

@[simp] theorem State.advanceLink_blocks (s : State) (p : Nat) :
    (State.advanceLink s p).lines = s.lines ∧
    (State.advanceLink s p).boot = s.boot ∧
    (State.advanceLink s p).gate = s.gate ∧
    (State.advanceLink s p).alerts = s.alerts ∧
    (State.advanceLink s p).timer = s.timer ∧
    (State.advanceLink s p).walk = s.walk ∧
    (State.advanceLink s p).tables = s.tables ∧
    (State.advanceLink s p).scan = s.scan ∧
    (State.advanceLink s p).verifier = s.verifier ∧
    (State.advanceLink s p).flash = s.flash ∧
    (State.advanceLink s p).port = s.port ∧
    (State.advanceLink s p).filter = s.filter ∧
    (State.advanceLink s p).wipe = s.wipe ∧
    (State.advanceLink s p).fuse = s.fuse ∧
    (State.advanceLink s p).sl = s.sl ∧
    (State.advanceLink s p).pending = s.pending := by
  unfold State.advanceLink; dsimp only; (repeat' split) <;> simp

@[simp] theorem State.endLinkRead_blocks (s : State) :
    (State.endLinkRead s).lines = s.lines ∧
    (State.endLinkRead s).boot = s.boot ∧
    (State.endLinkRead s).gate = s.gate ∧
    (State.endLinkRead s).alerts = s.alerts ∧
    (State.endLinkRead s).timer = s.timer ∧
    (State.endLinkRead s).walk = s.walk ∧
    (State.endLinkRead s).tables = s.tables ∧
    (State.endLinkRead s).scan = s.scan ∧
    (State.endLinkRead s).verifier = s.verifier ∧
    (State.endLinkRead s).flash = s.flash ∧
    (State.endLinkRead s).port = s.port ∧
    (State.endLinkRead s).filter = s.filter ∧
    (State.endLinkRead s).wipe = s.wipe ∧
    (State.endLinkRead s).fuse = s.fuse ∧
    (State.endLinkRead s).sl = s.sl ∧
    (State.endLinkRead s).pending = s.pending := by
  simp [State.endLinkRead]

@[simp] theorem State.abandonSlots_blocks (s : State) (keep : Option (Fin 8)) :
    (State.abandonSlots s keep).lines = s.lines ∧
    (State.abandonSlots s keep).boot = s.boot ∧
    (State.abandonSlots s keep).gate = s.gate ∧
    (State.abandonSlots s keep).alerts = s.alerts ∧
    (State.abandonSlots s keep).timer = s.timer ∧
    (State.abandonSlots s keep).walk = s.walk ∧
    (State.abandonSlots s keep).tables = s.tables ∧
    (State.abandonSlots s keep).scan = s.scan ∧
    (State.abandonSlots s keep).arbiter = s.arbiter ∧
    (State.abandonSlots s keep).flash = s.flash ∧
    (State.abandonSlots s keep).port = s.port ∧
    (State.abandonSlots s keep).filter = s.filter ∧
    (State.abandonSlots s keep).wipe = s.wipe ∧
    (State.abandonSlots s keep).fuse = s.fuse ∧
    (State.abandonSlots s keep).el = s.el ∧
    (State.abandonSlots s keep).sl = s.sl ∧
    (State.abandonSlots s keep).pending = s.pending := by
  simp [State.abandonSlots]

@[simp] theorem State.clearBank_blocks (s : State) :
    (State.clearBank s).lines = s.lines ∧
    (State.clearBank s).boot = s.boot ∧
    (State.clearBank s).gate = s.gate ∧
    (State.clearBank s).alerts = s.alerts ∧
    (State.clearBank s).timer = s.timer ∧
    (State.clearBank s).verifier = s.verifier ∧
    (State.clearBank s).arbiter = s.arbiter ∧
    (State.clearBank s).flash = s.flash ∧
    (State.clearBank s).port = s.port ∧
    (State.clearBank s).filter = s.filter ∧
    (State.clearBank s).wipe = s.wipe ∧
    (State.clearBank s).fuse = s.fuse ∧
    (State.clearBank s).el = s.el ∧
    (State.clearBank s).sl = s.sl ∧
    (State.clearBank s).pending = s.pending := by
  simp [State.clearBank]

@[simp] theorem State.enterNoBank_blocks (s : State) :
    (State.enterNoBank s).lines = s.lines ∧
    (State.enterNoBank s).gate = s.gate ∧
    (State.enterNoBank s).flash = s.flash ∧
    (State.enterNoBank s).port = s.port ∧
    (State.enterNoBank s).filter = s.filter ∧
    (State.enterNoBank s).wipe = s.wipe ∧
    (State.enterNoBank s).fuse = s.fuse ∧
    (State.enterNoBank s).el = s.el ∧
    (State.enterNoBank s).sl = s.sl ∧
    (State.enterNoBank s).pending = s.pending := by
  simp [State.enterNoBank]

@[simp] theorem State.stopBlocks_blocks (s : State) :
    (State.stopBlocks s).gate = s.gate ∧
    (State.stopBlocks s).alerts = s.alerts ∧
    (State.stopBlocks s).tables = s.tables ∧
    (State.stopBlocks s).scan = s.scan ∧
    (State.stopBlocks s).filter = s.filter ∧
    (State.stopBlocks s).wipe = s.wipe ∧
    (State.stopBlocks s).fuse = s.fuse ∧
    (State.stopBlocks s).pending = s.pending := by
  simp [State.stopBlocks]

@[simp] theorem State.enterHalted_blocks (s : State) :
    (State.enterHalted s).alerts = s.alerts ∧
    (State.enterHalted s).tables = s.tables ∧
    (State.enterHalted s).scan = s.scan ∧
    (State.enterHalted s).filter = s.filter ∧
    (State.enterHalted s).wipe = s.wipe ∧
    (State.enterHalted s).fuse = s.fuse ∧
    (State.enterHalted s).pending = s.pending := by
  simp [State.enterHalted]

@[simp] theorem State.beginReset_blocks (s : State) (cause : ResetCause) :
    (State.beginReset s cause).alerts = s.alerts ∧
    (State.beginReset s cause).tables = s.tables ∧
    (State.beginReset s cause).scan = s.scan ∧
    (State.beginReset s cause).filter = s.filter ∧
    (State.beginReset s cause).wipe = s.wipe ∧
    (State.beginReset s cause).fuse = s.fuse ∧
    (State.beginReset s cause).pending = s.pending := by
  unfold State.beginReset; (repeat' split) <;> simp

@[simp] theorem State.enterTransparent_blocks (s : State) :
    (State.enterTransparent s).alerts = s.alerts ∧
    (State.enterTransparent s).walk = s.walk ∧
    (State.enterTransparent s).tables = s.tables ∧
    (State.enterTransparent s).scan = s.scan ∧
    (State.enterTransparent s).verifier = s.verifier ∧
    (State.enterTransparent s).arbiter = s.arbiter ∧
    (State.enterTransparent s).flash = s.flash ∧
    (State.enterTransparent s).port = s.port ∧
    (State.enterTransparent s).filter = s.filter ∧
    (State.enterTransparent s).wipe = s.wipe ∧
    (State.enterTransparent s).fuse = s.fuse ∧
    (State.enterTransparent s).el = s.el ∧
    (State.enterTransparent s).sl = s.sl ∧
    (State.enterTransparent s).pending = s.pending := by
  simp [State.enterTransparent]

@[simp] theorem State.startSelecting_blocks (s : State) :
    (State.startSelecting s).lines = s.lines ∧
    (State.startSelecting s).gate = s.gate ∧
    (State.startSelecting s).alerts = s.alerts ∧
    (State.startSelecting s).timer = s.timer ∧
    (State.startSelecting s).walk = s.walk ∧
    (State.startSelecting s).tables = s.tables ∧
    (State.startSelecting s).scan = s.scan ∧
    (State.startSelecting s).flash = s.flash ∧
    (State.startSelecting s).port = s.port ∧
    (State.startSelecting s).filter = s.filter ∧
    (State.startSelecting s).wipe = s.wipe ∧
    (State.startSelecting s).fuse = s.fuse ∧
    (State.startSelecting s).el = s.el ∧
    (State.startSelecting s).sl = s.sl ∧
    (State.startSelecting s).pending = s.pending := by
  simp [State.startSelecting]

@[simp] theorem State.releaseReserve_blocks (s : State) :
    (State.releaseReserve s).lines = s.lines ∧
    (State.releaseReserve s).gate = s.gate ∧
    (State.releaseReserve s).alerts = s.alerts ∧
    (State.releaseReserve s).timer = s.timer ∧
    (State.releaseReserve s).walk = s.walk ∧
    (State.releaseReserve s).tables = s.tables ∧
    (State.releaseReserve s).flash = s.flash ∧
    (State.releaseReserve s).port = s.port ∧
    (State.releaseReserve s).filter = s.filter ∧
    (State.releaseReserve s).wipe = s.wipe ∧
    (State.releaseReserve s).fuse = s.fuse ∧
    (State.releaseReserve s).el = s.el ∧
    (State.releaseReserve s).sl = s.sl ∧
    (State.releaseReserve s).pending = s.pending := by
  unfold State.releaseReserve; (repeat' split) <;> simp

@[simp] theorem State.enterReleased_blocks (s : State) :
    (State.enterReleased s).alerts = s.alerts ∧
    (State.enterReleased s).walk = s.walk ∧
    (State.enterReleased s).tables = s.tables ∧
    (State.enterReleased s).flash = s.flash ∧
    (State.enterReleased s).port = s.port ∧
    (State.enterReleased s).filter = s.filter ∧
    (State.enterReleased s).wipe = s.wipe ∧
    (State.enterReleased s).el = s.el ∧
    (State.enterReleased s).sl = s.sl ∧
    (State.enterReleased s).pending = s.pending := by
  unfold State.enterReleased; dsimp only; (repeat' split) <;> simp

@[simp] theorem State.enterPreverify_blocks (s : State) :
    (State.enterPreverify s).alerts = s.alerts ∧
    (State.enterPreverify s).walk = s.walk ∧
    (State.enterPreverify s).tables = s.tables ∧
    (State.enterPreverify s).flash = s.flash ∧
    (State.enterPreverify s).port = s.port ∧
    (State.enterPreverify s).filter = s.filter ∧
    (State.enterPreverify s).wipe = s.wipe ∧
    (State.enterPreverify s).el = s.el ∧
    (State.enterPreverify s).sl = s.sl ∧
    (State.enterPreverify s).pending = s.pending := by
  unfold State.enterPreverify; dsimp only; (repeat' split) <;> simp

@[simp] theorem State.walkFault_blocks (s : State) (kind : WalkFault) (ref : WalkRef) :
    (State.walkFault s kind ref).lines = s.lines ∧
    (State.walkFault s kind ref).boot = s.boot ∧
    (State.walkFault s kind ref).gate = s.gate ∧
    (State.walkFault s kind ref).alerts = s.alerts ∧
    (State.walkFault s kind ref).timer = s.timer ∧
    (State.walkFault s kind ref).tables = s.tables ∧
    (State.walkFault s kind ref).scan = s.scan ∧
    (State.walkFault s kind ref).verifier = s.verifier ∧
    (State.walkFault s kind ref).arbiter = s.arbiter ∧
    (State.walkFault s kind ref).flash = s.flash ∧
    (State.walkFault s kind ref).port = s.port ∧
    (State.walkFault s kind ref).filter = s.filter ∧
    (State.walkFault s kind ref).wipe = s.wipe ∧
    (State.walkFault s kind ref).fuse = s.fuse ∧
    (State.walkFault s kind ref).el = s.el ∧
    (State.walkFault s kind ref).sl = s.sl ∧
    (State.walkFault s kind ref).pending = s.pending := by
  simp [State.walkFault]

@[simp] theorem State.entryDone_blocks (s : State) :
    (State.entryDone s).lines = s.lines ∧
    (State.entryDone s).boot = s.boot ∧
    (State.entryDone s).gate = s.gate ∧
    (State.entryDone s).alerts = s.alerts ∧
    (State.entryDone s).timer = s.timer ∧
    (State.entryDone s).tables = s.tables ∧
    (State.entryDone s).scan = s.scan ∧
    (State.entryDone s).verifier = s.verifier ∧
    (State.entryDone s).arbiter = s.arbiter ∧
    (State.entryDone s).flash = s.flash ∧
    (State.entryDone s).port = s.port ∧
    (State.entryDone s).filter = s.filter ∧
    (State.entryDone s).wipe = s.wipe ∧
    (State.entryDone s).fuse = s.fuse ∧
    (State.entryDone s).el = s.el ∧
    (State.entryDone s).sl = s.sl ∧
    (State.entryDone s).pending = s.pending := by
  simp [State.entryDone]

@[simp] theorem State.reject_blocks (s : State) (fatal : Bool) (kind : WalkFault) :
    (State.reject s fatal kind).lines = s.lines ∧
    (State.reject s fatal kind).boot = s.boot ∧
    (State.reject s fatal kind).gate = s.gate ∧
    (State.reject s fatal kind).alerts = s.alerts ∧
    (State.reject s fatal kind).timer = s.timer ∧
    (State.reject s fatal kind).tables = s.tables ∧
    (State.reject s fatal kind).scan = s.scan ∧
    (State.reject s fatal kind).verifier = s.verifier ∧
    (State.reject s fatal kind).arbiter = s.arbiter ∧
    (State.reject s fatal kind).flash = s.flash ∧
    (State.reject s fatal kind).port = s.port ∧
    (State.reject s fatal kind).filter = s.filter ∧
    (State.reject s fatal kind).wipe = s.wipe ∧
    (State.reject s fatal kind).fuse = s.fuse ∧
    (State.reject s fatal kind).el = s.el ∧
    (State.reject s fatal kind).sl = s.sl ∧
    (State.reject s fatal kind).pending = s.pending := by
  unfold State.reject; (repeat' split) <;> simp

@[simp] theorem State.claimPiece_blocks (s : State) (j : ListJob) :
    (State.claimPiece s j).lines = s.lines ∧
    (State.claimPiece s j).boot = s.boot ∧
    (State.claimPiece s j).gate = s.gate ∧
    (State.claimPiece s j).alerts = s.alerts ∧
    (State.claimPiece s j).timer = s.timer ∧
    (State.claimPiece s j).walk = s.walk ∧
    (State.claimPiece s j).tables = s.tables ∧
    (State.claimPiece s j).scan = s.scan ∧
    (State.claimPiece s j).flash = s.flash ∧
    (State.claimPiece s j).port = s.port ∧
    (State.claimPiece s j).filter = s.filter ∧
    (State.claimPiece s j).wipe = s.wipe ∧
    (State.claimPiece s j).fuse = s.fuse ∧
    (State.claimPiece s j).el = s.el ∧
    (State.claimPiece s j).sl = s.sl ∧
    (State.claimPiece s j).pending = s.pending := by
  unfold State.claimPiece; (repeat' split) <;> simp

@[simp] theorem State.takeImage_blocks (s : State) (m : Memory) (i : Nat) (f : Frame) (cls : ImageClass) :
    (State.takeImage s m i f cls).lines = s.lines ∧
    (State.takeImage s m i f cls).boot = s.boot ∧
    (State.takeImage s m i f cls).gate = s.gate ∧
    (State.takeImage s m i f cls).alerts = s.alerts ∧
    (State.takeImage s m i f cls).timer = s.timer ∧
    (State.takeImage s m i f cls).scan = s.scan ∧
    (State.takeImage s m i f cls).flash = s.flash ∧
    (State.takeImage s m i f cls).port = s.port ∧
    (State.takeImage s m i f cls).filter = s.filter ∧
    (State.takeImage s m i f cls).wipe = s.wipe ∧
    (State.takeImage s m i f cls).fuse = s.fuse ∧
    (State.takeImage s m i f cls).el = s.el ∧
    (State.takeImage s m i f cls).sl = s.sl ∧
    (State.takeImage s m i f cls).pending = s.pending := by
  simp [State.takeImage]

@[simp] theorem State.processImage_blocks (s : State) (m : Memory) (i : Nat) (f : Frame) :
    (State.processImage s m i f).lines = s.lines ∧
    (State.processImage s m i f).boot = s.boot ∧
    (State.processImage s m i f).gate = s.gate ∧
    (State.processImage s m i f).alerts = s.alerts ∧
    (State.processImage s m i f).timer = s.timer ∧
    (State.processImage s m i f).scan = s.scan ∧
    (State.processImage s m i f).flash = s.flash ∧
    (State.processImage s m i f).port = s.port ∧
    (State.processImage s m i f).filter = s.filter ∧
    (State.processImage s m i f).wipe = s.wipe ∧
    (State.processImage s m i f).fuse = s.fuse ∧
    (State.processImage s m i f).el = s.el ∧
    (State.processImage s m i f).sl = s.sl ∧
    (State.processImage s m i f).pending = s.pending := by
  unfold State.processImage; dsimp only; (repeat' split) <;> simp

@[simp] theorem State.processData_blocks (s : State) (m : Memory) (i : Nat) (f : Frame) :
    (State.processData s m i f).lines = s.lines ∧
    (State.processData s m i f).boot = s.boot ∧
    (State.processData s m i f).gate = s.gate ∧
    (State.processData s m i f).alerts = s.alerts ∧
    (State.processData s m i f).timer = s.timer ∧
    (State.processData s m i f).scan = s.scan ∧
    (State.processData s m i f).verifier = s.verifier ∧
    (State.processData s m i f).arbiter = s.arbiter ∧
    (State.processData s m i f).flash = s.flash ∧
    (State.processData s m i f).port = s.port ∧
    (State.processData s m i f).filter = s.filter ∧
    (State.processData s m i f).wipe = s.wipe ∧
    (State.processData s m i f).fuse = s.fuse ∧
    (State.processData s m i f).el = s.el ∧
    (State.processData s m i f).sl = s.sl ∧
    (State.processData s m i f).pending = s.pending := by
  unfold State.processData; dsimp only; (repeat' split) <;> simp

@[simp] theorem State.claimDelegate_blocks (s : State) (m : Memory) (i : Nat) :
    (State.claimDelegate s m i).lines = s.lines ∧
    (State.claimDelegate s m i).boot = s.boot ∧
    (State.claimDelegate s m i).gate = s.gate ∧
    (State.claimDelegate s m i).alerts = s.alerts ∧
    (State.claimDelegate s m i).timer = s.timer ∧
    (State.claimDelegate s m i).tables = s.tables ∧
    (State.claimDelegate s m i).scan = s.scan ∧
    (State.claimDelegate s m i).flash = s.flash ∧
    (State.claimDelegate s m i).port = s.port ∧
    (State.claimDelegate s m i).filter = s.filter ∧
    (State.claimDelegate s m i).wipe = s.wipe ∧
    (State.claimDelegate s m i).fuse = s.fuse ∧
    (State.claimDelegate s m i).el = s.el ∧
    (State.claimDelegate s m i).sl = s.sl ∧
    (State.claimDelegate s m i).pending = s.pending := by
  have h := State.claimIntake_blocks s .manifest
  unfold State.claimDelegate
  split
  · simp
  · rename_i b _
    have h := h b (entryManifestLoc m i / chunkWords)
    split <;> rename_i heq <;> rw [heq] at h <;> simp_all

@[simp] theorem State.processDelegate_blocks (s : State) (m : Memory) (i : Nat) (f : Frame) :
    (State.processDelegate s m i f).lines = s.lines ∧
    (State.processDelegate s m i f).boot = s.boot ∧
    (State.processDelegate s m i f).gate = s.gate ∧
    (State.processDelegate s m i f).alerts = s.alerts ∧
    (State.processDelegate s m i f).timer = s.timer ∧
    (State.processDelegate s m i f).tables = s.tables ∧
    (State.processDelegate s m i f).scan = s.scan ∧
    (State.processDelegate s m i f).flash = s.flash ∧
    (State.processDelegate s m i f).port = s.port ∧
    (State.processDelegate s m i f).filter = s.filter ∧
    (State.processDelegate s m i f).wipe = s.wipe ∧
    (State.processDelegate s m i f).fuse = s.fuse ∧
    (State.processDelegate s m i f).el = s.el ∧
    (State.processDelegate s m i f).sl = s.sl ∧
    (State.processDelegate s m i f).pending = s.pending := by
  unfold State.processDelegate; (repeat' split) <;> simp

@[simp] theorem State.acceptDelegate_blocks (s : State) (j : DelegateJob) :
    (State.acceptDelegate s j).lines = s.lines ∧
    (State.acceptDelegate s j).boot = s.boot ∧
    (State.acceptDelegate s j).gate = s.gate ∧
    (State.acceptDelegate s j).alerts = s.alerts ∧
    (State.acceptDelegate s j).timer = s.timer ∧
    (State.acceptDelegate s j).tables = s.tables ∧
    (State.acceptDelegate s j).scan = s.scan ∧
    (State.acceptDelegate s j).verifier = s.verifier ∧
    (State.acceptDelegate s j).arbiter = s.arbiter ∧
    (State.acceptDelegate s j).flash = s.flash ∧
    (State.acceptDelegate s j).port = s.port ∧
    (State.acceptDelegate s j).filter = s.filter ∧
    (State.acceptDelegate s j).wipe = s.wipe ∧
    (State.acceptDelegate s j).fuse = s.fuse ∧
    (State.acceptDelegate s j).el = s.el ∧
    (State.acceptDelegate s j).sl = s.sl ∧
    (State.acceptDelegate s j).pending = s.pending := by
  unfold State.acceptDelegate; (repeat' split) <;> simp

@[simp] theorem State.rejectDelegate_blocks (s : State) (j : DelegateJob) :
    (State.rejectDelegate s j).lines = s.lines ∧
    (State.rejectDelegate s j).boot = s.boot ∧
    (State.rejectDelegate s j).gate = s.gate ∧
    (State.rejectDelegate s j).alerts = s.alerts ∧
    (State.rejectDelegate s j).timer = s.timer ∧
    (State.rejectDelegate s j).tables = s.tables ∧
    (State.rejectDelegate s j).flash = s.flash ∧
    (State.rejectDelegate s j).port = s.port ∧
    (State.rejectDelegate s j).filter = s.filter ∧
    (State.rejectDelegate s j).wipe = s.wipe ∧
    (State.rejectDelegate s j).fuse = s.fuse ∧
    (State.rejectDelegate s j).el = s.el ∧
    (State.rejectDelegate s j).sl = s.sl ∧
    (State.rejectDelegate s j).pending = s.pending := by
  simp [State.rejectDelegate]

@[simp] theorem State.closeWalk_blocks (s : State) :
    (State.closeWalk s).lines = s.lines ∧
    (State.closeWalk s).boot = s.boot ∧
    (State.closeWalk s).gate = s.gate ∧
    (State.closeWalk s).alerts = s.alerts ∧
    (State.closeWalk s).timer = s.timer ∧
    (State.closeWalk s).tables = s.tables ∧
    (State.closeWalk s).verifier = s.verifier ∧
    (State.closeWalk s).arbiter = s.arbiter ∧
    (State.closeWalk s).flash = s.flash ∧
    (State.closeWalk s).port = s.port ∧
    (State.closeWalk s).filter = s.filter ∧
    (State.closeWalk s).wipe = s.wipe ∧
    (State.closeWalk s).fuse = s.fuse ∧
    (State.closeWalk s).el = s.el ∧
    (State.closeWalk s).sl = s.sl ∧
    (State.closeWalk s).pending = s.pending := by
  unfold State.closeWalk; (repeat' split) <;> simp

@[simp] theorem State.popFrame_blocks (s : State) (f : Frame) (rest : List Frame) :
    (State.popFrame s f rest).lines = s.lines ∧
    (State.popFrame s f rest).boot = s.boot ∧
    (State.popFrame s f rest).gate = s.gate ∧
    (State.popFrame s f rest).alerts = s.alerts ∧
    (State.popFrame s f rest).timer = s.timer ∧
    (State.popFrame s f rest).tables = s.tables ∧
    (State.popFrame s f rest).flash = s.flash ∧
    (State.popFrame s f rest).port = s.port ∧
    (State.popFrame s f rest).filter = s.filter ∧
    (State.popFrame s f rest).wipe = s.wipe ∧
    (State.popFrame s f rest).fuse = s.fuse ∧
    (State.popFrame s f rest).el = s.el ∧
    (State.popFrame s f rest).sl = s.sl ∧
    (State.popFrame s f rest).pending = s.pending := by
  simp [State.popFrame]

@[simp] theorem State.walkStep_blocks (s : State) :
    (State.walkStep s).lines = s.lines ∧
    (State.walkStep s).boot = s.boot ∧
    (State.walkStep s).gate = s.gate ∧
    (State.walkStep s).alerts = s.alerts ∧
    (State.walkStep s).timer = s.timer ∧
    (State.walkStep s).flash = s.flash ∧
    (State.walkStep s).port = s.port ∧
    (State.walkStep s).filter = s.filter ∧
    (State.walkStep s).wipe = s.wipe ∧
    (State.walkStep s).fuse = s.fuse ∧
    (State.walkStep s).el = s.el ∧
    (State.walkStep s).sl = s.sl ∧
    (State.walkStep s).pending = s.pending := by
  unfold State.walkStep; dsimp only; (repeat' split) <;> simp

@[simp] theorem State.walkRun_blocks (fuel : Nat) (s : State) :
    (State.walkRun fuel s).lines = s.lines ∧
    (State.walkRun fuel s).boot = s.boot ∧
    (State.walkRun fuel s).gate = s.gate ∧
    (State.walkRun fuel s).alerts = s.alerts ∧
    (State.walkRun fuel s).timer = s.timer ∧
    (State.walkRun fuel s).flash = s.flash ∧
    (State.walkRun fuel s).port = s.port ∧
    (State.walkRun fuel s).filter = s.filter ∧
    (State.walkRun fuel s).wipe = s.wipe ∧
    (State.walkRun fuel s).fuse = s.fuse ∧
    (State.walkRun fuel s).el = s.el ∧
    (State.walkRun fuel s).sl = s.sl ∧
    (State.walkRun fuel s).pending = s.pending := by
  induction fuel generalizing s with
  | zero => simp [State.walkRun]
  | succ n ih =>
    unfold State.walkRun
    (repeat' split) <;> simp_all

@[simp] theorem State.startWalk_blocks (s : State) (position : Nat) (c : Candidate) (reserve : Option (Fin 8)) :
    (State.startWalk s position c reserve).lines = s.lines ∧
    (State.startWalk s position c reserve).gate = s.gate ∧
    (State.startWalk s position c reserve).alerts = s.alerts ∧
    (State.startWalk s position c reserve).timer = s.timer ∧
    (State.startWalk s position c reserve).tables = s.tables ∧
    (State.startWalk s position c reserve).scan = s.scan ∧
    (State.startWalk s position c reserve).verifier = s.verifier ∧
    (State.startWalk s position c reserve).arbiter = s.arbiter ∧
    (State.startWalk s position c reserve).flash = s.flash ∧
    (State.startWalk s position c reserve).port = s.port ∧
    (State.startWalk s position c reserve).filter = s.filter ∧
    (State.startWalk s position c reserve).wipe = s.wipe ∧
    (State.startWalk s position c reserve).fuse = s.fuse ∧
    (State.startWalk s position c reserve).el = s.el ∧
    (State.startWalk s position c reserve).sl = s.sl ∧
    (State.startWalk s position c reserve).pending = s.pending := by
  simp [State.startWalk]

@[simp] theorem State.abandonBank_blocks (s : State) :
    (State.abandonBank s).lines = s.lines ∧
    (State.abandonBank s).gate = s.gate ∧
    (State.abandonBank s).alerts = s.alerts ∧
    (State.abandonBank s).timer = s.timer ∧
    (State.abandonBank s).flash = s.flash ∧
    (State.abandonBank s).port = s.port ∧
    (State.abandonBank s).filter = s.filter ∧
    (State.abandonBank s).wipe = s.wipe ∧
    (State.abandonBank s).fuse = s.fuse ∧
    (State.abandonBank s).el = s.el ∧
    (State.abandonBank s).sl = s.sl ∧
    (State.abandonBank s).pending = s.pending := by
  simp [State.abandonBank]

@[simp] theorem State.fallback_blocks (s : State) :
    (State.fallback s).lines = s.lines ∧
    (State.fallback s).gate = s.gate ∧
    (State.fallback s).flash = s.flash ∧
    (State.fallback s).port = s.port ∧
    (State.fallback s).filter = s.filter ∧
    (State.fallback s).wipe = s.wipe ∧
    (State.fallback s).fuse = s.fuse ∧
    (State.fallback s).el = s.el ∧
    (State.fallback s).sl = s.sl ∧
    (State.fallback s).pending = s.pending := by
  unfold State.fallback
  dsimp only
  split <;> simp

@[simp] theorem State.walkOn_blocks (fuel : Nat) (s : State) :
    (State.walkOn fuel s).flash = s.flash ∧
    (State.walkOn fuel s).port = s.port ∧
    (State.walkOn fuel s).filter = s.filter ∧
    (State.walkOn fuel s).wipe = s.wipe ∧
    (State.walkOn fuel s).el = s.el ∧
    (State.walkOn fuel s).sl = s.sl ∧
    (State.walkOn fuel s).pending = s.pending := by
  induction fuel generalizing s with
  | zero => simp [State.walkOn]
  | succ n ih =>
    unfold State.walkOn
    dsimp only
    split <;> simp_all

@[simp] theorem State.walkOnAll_blocks (s : State) :
    (State.walkOnAll s).flash = s.flash ∧
    (State.walkOnAll s).port = s.port ∧
    (State.walkOnAll s).filter = s.filter ∧
    (State.walkOnAll s).wipe = s.wipe ∧
    (State.walkOnAll s).el = s.el ∧
    (State.walkOnAll s).sl = s.sl ∧
    (State.walkOnAll s).pending = s.pending := by
  simp [State.walkOnAll]

@[simp] theorem State.fallbackAndWalk_blocks (s : State) :
    (State.fallbackAndWalk s).flash = s.flash ∧
    (State.fallbackAndWalk s).port = s.port ∧
    (State.fallbackAndWalk s).filter = s.filter ∧
    (State.fallbackAndWalk s).wipe = s.wipe ∧
    (State.fallbackAndWalk s).el = s.el ∧
    (State.fallbackAndWalk s).sl = s.sl ∧
    (State.fallbackAndWalk s).pending = s.pending := by
  simp [State.fallbackAndWalk]

@[simp] theorem State.setRoot_blocks (s : State) (k : Bank) (r : RootJudgement) :
    (State.setRoot s k r).lines = s.lines ∧
    (State.setRoot s k r).gate = s.gate ∧
    (State.setRoot s k r).alerts = s.alerts ∧
    (State.setRoot s k r).timer = s.timer ∧
    (State.setRoot s k r).walk = s.walk ∧
    (State.setRoot s k r).tables = s.tables ∧
    (State.setRoot s k r).scan = s.scan ∧
    (State.setRoot s k r).verifier = s.verifier ∧
    (State.setRoot s k r).arbiter = s.arbiter ∧
    (State.setRoot s k r).flash = s.flash ∧
    (State.setRoot s k r).port = s.port ∧
    (State.setRoot s k r).filter = s.filter ∧
    (State.setRoot s k r).wipe = s.wipe ∧
    (State.setRoot s k r).fuse = s.fuse ∧
    (State.setRoot s k r).el = s.el ∧
    (State.setRoot s k r).sl = s.sl ∧
    (State.setRoot s k r).pending = s.pending := by
  simp [State.setRoot]

@[simp] theorem State.endSelecting_blocks (s : State) :
    (State.endSelecting s).flash = s.flash ∧
    (State.endSelecting s).port = s.port ∧
    (State.endSelecting s).filter = s.filter ∧
    (State.endSelecting s).wipe = s.wipe ∧
    (State.endSelecting s).el = s.el ∧
    (State.endSelecting s).sl = s.sl ∧
    (State.endSelecting s).pending = s.pending := by
  unfold State.endSelecting
  split
  · dsimp only
    split <;> simp
  · simp

@[simp] theorem State.rejectRoot_blocks (s : State) (k : Bank) (i : Fin 8) :
    (State.rejectRoot s k i).flash = s.flash ∧
    (State.rejectRoot s k i).port = s.port ∧
    (State.rejectRoot s k i).filter = s.filter ∧
    (State.rejectRoot s k i).wipe = s.wipe ∧
    (State.rejectRoot s k i).el = s.el ∧
    (State.rejectRoot s k i).sl = s.sl ∧
    (State.rejectRoot s k i).pending = s.pending := by
  simp [State.rejectRoot]

@[simp] theorem State.askPass_blocks (s : State) (k : Bank) (i : Fin 8) (st : JudgeStep) (digest : List Byte) :
    (State.askPass s k i st digest).lines = s.lines ∧
    (State.askPass s k i st digest).gate = s.gate ∧
    (State.askPass s k i st digest).alerts = s.alerts ∧
    (State.askPass s k i st digest).timer = s.timer ∧
    (State.askPass s k i st digest).walk = s.walk ∧
    (State.askPass s k i st digest).tables = s.tables ∧
    (State.askPass s k i st digest).scan = s.scan ∧
    (State.askPass s k i st digest).arbiter = s.arbiter ∧
    (State.askPass s k i st digest).flash = s.flash ∧
    (State.askPass s k i st digest).port = s.port ∧
    (State.askPass s k i st digest).filter = s.filter ∧
    (State.askPass s k i st digest).wipe = s.wipe ∧
    (State.askPass s k i st digest).fuse = s.fuse ∧
    (State.askPass s k i st digest).el = s.el ∧
    (State.askPass s k i st digest).sl = s.sl ∧
    (State.askPass s k i st digest).pending = s.pending := by
  simp [State.askPass]

@[simp] theorem State.rootFilled_blocks (s : State) (k : Bank) (i : Fin 8) :
    (State.rootFilled s k i).flash = s.flash ∧
    (State.rootFilled s k i).port = s.port ∧
    (State.rootFilled s k i).filter = s.filter ∧
    (State.rootFilled s k i).wipe = s.wipe ∧
    (State.rootFilled s k i).el = s.el ∧
    (State.rootFilled s k i).sl = s.sl ∧
    (State.rootFilled s k i).pending = s.pending := by
  unfold State.rootFilled; (repeat' split) <;> simp

@[simp] theorem State.setDelegate_blocks (s : State) (j : DelegateJob) :
    (State.setDelegate s j).lines = s.lines ∧
    (State.setDelegate s j).boot = s.boot ∧
    (State.setDelegate s j).gate = s.gate ∧
    (State.setDelegate s j).alerts = s.alerts ∧
    (State.setDelegate s j).timer = s.timer ∧
    (State.setDelegate s j).tables = s.tables ∧
    (State.setDelegate s j).scan = s.scan ∧
    (State.setDelegate s j).verifier = s.verifier ∧
    (State.setDelegate s j).arbiter = s.arbiter ∧
    (State.setDelegate s j).flash = s.flash ∧
    (State.setDelegate s j).port = s.port ∧
    (State.setDelegate s j).filter = s.filter ∧
    (State.setDelegate s j).wipe = s.wipe ∧
    (State.setDelegate s j).fuse = s.fuse ∧
    (State.setDelegate s j).el = s.el ∧
    (State.setDelegate s j).sl = s.sl ∧
    (State.setDelegate s j).pending = s.pending := by
  simp [State.setDelegate]

@[simp] theorem State.dropDelegate_blocks (s : State) (j : DelegateJob) :
    (State.dropDelegate s j).flash = s.flash ∧
    (State.dropDelegate s j).port = s.port ∧
    (State.dropDelegate s j).filter = s.filter ∧
    (State.dropDelegate s j).wipe = s.wipe ∧
    (State.dropDelegate s j).el = s.el ∧
    (State.dropDelegate s j).sl = s.sl ∧
    (State.dropDelegate s j).pending = s.pending := by
  simp [State.dropDelegate]

@[simp] theorem State.delegateFilled_blocks (s : State) (j : DelegateJob) :
    (State.delegateFilled s j).flash = s.flash ∧
    (State.delegateFilled s j).port = s.port ∧
    (State.delegateFilled s j).filter = s.filter ∧
    (State.delegateFilled s j).wipe = s.wipe ∧
    (State.delegateFilled s j).el = s.el ∧
    (State.delegateFilled s j).sl = s.sl ∧
    (State.delegateFilled s j).pending = s.pending := by
  unfold State.delegateFilled; (repeat' split) <;> simp

@[simp] theorem State.manifestFilled_blocks (s : State) (i : Fin 8) :
    (State.manifestFilled s i).flash = s.flash ∧
    (State.manifestFilled s i).port = s.port ∧
    (State.manifestFilled s i).filter = s.filter ∧
    (State.manifestFilled s i).wipe = s.wipe ∧
    (State.manifestFilled s i).el = s.el ∧
    (State.manifestFilled s i).sl = s.sl ∧
    (State.manifestFilled s i).pending = s.pending := by
  unfold State.manifestFilled; (repeat' split) <;> simp

@[simp] theorem State.badReport_blocks (s : State) :
    (State.badReport s).lines = s.lines ∧
    (State.badReport s).boot = s.boot ∧
    (State.badReport s).gate = s.gate ∧
    (State.badReport s).timer = s.timer ∧
    (State.badReport s).walk = s.walk ∧
    (State.badReport s).tables = s.tables ∧
    (State.badReport s).scan = s.scan ∧
    (State.badReport s).verifier = s.verifier ∧
    (State.badReport s).arbiter = s.arbiter ∧
    (State.badReport s).flash = s.flash ∧
    (State.badReport s).port = s.port ∧
    (State.badReport s).filter = s.filter ∧
    (State.badReport s).wipe = s.wipe ∧
    (State.badReport s).fuse = s.fuse ∧
    (State.badReport s).el = s.el ∧
    (State.badReport s).sl = s.sl ∧
    (State.badReport s).pending = s.pending := by
  simp [State.badReport]

@[simp] theorem State.regionChanged_blocks (s : State) (g : ImageRegion) :
    (State.regionChanged s g).flash = s.flash ∧
    (State.regionChanged s g).port = s.port ∧
    (State.regionChanged s g).filter = s.filter ∧
    (State.regionChanged s g).wipe = s.wipe ∧
    (State.regionChanged s g).el = s.el ∧
    (State.regionChanged s g).sl = s.sl ∧
    (State.regionChanged s g).pending = s.pending := by
  unfold State.regionChanged; (repeat' split) <;> simp

@[simp] theorem State.endHeldOnBad_blocks (s : State) (record : Nat) :
    (State.endHeldOnBad s record).lines = s.lines ∧
    (State.endHeldOnBad s record).boot = s.boot ∧
    (State.endHeldOnBad s record).gate = s.gate ∧
    (State.endHeldOnBad s record).alerts = s.alerts ∧
    (State.endHeldOnBad s record).timer = s.timer ∧
    (State.endHeldOnBad s record).walk = s.walk ∧
    (State.endHeldOnBad s record).tables = s.tables ∧
    (State.endHeldOnBad s record).scan = s.scan ∧
    (State.endHeldOnBad s record).verifier = s.verifier ∧
    (State.endHeldOnBad s record).flash = s.flash ∧
    (State.endHeldOnBad s record).filter = s.filter ∧
    (State.endHeldOnBad s record).wipe = s.wipe ∧
    (State.endHeldOnBad s record).fuse = s.fuse ∧
    (State.endHeldOnBad s record).el = s.el ∧
    (State.endHeldOnBad s record).sl = s.sl ∧
    (State.endHeldOnBad s record).pending = s.pending := by
  unfold State.endHeldOnBad; (repeat' split) <;> simp

@[simp] theorem State.takeVerdict_blocks (s : State) (region index : Nat) (digest : List Byte) :
    (State.takeVerdict s region index digest).flash = s.flash ∧
    (State.takeVerdict s region index digest).filter = s.filter ∧
    (State.takeVerdict s region index digest).wipe = s.wipe ∧
    (State.takeVerdict s region index digest).el = s.el ∧
    (State.takeVerdict s region index digest).sl = s.sl ∧
    (State.takeVerdict s region index digest).pending = s.pending := by
  unfold State.takeVerdict; dsimp only; (repeat' split) <;> simp

@[simp] theorem State.answerWaiter_blocks (s : State) (i : Fin 8) (region index : Nat) :
    (State.answerWaiter s i region index).lines = s.lines ∧
    (State.answerWaiter s i region index).boot = s.boot ∧
    (State.answerWaiter s i region index).gate = s.gate ∧
    (State.answerWaiter s i region index).alerts = s.alerts ∧
    (State.answerWaiter s i region index).timer = s.timer ∧
    (State.answerWaiter s i region index).walk = s.walk ∧
    (State.answerWaiter s i region index).tables = s.tables ∧
    (State.answerWaiter s i region index).scan = s.scan ∧
    (State.answerWaiter s i region index).verifier = s.verifier ∧
    (State.answerWaiter s i region index).arbiter = s.arbiter ∧
    (State.answerWaiter s i region index).flash = s.flash ∧
    (State.answerWaiter s i region index).filter = s.filter ∧
    (State.answerWaiter s i region index).wipe = s.wipe ∧
    (State.answerWaiter s i region index).fuse = s.fuse ∧
    (State.answerWaiter s i region index).el = s.el ∧
    (State.answerWaiter s i region index).sl = s.sl ∧
    (State.answerWaiter s i region index).pending = s.pending := by
  unfold State.answerWaiter; (repeat' split) <;> simp

@[simp] theorem State.completeHash_blocks (s : State) (i : Fin 8) (region index : Nat) :
    (State.completeHash s i region index).lines = s.lines ∧
    (State.completeHash s i region index).boot = s.boot ∧
    (State.completeHash s i region index).gate = s.gate ∧
    (State.completeHash s i region index).alerts = s.alerts ∧
    (State.completeHash s i region index).timer = s.timer ∧
    (State.completeHash s i region index).walk = s.walk ∧
    (State.completeHash s i region index).tables = s.tables ∧
    (State.completeHash s i region index).flash = s.flash ∧
    (State.completeHash s i region index).filter = s.filter ∧
    (State.completeHash s i region index).wipe = s.wipe ∧
    (State.completeHash s i region index).fuse = s.fuse ∧
    (State.completeHash s i region index).el = s.el ∧
    (State.completeHash s i region index).sl = s.sl ∧
    (State.completeHash s i region index).pending = s.pending := by
  unfold State.completeHash; (repeat' split) <;> simp

@[simp] theorem State.finishList_blocks (s : State) (j : ListJob) :
    (State.finishList s j).flash = s.flash ∧
    (State.finishList s j).port = s.port ∧
    (State.finishList s j).filter = s.filter ∧
    (State.finishList s j).wipe = s.wipe ∧
    (State.finishList s j).el = s.el ∧
    (State.finishList s j).sl = s.sl ∧
    (State.finishList s j).pending = s.pending := by
  unfold State.finishList; (repeat' split) <;> simp

@[simp] theorem State.pieceHashed_blocks (s : State) (i : Fin 8) (j : ListJob) :
    (State.pieceHashed s i j).flash = s.flash ∧
    (State.pieceHashed s i j).port = s.port ∧
    (State.pieceHashed s i j).filter = s.filter ∧
    (State.pieceHashed s i j).wipe = s.wipe ∧
    (State.pieceHashed s i j).el = s.el ∧
    (State.pieceHashed s i j).sl = s.sl ∧
    (State.pieceHashed s i j).pending = s.pending := by
  unfold State.pieceHashed; dsimp only; (repeat' split) <;> simp

@[simp] theorem State.requestCp_blocks (s : State) :
    (State.requestCp s).lines = s.lines ∧
    (State.requestCp s).boot = s.boot ∧
    (State.requestCp s).gate = s.gate ∧
    (State.requestCp s).alerts = s.alerts ∧
    (State.requestCp s).timer = s.timer ∧
    (State.requestCp s).walk = s.walk ∧
    (State.requestCp s).tables = s.tables ∧
    (State.requestCp s).scan = s.scan ∧
    (State.requestCp s).verifier = s.verifier ∧
    (State.requestCp s).flash = s.flash ∧
    (State.requestCp s).port = s.port ∧
    (State.requestCp s).filter = s.filter ∧
    (State.requestCp s).wipe = s.wipe ∧
    (State.requestCp s).fuse = s.fuse ∧
    (State.requestCp s).el = s.el ∧
    (State.requestCp s).sl = s.sl ∧
    (State.requestCp s).pending = s.pending := by
  unfold State.requestCp; (repeat' split) <;> simp

@[simp] theorem State.answer_blocks (s : State) (w : Word) :
    (State.answer s w).lines = s.lines ∧
    (State.answer s w).boot = s.boot ∧
    (State.answer s w).gate = s.gate ∧
    (State.answer s w).alerts = s.alerts ∧
    (State.answer s w).timer = s.timer ∧
    (State.answer s w).walk = s.walk ∧
    (State.answer s w).tables = s.tables ∧
    (State.answer s w).scan = s.scan ∧
    (State.answer s w).verifier = s.verifier ∧
    (State.answer s w).arbiter = s.arbiter ∧
    (State.answer s w).flash = s.flash ∧
    (State.answer s w).filter = s.filter ∧
    (State.answer s w).wipe = s.wipe ∧
    (State.answer s w).fuse = s.fuse ∧
    (State.answer s w).el = s.el ∧
    (State.answer s w).sl = s.sl ∧
    (State.answer s w).pending = s.pending := by
  simp [State.answer]

@[simp] theorem State.forwardRead_blocks (s : State) (a : Addr) (d : Decode) :
    (State.forwardRead s a d).lines = s.lines ∧
    (State.forwardRead s a d).boot = s.boot ∧
    (State.forwardRead s a d).gate = s.gate ∧
    (State.forwardRead s a d).alerts = s.alerts ∧
    (State.forwardRead s a d).timer = s.timer ∧
    (State.forwardRead s a d).walk = s.walk ∧
    (State.forwardRead s a d).tables = s.tables ∧
    (State.forwardRead s a d).scan = s.scan ∧
    (State.forwardRead s a d).verifier = s.verifier ∧
    (State.forwardRead s a d).flash = s.flash ∧
    (State.forwardRead s a d).filter = s.filter ∧
    (State.forwardRead s a d).wipe = s.wipe ∧
    (State.forwardRead s a d).fuse = s.fuse ∧
    (State.forwardRead s a d).el = s.el ∧
    (State.forwardRead s a d).sl = s.sl ∧
    (State.forwardRead s a d).pending = s.pending := by
  unfold State.forwardRead; (repeat' split) <;> simp

@[simp] theorem State.endHeldRead_blocks (s : State) :
    (State.endHeldRead s).lines = s.lines ∧
    (State.endHeldRead s).boot = s.boot ∧
    (State.endHeldRead s).gate = s.gate ∧
    (State.endHeldRead s).alerts = s.alerts ∧
    (State.endHeldRead s).timer = s.timer ∧
    (State.endHeldRead s).walk = s.walk ∧
    (State.endHeldRead s).tables = s.tables ∧
    (State.endHeldRead s).scan = s.scan ∧
    (State.endHeldRead s).flash = s.flash ∧
    (State.endHeldRead s).filter = s.filter ∧
    (State.endHeldRead s).wipe = s.wipe ∧
    (State.endHeldRead s).fuse = s.fuse ∧
    (State.endHeldRead s).el = s.el ∧
    (State.endHeldRead s).sl = s.sl ∧
    (State.endHeldRead s).pending = s.pending := by
  unfold State.endHeldRead; (repeat' split) <;> simp

@[simp] theorem State.setTracker_blocks (s : State) (t : Tracker) :
    (State.setTracker s t).lines = s.lines ∧
    (State.setTracker s t).boot = s.boot ∧
    (State.setTracker s t).gate = s.gate ∧
    (State.setTracker s t).alerts = s.alerts ∧
    (State.setTracker s t).timer = s.timer ∧
    (State.setTracker s t).walk = s.walk ∧
    (State.setTracker s t).tables = s.tables ∧
    (State.setTracker s t).scan = s.scan ∧
    (State.setTracker s t).verifier = s.verifier ∧
    (State.setTracker s t).arbiter = s.arbiter ∧
    (State.setTracker s t).flash = s.flash ∧
    (State.setTracker s t).port = s.port ∧
    (State.setTracker s t).wipe = s.wipe ∧
    (State.setTracker s t).fuse = s.fuse ∧
    (State.setTracker s t).el = s.el ∧
    (State.setTracker s t).sl = s.sl ∧
    (State.setTracker s t).pending = s.pending := by
  simp [State.setTracker]

@[simp] theorem State.refuse_blocks (s : State) (reason : Reason) (a : Addr) (v : Word) :
    (State.refuse s reason a v).lines = s.lines ∧
    (State.refuse s reason a v).boot = s.boot ∧
    (State.refuse s reason a v).gate = s.gate ∧
    (State.refuse s reason a v).timer = s.timer ∧
    (State.refuse s reason a v).walk = s.walk ∧
    (State.refuse s reason a v).tables = s.tables ∧
    (State.refuse s reason a v).scan = s.scan ∧
    (State.refuse s reason a v).verifier = s.verifier ∧
    (State.refuse s reason a v).arbiter = s.arbiter ∧
    (State.refuse s reason a v).flash = s.flash ∧
    (State.refuse s reason a v).port = s.port ∧
    (State.refuse s reason a v).wipe = s.wipe ∧
    (State.refuse s reason a v).fuse = s.fuse ∧
    (State.refuse s reason a v).el = s.el ∧
    (State.refuse s reason a v).sl = s.sl ∧
    (State.refuse s reason a v).pending = s.pending := by
  unfold State.refuse; dsimp only; (repeat' split) <;> simp

@[simp] theorem State.firstWrite_blocks (s : State) (a : Addr) (v : Word) (d : Decode) :
    (State.firstWrite s a v d).lines = s.lines ∧
    (State.firstWrite s a v d).boot = s.boot ∧
    (State.firstWrite s a v d).gate = s.gate ∧
    (State.firstWrite s a v d).timer = s.timer ∧
    (State.firstWrite s a v d).walk = s.walk ∧
    (State.firstWrite s a v d).tables = s.tables ∧
    (State.firstWrite s a v d).scan = s.scan ∧
    (State.firstWrite s a v d).verifier = s.verifier ∧
    (State.firstWrite s a v d).arbiter = s.arbiter ∧
    (State.firstWrite s a v d).flash = s.flash ∧
    (State.firstWrite s a v d).port = s.port ∧
    (State.firstWrite s a v d).wipe = s.wipe ∧
    (State.firstWrite s a v d).fuse = s.fuse ∧
    (State.firstWrite s a v d).el = s.el ∧
    (State.firstWrite s a v d).sl = s.sl ∧
    (State.firstWrite s a v d).pending = s.pending := by
  unfold State.firstWrite; (repeat' split) <;> simp

@[simp] theorem State.startForward_blocks (s : State) :
    (State.startForward s).lines = s.lines ∧
    (State.startForward s).boot = s.boot ∧
    (State.startForward s).gate = s.gate ∧
    (State.startForward s).alerts = s.alerts ∧
    (State.startForward s).timer = s.timer ∧
    (State.startForward s).walk = s.walk ∧
    (State.startForward s).tables = s.tables ∧
    (State.startForward s).scan = s.scan ∧
    (State.startForward s).verifier = s.verifier ∧
    (State.startForward s).flash = s.flash ∧
    (State.startForward s).port = s.port ∧
    (State.startForward s).wipe = s.wipe ∧
    (State.startForward s).fuse = s.fuse ∧
    (State.startForward s).el = s.el ∧
    (State.startForward s).sl = s.sl ∧
    (State.startForward s).pending = s.pending := by
  unfold State.startForward; (repeat' split) <;> simp

@[simp] theorem State.forwardSequence_blocks (s : State) (t : Tracker) :
    (State.forwardSequence s t).lines = s.lines ∧
    (State.forwardSequence s t).boot = s.boot ∧
    (State.forwardSequence s t).gate = s.gate ∧
    (State.forwardSequence s t).alerts = s.alerts ∧
    (State.forwardSequence s t).timer = s.timer ∧
    (State.forwardSequence s t).walk = s.walk ∧
    (State.forwardSequence s t).tables = s.tables ∧
    (State.forwardSequence s t).scan = s.scan ∧
    (State.forwardSequence s t).verifier = s.verifier ∧
    (State.forwardSequence s t).flash = s.flash ∧
    (State.forwardSequence s t).wipe = s.wipe ∧
    (State.forwardSequence s t).fuse = s.fuse ∧
    (State.forwardSequence s t).el = s.el ∧
    (State.forwardSequence s t).sl = s.sl ∧
    (State.forwardSequence s t).pending = s.pending := by
  unfold State.forwardSequence; dsimp only; (repeat' split) <;> simp

@[simp] theorem State.startWaiting_blocks (s : State) :
    (State.startWaiting s).lines = s.lines ∧
    (State.startWaiting s).boot = s.boot ∧
    (State.startWaiting s).gate = s.gate ∧
    (State.startWaiting s).alerts = s.alerts ∧
    (State.startWaiting s).timer = s.timer ∧
    (State.startWaiting s).walk = s.walk ∧
    (State.startWaiting s).tables = s.tables ∧
    (State.startWaiting s).scan = s.scan ∧
    (State.startWaiting s).verifier = s.verifier ∧
    (State.startWaiting s).flash = s.flash ∧
    (State.startWaiting s).port = s.port ∧
    (State.startWaiting s).wipe = s.wipe ∧
    (State.startWaiting s).fuse = s.fuse ∧
    (State.startWaiting s).el = s.el ∧
    (State.startWaiting s).sl = s.sl ∧
    (State.startWaiting s).pending = s.pending := by
  unfold State.startWaiting; (repeat' split) <;> simp

@[simp] theorem State.continueWrite_blocks (s : State) (a : Addr) (v : Word) (d : Decode) :
    (State.continueWrite s a v d).lines = s.lines ∧
    (State.continueWrite s a v d).boot = s.boot ∧
    (State.continueWrite s a v d).gate = s.gate ∧
    (State.continueWrite s a v d).timer = s.timer ∧
    (State.continueWrite s a v d).walk = s.walk ∧
    (State.continueWrite s a v d).tables = s.tables ∧
    (State.continueWrite s a v d).scan = s.scan ∧
    (State.continueWrite s a v d).verifier = s.verifier ∧
    (State.continueWrite s a v d).flash = s.flash ∧
    (State.continueWrite s a v d).wipe = s.wipe ∧
    (State.continueWrite s a v d).fuse = s.fuse ∧
    (State.continueWrite s a v d).el = s.el ∧
    (State.continueWrite s a v d).sl = s.sl ∧
    (State.continueWrite s a v d).pending = s.pending := by
  unfold State.continueWrite; dsimp only; (repeat' split) <;> simp

@[simp] theorem State.trackerWrite_blocks (s : State) (a : Addr) (v : Word) :
    (State.trackerWrite s a v).lines = s.lines ∧
    (State.trackerWrite s a v).boot = s.boot ∧
    (State.trackerWrite s a v).gate = s.gate ∧
    (State.trackerWrite s a v).timer = s.timer ∧
    (State.trackerWrite s a v).walk = s.walk ∧
    (State.trackerWrite s a v).tables = s.tables ∧
    (State.trackerWrite s a v).scan = s.scan ∧
    (State.trackerWrite s a v).verifier = s.verifier ∧
    (State.trackerWrite s a v).flash = s.flash ∧
    (State.trackerWrite s a v).wipe = s.wipe ∧
    (State.trackerWrite s a v).fuse = s.fuse ∧
    (State.trackerWrite s a v).el = s.el ∧
    (State.trackerWrite s a v).sl = s.sl ∧
    (State.trackerWrite s a v).pending = s.pending := by
  unfold State.trackerWrite; (repeat' split) <;> simp

@[simp] theorem State.requestPoll_blocks (s : State) :
    (State.requestPoll s).lines = s.lines ∧
    (State.requestPoll s).boot = s.boot ∧
    (State.requestPoll s).gate = s.gate ∧
    (State.requestPoll s).alerts = s.alerts ∧
    (State.requestPoll s).timer = s.timer ∧
    (State.requestPoll s).walk = s.walk ∧
    (State.requestPoll s).tables = s.tables ∧
    (State.requestPoll s).scan = s.scan ∧
    (State.requestPoll s).verifier = s.verifier ∧
    (State.requestPoll s).flash = s.flash ∧
    (State.requestPoll s).port = s.port ∧
    (State.requestPoll s).filter = s.filter ∧
    (State.requestPoll s).wipe = s.wipe ∧
    (State.requestPoll s).fuse = s.fuse ∧
    (State.requestPoll s).el = s.el ∧
    (State.requestPoll s).sl = s.sl ∧
    (State.requestPoll s).pending = s.pending := by
  unfold State.requestPoll; (repeat' split) <;> simp

@[simp] theorem State.setOp_blocks (s : State) (o : Option Operation) :
    (State.setOp s o).lines = s.lines ∧
    (State.setOp s o).boot = s.boot ∧
    (State.setOp s o).gate = s.gate ∧
    (State.setOp s o).alerts = s.alerts ∧
    (State.setOp s o).timer = s.timer ∧
    (State.setOp s o).walk = s.walk ∧
    (State.setOp s o).tables = s.tables ∧
    (State.setOp s o).scan = s.scan ∧
    (State.setOp s o).verifier = s.verifier ∧
    (State.setOp s o).arbiter = s.arbiter ∧
    (State.setOp s o).flash = s.flash ∧
    (State.setOp s o).port = s.port ∧
    (State.setOp s o).wipe = s.wipe ∧
    (State.setOp s o).fuse = s.fuse ∧
    (State.setOp s o).el = s.el ∧
    (State.setOp s o).sl = s.sl ∧
    (State.setOp s o).pending = s.pending := by
  simp [State.setOp]

@[simp] theorem State.goBusy_blocks (s : State) (q : SequenceRequest) :
    (State.goBusy s q).lines = s.lines ∧
    (State.goBusy s q).boot = s.boot ∧
    (State.goBusy s q).gate = s.gate ∧
    (State.goBusy s q).alerts = s.alerts ∧
    (State.goBusy s q).timer = s.timer ∧
    (State.goBusy s q).walk = s.walk ∧
    (State.goBusy s q).tables = s.tables ∧
    (State.goBusy s q).scan = s.scan ∧
    (State.goBusy s q).verifier = s.verifier ∧
    (State.goBusy s q).flash = s.flash ∧
    (State.goBusy s q).port = s.port ∧
    (State.goBusy s q).filter = s.filter ∧
    (State.goBusy s q).wipe = s.wipe ∧
    (State.goBusy s q).fuse = s.fuse ∧
    (State.goBusy s q).el = s.el ∧
    (State.goBusy s q).sl = s.sl ∧
    (State.goBusy s q).pending = s.pending := by
  unfold State.goBusy; (repeat' split) <;> simp

@[simp] theorem State.startPolling_blocks (s : State) (o : Operation) :
    (State.startPolling s o).lines = s.lines ∧
    (State.startPolling s o).boot = s.boot ∧
    (State.startPolling s o).gate = s.gate ∧
    (State.startPolling s o).alerts = s.alerts ∧
    (State.startPolling s o).timer = s.timer ∧
    (State.startPolling s o).walk = s.walk ∧
    (State.startPolling s o).tables = s.tables ∧
    (State.startPolling s o).scan = s.scan ∧
    (State.startPolling s o).verifier = s.verifier ∧
    (State.startPolling s o).flash = s.flash ∧
    (State.startPolling s o).port = s.port ∧
    (State.startPolling s o).wipe = s.wipe ∧
    (State.startPolling s o).fuse = s.fuse ∧
    (State.startPolling s o).el = s.el ∧
    (State.startPolling s o).sl = s.sl ∧
    (State.startPolling s o).pending = s.pending := by
  simp [State.startPolling]

@[simp] theorem State.idleAfter_blocks (s : State) (o : Operation) :
    (State.idleAfter s o).lines = s.lines ∧
    (State.idleAfter s o).boot = s.boot ∧
    (State.idleAfter s o).gate = s.gate ∧
    (State.idleAfter s o).alerts = s.alerts ∧
    (State.idleAfter s o).timer = s.timer ∧
    (State.idleAfter s o).walk = s.walk ∧
    (State.idleAfter s o).tables = s.tables ∧
    (State.idleAfter s o).scan = s.scan ∧
    (State.idleAfter s o).verifier = s.verifier ∧
    (State.idleAfter s o).flash = s.flash ∧
    (State.idleAfter s o).port = s.port ∧
    (State.idleAfter s o).filter = s.filter ∧
    (State.idleAfter s o).wipe = s.wipe ∧
    (State.idleAfter s o).fuse = s.fuse ∧
    (State.idleAfter s o).el = s.el ∧
    (State.idleAfter s o).sl = s.sl ∧
    (State.idleAfter s o).pending = s.pending := by
  unfold State.idleAfter; (repeat' split) <;> simp

@[simp] theorem State.endForwarded_blocks (s : State) (o : Operation) (failed : Bool) :
    (State.endForwarded s o failed).lines = s.lines ∧
    (State.endForwarded s o failed).boot = s.boot ∧
    (State.endForwarded s o failed).gate = s.gate ∧
    (State.endForwarded s o failed).alerts = s.alerts ∧
    (State.endForwarded s o failed).timer = s.timer ∧
    (State.endForwarded s o failed).walk = s.walk ∧
    (State.endForwarded s o failed).tables = s.tables ∧
    (State.endForwarded s o failed).scan = s.scan ∧
    (State.endForwarded s o failed).verifier = s.verifier ∧
    (State.endForwarded s o failed).flash = s.flash ∧
    (State.endForwarded s o failed).port = s.port ∧
    (State.endForwarded s o failed).wipe = s.wipe ∧
    (State.endForwarded s o failed).fuse = s.fuse ∧
    (State.endForwarded s o failed).el = s.el ∧
    (State.endForwarded s o failed).sl = s.sl ∧
    (State.endForwarded s o failed).pending = s.pending := by
  simp [State.endForwarded]

@[simp] theorem State.wipeAdvance_blocks (s : State) :
    (State.wipeAdvance s).lines = s.lines ∧
    (State.wipeAdvance s).boot = s.boot ∧
    (State.wipeAdvance s).gate = s.gate ∧
    (State.wipeAdvance s).alerts = s.alerts ∧
    (State.wipeAdvance s).timer = s.timer ∧
    (State.wipeAdvance s).walk = s.walk ∧
    (State.wipeAdvance s).tables = s.tables ∧
    (State.wipeAdvance s).scan = s.scan ∧
    (State.wipeAdvance s).verifier = s.verifier ∧
    (State.wipeAdvance s).arbiter = s.arbiter ∧
    (State.wipeAdvance s).flash = s.flash ∧
    (State.wipeAdvance s).port = s.port ∧
    (State.wipeAdvance s).filter = s.filter ∧
    (State.wipeAdvance s).el = s.el ∧
    (State.wipeAdvance s).sl = s.sl ∧
    (State.wipeAdvance s).pending = s.pending := by
  unfold State.wipeAdvance; (repeat' split) <;> simp

@[simp] theorem State.wipeErased_blocks (s : State) (o : Operation) :
    (State.wipeErased s o).lines = s.lines ∧
    (State.wipeErased s o).boot = s.boot ∧
    (State.wipeErased s o).gate = s.gate ∧
    (State.wipeErased s o).alerts = s.alerts ∧
    (State.wipeErased s o).timer = s.timer ∧
    (State.wipeErased s o).walk = s.walk ∧
    (State.wipeErased s o).tables = s.tables ∧
    (State.wipeErased s o).scan = s.scan ∧
    (State.wipeErased s o).verifier = s.verifier ∧
    (State.wipeErased s o).flash = s.flash ∧
    (State.wipeErased s o).port = s.port ∧
    (State.wipeErased s o).el = s.el ∧
    (State.wipeErased s o).sl = s.sl ∧
    (State.wipeErased s o).pending = s.pending := by
  simp [State.wipeErased]

@[simp] theorem State.wipeFailed_blocks (s : State) (o : Operation) :
    (State.wipeFailed s o).lines = s.lines ∧
    (State.wipeFailed s o).boot = s.boot ∧
    (State.wipeFailed s o).gate = s.gate ∧
    (State.wipeFailed s o).alerts = s.alerts ∧
    (State.wipeFailed s o).timer = s.timer ∧
    (State.wipeFailed s o).walk = s.walk ∧
    (State.wipeFailed s o).tables = s.tables ∧
    (State.wipeFailed s o).scan = s.scan ∧
    (State.wipeFailed s o).verifier = s.verifier ∧
    (State.wipeFailed s o).flash = s.flash ∧
    (State.wipeFailed s o).port = s.port ∧
    (State.wipeFailed s o).fuse = s.fuse ∧
    (State.wipeFailed s o).el = s.el ∧
    (State.wipeFailed s o).sl = s.sl ∧
    (State.wipeFailed s o).pending = s.pending := by
  simp [State.wipeFailed]

@[simp] theorem State.recover_blocks (s : State) (o : Operation) :
    (State.recover s o).lines = s.lines ∧
    (State.recover s o).boot = s.boot ∧
    (State.recover s o).gate = s.gate ∧
    (State.recover s o).alerts = s.alerts ∧
    (State.recover s o).timer = s.timer ∧
    (State.recover s o).walk = s.walk ∧
    (State.recover s o).tables = s.tables ∧
    (State.recover s o).scan = s.scan ∧
    (State.recover s o).verifier = s.verifier ∧
    (State.recover s o).flash = s.flash ∧
    (State.recover s o).port = s.port ∧
    (State.recover s o).wipe = s.wipe ∧
    (State.recover s o).fuse = s.fuse ∧
    (State.recover s o).el = s.el ∧
    (State.recover s o).sl = s.sl ∧
    (State.recover s o).pending = s.pending := by
  simp [State.recover]

@[simp] theorem State.recovered_blocks (s : State) (o : Operation) :
    (State.recovered s o).lines = s.lines ∧
    (State.recovered s o).boot = s.boot ∧
    (State.recovered s o).gate = s.gate ∧
    (State.recovered s o).alerts = s.alerts ∧
    (State.recovered s o).timer = s.timer ∧
    (State.recovered s o).walk = s.walk ∧
    (State.recovered s o).tables = s.tables ∧
    (State.recovered s o).scan = s.scan ∧
    (State.recovered s o).verifier = s.verifier ∧
    (State.recovered s o).flash = s.flash ∧
    (State.recovered s o).port = s.port ∧
    (State.recovered s o).fuse = s.fuse ∧
    (State.recovered s o).el = s.el ∧
    (State.recovered s o).sl = s.sl ∧
    (State.recovered s o).pending = s.pending := by
  unfold State.recovered; (repeat' split) <;> simp

@[simp] theorem State.judged_blocks (s : State) (o : Operation) (x0 : Judgement) :
    (State.judged s o x0).lines = s.lines ∧
    (State.judged s o x0).boot = s.boot ∧
    (State.judged s o x0).gate = s.gate ∧
    (State.judged s o x0).alerts = s.alerts ∧
    (State.judged s o x0).timer = s.timer ∧
    (State.judged s o x0).walk = s.walk ∧
    (State.judged s o x0).tables = s.tables ∧
    (State.judged s o x0).scan = s.scan ∧
    (State.judged s o x0).verifier = s.verifier ∧
    (State.judged s o x0).flash = s.flash ∧
    (State.judged s o x0).port = s.port ∧
    (State.judged s o x0).el = s.el ∧
    (State.judged s o x0).sl = s.sl ∧
    (State.judged s o x0).pending = s.pending := by
  unfold State.judged; (repeat' split) <;> simp

end Sys2Proof.Machine
end

