-- ==== Sys2Proof/Laws/Commands.lean ====
section
/-! SUPPORT. Which blocks each command's own operation leaves as they are, in the form of Laws/Blocks.lean. -/

namespace Sys2Proof.Machine

@[simp] theorem State.timerWraps_blocks (s : State) :
    (State.timerWraps s).lines = s.lines ∧
    (State.timerWraps s).boot = s.boot ∧
    (State.timerWraps s).gate = s.gate ∧
    (State.timerWraps s).alerts = s.alerts ∧
    (State.timerWraps s).walk = s.walk ∧
    (State.timerWraps s).tables = s.tables ∧
    (State.timerWraps s).scan = s.scan ∧
    (State.timerWraps s).verifier = s.verifier ∧
    (State.timerWraps s).arbiter = s.arbiter ∧
    (State.timerWraps s).flash = s.flash ∧
    (State.timerWraps s).port = s.port ∧
    (State.timerWraps s).filter = s.filter ∧
    (State.timerWraps s).wipe = s.wipe ∧
    (State.timerWraps s).fuse = s.fuse ∧
    (State.timerWraps s).el = s.el ∧
    (State.timerWraps s).sl = s.sl ∧
    (State.timerWraps s).pending = s.pending := by
  simp [State.timerWraps]

@[simp] theorem State.intakeExpires_blocks (s : State) :
    (State.intakeExpires s).lines = s.lines ∧
    (State.intakeExpires s).gate = s.gate ∧
    (State.intakeExpires s).flash = s.flash ∧
    (State.intakeExpires s).port = s.port ∧
    (State.intakeExpires s).filter = s.filter ∧
    (State.intakeExpires s).wipe = s.wipe ∧
    (State.intakeExpires s).fuse = s.fuse ∧
    (State.intakeExpires s).el = s.el ∧
    (State.intakeExpires s).sl = s.sl ∧
    (State.intakeExpires s).pending = s.pending := by
  unfold State.intakeExpires; dsimp only; (repeat' split) <;> simp

@[simp] theorem State.bootExpires_blocks (s : State) :
    (State.bootExpires s).lines = s.lines ∧
    (State.bootExpires s).boot = s.boot ∧
    (State.bootExpires s).walk = s.walk ∧
    (State.bootExpires s).tables = s.tables ∧
    (State.bootExpires s).verifier = s.verifier ∧
    (State.bootExpires s).arbiter = s.arbiter ∧
    (State.bootExpires s).flash = s.flash ∧
    (State.bootExpires s).port = s.port ∧
    (State.bootExpires s).filter = s.filter ∧
    (State.bootExpires s).wipe = s.wipe ∧
    (State.bootExpires s).el = s.el ∧
    (State.bootExpires s).sl = s.sl ∧
    (State.bootExpires s).pending = s.pending := by
  unfold State.bootExpires; dsimp only; (repeat' split) <;> simp

@[simp] theorem State.patrolExpires_blocks (s : State) :
    (State.patrolExpires s).lines = s.lines ∧
    (State.patrolExpires s).boot = s.boot ∧
    (State.patrolExpires s).gate = s.gate ∧
    (State.patrolExpires s).alerts = s.alerts ∧
    (State.patrolExpires s).walk = s.walk ∧
    (State.patrolExpires s).tables = s.tables ∧
    (State.patrolExpires s).flash = s.flash ∧
    (State.patrolExpires s).port = s.port ∧
    (State.patrolExpires s).filter = s.filter ∧
    (State.patrolExpires s).wipe = s.wipe ∧
    (State.patrolExpires s).fuse = s.fuse ∧
    (State.patrolExpires s).el = s.el ∧
    (State.patrolExpires s).sl = s.sl ∧
    (State.patrolExpires s).pending = s.pending := by
  unfold State.patrolExpires; dsimp only; (repeat' split) <;> simp

@[simp] theorem State.pgateToggles_blocks (s : State) :
    (State.pgateToggles s).lines = s.lines ∧
    (State.pgateToggles s).boot = s.boot ∧
    (State.pgateToggles s).alerts = s.alerts ∧
    (State.pgateToggles s).timer = s.timer ∧
    (State.pgateToggles s).walk = s.walk ∧
    (State.pgateToggles s).tables = s.tables ∧
    (State.pgateToggles s).scan = s.scan ∧
    (State.pgateToggles s).verifier = s.verifier ∧
    (State.pgateToggles s).arbiter = s.arbiter ∧
    (State.pgateToggles s).flash = s.flash ∧
    (State.pgateToggles s).port = s.port ∧
    (State.pgateToggles s).filter = s.filter ∧
    (State.pgateToggles s).wipe = s.wipe ∧
    (State.pgateToggles s).fuse = s.fuse ∧
    (State.pgateToggles s).el = s.el ∧
    (State.pgateToggles s).sl = s.sl ∧
    (State.pgateToggles s).pending = s.pending := by
  unfold State.pgateToggles; (repeat' split) <;> simp

@[simp] theorem State.retryOp_blocks (s : State) (o : Operation) :
    (State.retryOp s o).lines = s.lines ∧
    (State.retryOp s o).boot = s.boot ∧
    (State.retryOp s o).gate = s.gate ∧
    (State.retryOp s o).alerts = s.alerts ∧
    (State.retryOp s o).timer = s.timer ∧
    (State.retryOp s o).walk = s.walk ∧
    (State.retryOp s o).tables = s.tables ∧
    (State.retryOp s o).scan = s.scan ∧
    (State.retryOp s o).verifier = s.verifier ∧
    (State.retryOp s o).flash = s.flash ∧
    (State.retryOp s o).port = s.port ∧
    (State.retryOp s o).wipe = s.wipe ∧
    (State.retryOp s o).fuse = s.fuse ∧
    (State.retryOp s o).el = s.el ∧
    (State.retryOp s o).sl = s.sl ∧
    (State.retryOp s o).pending = s.pending := by
  unfold State.retryOp; (repeat' split) <;> simp

@[simp] theorem State.retrySettle_blocks (s : State) (t : Settle) :
    (State.retrySettle s t).lines = s.lines ∧
    (State.retrySettle s t).boot = s.boot ∧
    (State.retrySettle s t).gate = s.gate ∧
    (State.retrySettle s t).alerts = s.alerts ∧
    (State.retrySettle s t).timer = s.timer ∧
    (State.retrySettle s t).walk = s.walk ∧
    (State.retrySettle s t).tables = s.tables ∧
    (State.retrySettle s t).scan = s.scan ∧
    (State.retrySettle s t).verifier = s.verifier ∧
    (State.retrySettle s t).flash = s.flash ∧
    (State.retrySettle s t).port = s.port ∧
    (State.retrySettle s t).filter = s.filter ∧
    (State.retrySettle s t).wipe = s.wipe ∧
    (State.retrySettle s t).fuse = s.fuse ∧
    (State.retrySettle s t).el = s.el ∧
    (State.retrySettle s t).sl = s.sl ∧
    (State.retrySettle s t).pending = s.pending := by
  unfold State.retrySettle; (repeat' split) <;> simp

@[simp] theorem State.pollRetries_blocks (s : State) :
    (State.pollRetries s).lines = s.lines ∧
    (State.pollRetries s).boot = s.boot ∧
    (State.pollRetries s).gate = s.gate ∧
    (State.pollRetries s).alerts = s.alerts ∧
    (State.pollRetries s).timer = s.timer ∧
    (State.pollRetries s).walk = s.walk ∧
    (State.pollRetries s).tables = s.tables ∧
    (State.pollRetries s).scan = s.scan ∧
    (State.pollRetries s).verifier = s.verifier ∧
    (State.pollRetries s).flash = s.flash ∧
    (State.pollRetries s).port = s.port ∧
    (State.pollRetries s).wipe = s.wipe ∧
    (State.pollRetries s).fuse = s.fuse ∧
    (State.pollRetries s).el = s.el ∧
    (State.pollRetries s).sl = s.sl ∧
    (State.pollRetries s).pending = s.pending := by
  unfold State.pollRetries; dsimp only; (repeat' split) <;> simp

@[simp] theorem State.tickTimer_blocks (s : State) :
    (State.tickTimer s).lines = s.lines ∧
    (State.tickTimer s).flash = s.flash ∧
    (State.tickTimer s).port = s.port ∧
    (State.tickTimer s).filter = s.filter ∧
    (State.tickTimer s).wipe = s.wipe ∧
    (State.tickTimer s).el = s.el ∧
    (State.tickTimer s).sl = s.sl ∧
    (State.tickTimer s).pending = s.pending := by
  unfold State.tickTimer; (repeat' split) <;> simp

@[simp] theorem State.tickGate_blocks (s : State) :
    (State.tickGate s).lines = s.lines ∧
    (State.tickGate s).boot = s.boot ∧
    (State.tickGate s).alerts = s.alerts ∧
    (State.tickGate s).timer = s.timer ∧
    (State.tickGate s).walk = s.walk ∧
    (State.tickGate s).tables = s.tables ∧
    (State.tickGate s).scan = s.scan ∧
    (State.tickGate s).verifier = s.verifier ∧
    (State.tickGate s).arbiter = s.arbiter ∧
    (State.tickGate s).flash = s.flash ∧
    (State.tickGate s).port = s.port ∧
    (State.tickGate s).filter = s.filter ∧
    (State.tickGate s).wipe = s.wipe ∧
    (State.tickGate s).fuse = s.fuse ∧
    (State.tickGate s).el = s.el ∧
    (State.tickGate s).sl = s.sl ∧
    (State.tickGate s).pending = s.pending := by
  unfold State.tickGate; (repeat' split) <;> simp

@[simp] theorem State.tick_blocks (s : State) :
    (State.tick s).lines = s.lines ∧
    (State.tick s).flash = s.flash ∧
    (State.tick s).port = s.port ∧
    (State.tick s).wipe = s.wipe ∧
    (State.tick s).el = s.el ∧
    (State.tick s).sl = s.sl ∧
    (State.tick s).pending = s.pending := by
  simp [State.tick]

@[simp] theorem State.resetTracker_blocks (s : State) :
    (State.resetTracker s).lines = s.lines ∧
    (State.resetTracker s).boot = s.boot ∧
    (State.resetTracker s).gate = s.gate ∧
    (State.resetTracker s).alerts = s.alerts ∧
    (State.resetTracker s).timer = s.timer ∧
    (State.resetTracker s).walk = s.walk ∧
    (State.resetTracker s).tables = s.tables ∧
    (State.resetTracker s).scan = s.scan ∧
    (State.resetTracker s).verifier = s.verifier ∧
    (State.resetTracker s).flash = s.flash ∧
    (State.resetTracker s).port = s.port ∧
    (State.resetTracker s).wipe = s.wipe ∧
    (State.resetTracker s).fuse = s.fuse ∧
    (State.resetTracker s).el = s.el ∧
    (State.resetTracker s).sl = s.sl ∧
    (State.resetTracker s).pending = s.pending := by
  unfold State.resetTracker; (repeat' split) <;> simp

@[simp] theorem State.crstAsserts_blocks (s : State) :
    (State.crstAsserts s).boot = s.boot ∧
    (State.crstAsserts s).gate = s.gate ∧
    (State.crstAsserts s).alerts = s.alerts ∧
    (State.crstAsserts s).timer = s.timer ∧
    (State.crstAsserts s).walk = s.walk ∧
    (State.crstAsserts s).tables = s.tables ∧
    (State.crstAsserts s).scan = s.scan ∧
    (State.crstAsserts s).flash = s.flash ∧
    (State.crstAsserts s).wipe = s.wipe ∧
    (State.crstAsserts s).fuse = s.fuse ∧
    (State.crstAsserts s).el = s.el ∧
    (State.crstAsserts s).sl = s.sl ∧
    (State.crstAsserts s).pending = s.pending := by
  simp [State.crstAsserts]

@[simp] theorem State.stallRead_blocks (s : State) (a : Addr) (d : Decode) (c : ChunkRef) :
    (State.stallRead s a d c).lines = s.lines ∧
    (State.stallRead s a d c).boot = s.boot ∧
    (State.stallRead s a d c).gate = s.gate ∧
    (State.stallRead s a d c).alerts = s.alerts ∧
    (State.stallRead s a d c).timer = s.timer ∧
    (State.stallRead s a d c).walk = s.walk ∧
    (State.stallRead s a d c).tables = s.tables ∧
    (State.stallRead s a d c).flash = s.flash ∧
    (State.stallRead s a d c).filter = s.filter ∧
    (State.stallRead s a d c).wipe = s.wipe ∧
    (State.stallRead s a d c).fuse = s.fuse ∧
    (State.stallRead s a d c).el = s.el ∧
    (State.stallRead s a d c).sl = s.sl ∧
    (State.stallRead s a d c).pending = s.pending := by
  unfold State.stallRead; (repeat' split) <;> simp

@[simp] theorem State.fillRead_blocks (s : State) (c : ChunkRef) :
    (State.fillRead s c).lines = s.lines ∧
    (State.fillRead s c).boot = s.boot ∧
    (State.fillRead s c).gate = s.gate ∧
    (State.fillRead s c).alerts = s.alerts ∧
    (State.fillRead s c).timer = s.timer ∧
    (State.fillRead s c).walk = s.walk ∧
    (State.fillRead s c).tables = s.tables ∧
    (State.fillRead s c).flash = s.flash ∧
    (State.fillRead s c).filter = s.filter ∧
    (State.fillRead s c).wipe = s.wipe ∧
    (State.fillRead s c).fuse = s.fuse ∧
    (State.fillRead s c).el = s.el ∧
    (State.fillRead s c).sl = s.sl ∧
    (State.fillRead s c).pending = s.pending := by
  simp [State.fillRead]

@[simp] theorem State.imageRead_blocks (s : State) (a : Addr) (d : Decode) :
    (State.imageRead s a d).lines = s.lines ∧
    (State.imageRead s a d).boot = s.boot ∧
    (State.imageRead s a d).gate = s.gate ∧
    (State.imageRead s a d).alerts = s.alerts ∧
    (State.imageRead s a d).timer = s.timer ∧
    (State.imageRead s a d).walk = s.walk ∧
    (State.imageRead s a d).tables = s.tables ∧
    (State.imageRead s a d).flash = s.flash ∧
    (State.imageRead s a d).filter = s.filter ∧
    (State.imageRead s a d).wipe = s.wipe ∧
    (State.imageRead s a d).fuse = s.fuse ∧
    (State.imageRead s a d).el = s.el ∧
    (State.imageRead s a d).sl = s.sl ∧
    (State.imageRead s a d).pending = s.pending := by
  unfold State.imageRead; (repeat' split) <;> simp

@[simp] theorem State.readByClass_blocks (s : State) (a : Addr) :
    (State.readByClass s a).lines = s.lines ∧
    (State.readByClass s a).boot = s.boot ∧
    (State.readByClass s a).gate = s.gate ∧
    (State.readByClass s a).alerts = s.alerts ∧
    (State.readByClass s a).timer = s.timer ∧
    (State.readByClass s a).walk = s.walk ∧
    (State.readByClass s a).tables = s.tables ∧
    (State.readByClass s a).flash = s.flash ∧
    (State.readByClass s a).filter = s.filter ∧
    (State.readByClass s a).wipe = s.wipe ∧
    (State.readByClass s a).fuse = s.fuse ∧
    (State.readByClass s a).el = s.el ∧
    (State.readByClass s a).sl = s.sl ∧
    (State.readByClass s a).pending = s.pending := by
  unfold State.readByClass; dsimp only; (repeat' split) <;> simp

@[simp] theorem State.readArrives_blocks (s : State) (a : Addr) :
    (State.readArrives s a).lines = s.lines ∧
    (State.readArrives s a).boot = s.boot ∧
    (State.readArrives s a).gate = s.gate ∧
    (State.readArrives s a).alerts = s.alerts ∧
    (State.readArrives s a).timer = s.timer ∧
    (State.readArrives s a).walk = s.walk ∧
    (State.readArrives s a).tables = s.tables ∧
    (State.readArrives s a).flash = s.flash ∧
    (State.readArrives s a).filter = s.filter ∧
    (State.readArrives s a).wipe = s.wipe ∧
    (State.readArrives s a).fuse = s.fuse ∧
    (State.readArrives s a).el = s.el ∧
    (State.readArrives s a).sl = s.sl ∧
    (State.readArrives s a).pending = s.pending := by
  unfold State.readArrives; (repeat' split) <;> simp

@[simp] theorem State.cpReturns_blocks (s : State) :
    (State.cpReturns s).lines = s.lines ∧
    (State.cpReturns s).boot = s.boot ∧
    (State.cpReturns s).gate = s.gate ∧
    (State.cpReturns s).alerts = s.alerts ∧
    (State.cpReturns s).timer = s.timer ∧
    (State.cpReturns s).walk = s.walk ∧
    (State.cpReturns s).tables = s.tables ∧
    (State.cpReturns s).scan = s.scan ∧
    (State.cpReturns s).verifier = s.verifier ∧
    (State.cpReturns s).filter = s.filter ∧
    (State.cpReturns s).wipe = s.wipe ∧
    (State.cpReturns s).fuse = s.fuse ∧
    (State.cpReturns s).el = s.el ∧
    (State.cpReturns s).sl = s.sl ∧
    (State.cpReturns s).pending = s.pending := by
  unfold State.cpReturns; dsimp only; (repeat' split) <;> simp

@[simp] theorem State.accessEnds_blocks (s : State) :
    (State.accessEnds s).lines = s.lines ∧
    (State.accessEnds s).boot = s.boot ∧
    (State.accessEnds s).gate = s.gate ∧
    (State.accessEnds s).alerts = s.alerts ∧
    (State.accessEnds s).timer = s.timer ∧
    (State.accessEnds s).walk = s.walk ∧
    (State.accessEnds s).tables = s.tables ∧
    (State.accessEnds s).scan = s.scan ∧
    (State.accessEnds s).verifier = s.verifier ∧
    (State.accessEnds s).arbiter = s.arbiter ∧
    (State.accessEnds s).flash = s.flash ∧
    (State.accessEnds s).filter = s.filter ∧
    (State.accessEnds s).wipe = s.wipe ∧
    (State.accessEnds s).fuse = s.fuse ∧
    (State.accessEnds s).el = s.el ∧
    (State.accessEnds s).sl = s.sl ∧
    (State.accessEnds s).pending = s.pending := by
  unfold State.accessEnds; (repeat' split) <;> simp

@[simp] theorem State.writeArrives_blocks (s : State) (a : Addr) (v : Word) :
    (State.writeArrives s a v).lines = s.lines ∧
    (State.writeArrives s a v).boot = s.boot ∧
    (State.writeArrives s a v).gate = s.gate ∧
    (State.writeArrives s a v).timer = s.timer ∧
    (State.writeArrives s a v).walk = s.walk ∧
    (State.writeArrives s a v).tables = s.tables ∧
    (State.writeArrives s a v).scan = s.scan ∧
    (State.writeArrives s a v).verifier = s.verifier ∧
    (State.writeArrives s a v).flash = s.flash ∧
    (State.writeArrives s a v).wipe = s.wipe ∧
    (State.writeArrives s a v).fuse = s.fuse ∧
    (State.writeArrives s a v).el = s.el ∧
    (State.writeArrives s a v).sl = s.sl ∧
    (State.writeArrives s a v).pending = s.pending := by
  unfold State.writeArrives; dsimp only; (repeat' split) <;> simp

@[simp] theorem State.elBegins_blocks (s : State) :
    (State.elBegins s).lines = s.lines ∧
    (State.elBegins s).boot = s.boot ∧
    (State.elBegins s).gate = s.gate ∧
    (State.elBegins s).alerts = s.alerts ∧
    (State.elBegins s).timer = s.timer ∧
    (State.elBegins s).walk = s.walk ∧
    (State.elBegins s).tables = s.tables ∧
    (State.elBegins s).scan = s.scan ∧
    (State.elBegins s).verifier = s.verifier ∧
    (State.elBegins s).arbiter = s.arbiter ∧
    (State.elBegins s).flash = s.flash ∧
    (State.elBegins s).port = s.port ∧
    (State.elBegins s).filter = s.filter ∧
    (State.elBegins s).wipe = s.wipe ∧
    (State.elBegins s).fuse = s.fuse ∧
    (State.elBegins s).sl = s.sl ∧
    (State.elBegins s).pending = s.pending := by
  unfold State.elBegins; (repeat' split) <;> simp

@[simp] theorem State.elReads_blocks (s : State) (a : Addr) :
    (State.elReads s a).lines = s.lines ∧
    (State.elReads s a).boot = s.boot ∧
    (State.elReads s a).gate = s.gate ∧
    (State.elReads s a).alerts = s.alerts ∧
    (State.elReads s a).timer = s.timer ∧
    (State.elReads s a).walk = s.walk ∧
    (State.elReads s a).tables = s.tables ∧
    (State.elReads s a).scan = s.scan ∧
    (State.elReads s a).verifier = s.verifier ∧
    (State.elReads s a).flash = s.flash ∧
    (State.elReads s a).port = s.port ∧
    (State.elReads s a).filter = s.filter ∧
    (State.elReads s a).wipe = s.wipe ∧
    (State.elReads s a).fuse = s.fuse ∧
    (State.elReads s a).sl = s.sl ∧
    (State.elReads s a).pending = s.pending := by
  unfold State.elReads; (repeat' split) <;> simp

@[simp] theorem State.elStatusBegins_blocks (s : State) :
    (State.elStatusBegins s).lines = s.lines ∧
    (State.elStatusBegins s).boot = s.boot ∧
    (State.elStatusBegins s).gate = s.gate ∧
    (State.elStatusBegins s).alerts = s.alerts ∧
    (State.elStatusBegins s).timer = s.timer ∧
    (State.elStatusBegins s).walk = s.walk ∧
    (State.elStatusBegins s).tables = s.tables ∧
    (State.elStatusBegins s).scan = s.scan ∧
    (State.elStatusBegins s).verifier = s.verifier ∧
    (State.elStatusBegins s).arbiter = s.arbiter ∧
    (State.elStatusBegins s).flash = s.flash ∧
    (State.elStatusBegins s).port = s.port ∧
    (State.elStatusBegins s).filter = s.filter ∧
    (State.elStatusBegins s).wipe = s.wipe ∧
    (State.elStatusBegins s).fuse = s.fuse ∧
    (State.elStatusBegins s).sl = s.sl ∧
    (State.elStatusBegins s).pending = s.pending := by
  unfold State.elStatusBegins; (repeat' split) <;> simp

@[simp] theorem State.aheadByte_blocks (s : State) (p : Nat) :
    (State.aheadByte s p).lines = s.lines ∧
    (State.aheadByte s p).boot = s.boot ∧
    (State.aheadByte s p).gate = s.gate ∧
    (State.aheadByte s p).alerts = s.alerts ∧
    (State.aheadByte s p).timer = s.timer ∧
    (State.aheadByte s p).walk = s.walk ∧
    (State.aheadByte s p).tables = s.tables ∧
    (State.aheadByte s p).scan = s.scan ∧
    (State.aheadByte s p).verifier = s.verifier ∧
    (State.aheadByte s p).arbiter = s.arbiter ∧
    (State.aheadByte s p).flash = s.flash ∧
    (State.aheadByte s p).port = s.port ∧
    (State.aheadByte s p).filter = s.filter ∧
    (State.aheadByte s p).wipe = s.wipe ∧
    (State.aheadByte s p).fuse = s.fuse ∧
    (State.aheadByte s p).sl = s.sl ∧
    (State.aheadByte s p).pending = s.pending := by
  unfold State.aheadByte; (repeat' split) <;> simp

@[simp] theorem State.goodByte_blocks (s : State) (p : Nat) :
    (State.goodByte s p).lines = s.lines ∧
    (State.goodByte s p).boot = s.boot ∧
    (State.goodByte s p).gate = s.gate ∧
    (State.goodByte s p).alerts = s.alerts ∧
    (State.goodByte s p).timer = s.timer ∧
    (State.goodByte s p).walk = s.walk ∧
    (State.goodByte s p).tables = s.tables ∧
    (State.goodByte s p).scan = s.scan ∧
    (State.goodByte s p).verifier = s.verifier ∧
    (State.goodByte s p).arbiter = s.arbiter ∧
    (State.goodByte s p).flash = s.flash ∧
    (State.goodByte s p).port = s.port ∧
    (State.goodByte s p).filter = s.filter ∧
    (State.goodByte s p).wipe = s.wipe ∧
    (State.goodByte s p).fuse = s.fuse ∧
    (State.goodByte s p).sl = s.sl ∧
    (State.goodByte s p).pending = s.pending := by
  unfold State.goodByte; (repeat' split) <;> simp

@[simp] theorem State.readByte_blocks (s : State) (p : Nat) (window : Bool) :
    (State.readByte s p window).lines = s.lines ∧
    (State.readByte s p window).boot = s.boot ∧
    (State.readByte s p window).gate = s.gate ∧
    (State.readByte s p window).alerts = s.alerts ∧
    (State.readByte s p window).timer = s.timer ∧
    (State.readByte s p window).walk = s.walk ∧
    (State.readByte s p window).tables = s.tables ∧
    (State.readByte s p window).flash = s.flash ∧
    (State.readByte s p window).port = s.port ∧
    (State.readByte s p window).filter = s.filter ∧
    (State.readByte s p window).wipe = s.wipe ∧
    (State.readByte s p window).fuse = s.fuse ∧
    (State.readByte s p window).sl = s.sl ∧
    (State.readByte s p window).pending = s.pending := by
  unfold State.readByte; (repeat' split) <;> simp

@[simp] theorem State.readBoundary_blocks (s : State) (p : Nat) (window : Bool) :
    (State.readBoundary s p window).lines = s.lines ∧
    (State.readBoundary s p window).boot = s.boot ∧
    (State.readBoundary s p window).gate = s.gate ∧
    (State.readBoundary s p window).alerts = s.alerts ∧
    (State.readBoundary s p window).timer = s.timer ∧
    (State.readBoundary s p window).walk = s.walk ∧
    (State.readBoundary s p window).tables = s.tables ∧
    (State.readBoundary s p window).flash = s.flash ∧
    (State.readBoundary s p window).port = s.port ∧
    (State.readBoundary s p window).filter = s.filter ∧
    (State.readBoundary s p window).wipe = s.wipe ∧
    (State.readBoundary s p window).fuse = s.fuse ∧
    (State.readBoundary s p window).sl = s.sl ∧
    (State.readBoundary s p window).pending = s.pending := by
  simp [State.readBoundary]

@[simp] theorem State.elBoundary_blocks (s : State) :
    (State.elBoundary s).lines = s.lines ∧
    (State.elBoundary s).boot = s.boot ∧
    (State.elBoundary s).gate = s.gate ∧
    (State.elBoundary s).alerts = s.alerts ∧
    (State.elBoundary s).timer = s.timer ∧
    (State.elBoundary s).walk = s.walk ∧
    (State.elBoundary s).tables = s.tables ∧
    (State.elBoundary s).flash = s.flash ∧
    (State.elBoundary s).port = s.port ∧
    (State.elBoundary s).filter = s.filter ∧
    (State.elBoundary s).wipe = s.wipe ∧
    (State.elBoundary s).fuse = s.fuse ∧
    (State.elBoundary s).sl = s.sl ∧
    (State.elBoundary s).pending = s.pending := by
  unfold State.elBoundary; (repeat' split) <;> simp

@[simp] theorem State.elStatusBoundary_blocks (s : State) :
    (State.elStatusBoundary s).lines = s.lines ∧
    (State.elStatusBoundary s).boot = s.boot ∧
    (State.elStatusBoundary s).gate = s.gate ∧
    (State.elStatusBoundary s).alerts = s.alerts ∧
    (State.elStatusBoundary s).timer = s.timer ∧
    (State.elStatusBoundary s).walk = s.walk ∧
    (State.elStatusBoundary s).tables = s.tables ∧
    (State.elStatusBoundary s).scan = s.scan ∧
    (State.elStatusBoundary s).verifier = s.verifier ∧
    (State.elStatusBoundary s).arbiter = s.arbiter ∧
    (State.elStatusBoundary s).flash = s.flash ∧
    (State.elStatusBoundary s).port = s.port ∧
    (State.elStatusBoundary s).filter = s.filter ∧
    (State.elStatusBoundary s).wipe = s.wipe ∧
    (State.elStatusBoundary s).fuse = s.fuse ∧
    (State.elStatusBoundary s).sl = s.sl ∧
    (State.elStatusBoundary s).pending = s.pending := by
  unfold State.elStatusBoundary; (repeat' split) <;> simp

@[simp] theorem State.elReturns_blocks (s : State) :
    (State.elReturns s).lines = s.lines ∧
    (State.elReturns s).boot = s.boot ∧
    (State.elReturns s).gate = s.gate ∧
    (State.elReturns s).alerts = s.alerts ∧
    (State.elReturns s).timer = s.timer ∧
    (State.elReturns s).walk = s.walk ∧
    (State.elReturns s).tables = s.tables ∧
    (State.elReturns s).scan = s.scan ∧
    (State.elReturns s).verifier = s.verifier ∧
    (State.elReturns s).port = s.port ∧
    (State.elReturns s).filter = s.filter ∧
    (State.elReturns s).wipe = s.wipe ∧
    (State.elReturns s).fuse = s.fuse ∧
    (State.elReturns s).sl = s.sl ∧
    (State.elReturns s).pending = s.pending := by
  unfold State.elReturns; (repeat' split) <;> simp

@[simp] theorem State.elEnds_blocks (s : State) :
    (State.elEnds s).lines = s.lines ∧
    (State.elEnds s).boot = s.boot ∧
    (State.elEnds s).gate = s.gate ∧
    (State.elEnds s).alerts = s.alerts ∧
    (State.elEnds s).timer = s.timer ∧
    (State.elEnds s).walk = s.walk ∧
    (State.elEnds s).tables = s.tables ∧
    (State.elEnds s).scan = s.scan ∧
    (State.elEnds s).verifier = s.verifier ∧
    (State.elEnds s).flash = s.flash ∧
    (State.elEnds s).port = s.port ∧
    (State.elEnds s).filter = s.filter ∧
    (State.elEnds s).wipe = s.wipe ∧
    (State.elEnds s).fuse = s.fuse ∧
    (State.elEnds s).sl = s.sl ∧
    (State.elEnds s).pending = s.pending := by
  unfold State.elEnds; (repeat' split) <;> simp

@[simp] theorem State.slBegins_blocks (s : State) :
    (State.slBegins s).lines = s.lines ∧
    (State.slBegins s).boot = s.boot ∧
    (State.slBegins s).gate = s.gate ∧
    (State.slBegins s).alerts = s.alerts ∧
    (State.slBegins s).timer = s.timer ∧
    (State.slBegins s).walk = s.walk ∧
    (State.slBegins s).tables = s.tables ∧
    (State.slBegins s).scan = s.scan ∧
    (State.slBegins s).verifier = s.verifier ∧
    (State.slBegins s).arbiter = s.arbiter ∧
    (State.slBegins s).flash = s.flash ∧
    (State.slBegins s).port = s.port ∧
    (State.slBegins s).filter = s.filter ∧
    (State.slBegins s).wipe = s.wipe ∧
    (State.slBegins s).fuse = s.fuse ∧
    (State.slBegins s).el = s.el ∧
    (State.slBegins s).pending = s.pending := by
  unfold State.slBegins; (repeat' split) <;> simp

@[simp] theorem State.emptyCapture_blocks (s : State) :
    (State.emptyCapture s).lines = s.lines ∧
    (State.emptyCapture s).boot = s.boot ∧
    (State.emptyCapture s).gate = s.gate ∧
    (State.emptyCapture s).timer = s.timer ∧
    (State.emptyCapture s).walk = s.walk ∧
    (State.emptyCapture s).tables = s.tables ∧
    (State.emptyCapture s).scan = s.scan ∧
    (State.emptyCapture s).verifier = s.verifier ∧
    (State.emptyCapture s).arbiter = s.arbiter ∧
    (State.emptyCapture s).flash = s.flash ∧
    (State.emptyCapture s).port = s.port ∧
    (State.emptyCapture s).wipe = s.wipe ∧
    (State.emptyCapture s).fuse = s.fuse ∧
    (State.emptyCapture s).el = s.el ∧
    (State.emptyCapture s).sl = s.sl ∧
    (State.emptyCapture s).pending = s.pending := by
  simp [State.emptyCapture]

@[simp] theorem State.provision_blocks (s : State) (slot : Byte) (digest : List Byte) :
    (State.provision s slot digest).1.lines = s.lines ∧
    (State.provision s slot digest).1.boot = s.boot ∧
    (State.provision s slot digest).1.gate = s.gate ∧
    (State.provision s slot digest).1.alerts = s.alerts ∧
    (State.provision s slot digest).1.timer = s.timer ∧
    (State.provision s slot digest).1.walk = s.walk ∧
    (State.provision s slot digest).1.tables = s.tables ∧
    (State.provision s slot digest).1.scan = s.scan ∧
    (State.provision s slot digest).1.verifier = s.verifier ∧
    (State.provision s slot digest).1.arbiter = s.arbiter ∧
    (State.provision s slot digest).1.flash = s.flash ∧
    (State.provision s slot digest).1.port = s.port ∧
    (State.provision s slot digest).1.filter = s.filter ∧
    (State.provision s slot digest).1.wipe = s.wipe ∧
    (State.provision s slot digest).1.el = s.el ∧
    (State.provision s slot digest).1.sl = s.sl ∧
    (State.provision s slot digest).1.pending = s.pending := by
  unfold State.provision; (repeat' split) <;> simp

@[simp] theorem State.revoke_blocks (s : State) (slot : Byte) :
    (State.revoke s slot).1.lines = s.lines ∧
    (State.revoke s slot).1.boot = s.boot ∧
    (State.revoke s slot).1.gate = s.gate ∧
    (State.revoke s slot).1.alerts = s.alerts ∧
    (State.revoke s slot).1.timer = s.timer ∧
    (State.revoke s slot).1.walk = s.walk ∧
    (State.revoke s slot).1.tables = s.tables ∧
    (State.revoke s slot).1.scan = s.scan ∧
    (State.revoke s slot).1.verifier = s.verifier ∧
    (State.revoke s slot).1.arbiter = s.arbiter ∧
    (State.revoke s slot).1.flash = s.flash ∧
    (State.revoke s slot).1.port = s.port ∧
    (State.revoke s slot).1.filter = s.filter ∧
    (State.revoke s slot).1.wipe = s.wipe ∧
    (State.revoke s slot).1.el = s.el ∧
    (State.revoke s slot).1.sl = s.sl ∧
    (State.revoke s slot).1.pending = s.pending := by
  unfold State.revoke; (repeat' split) <;> simp

@[simp] theorem State.closeLifecycle_blocks (s : State) :
    (State.closeLifecycle s).1.lines = s.lines ∧
    (State.closeLifecycle s).1.boot = s.boot ∧
    (State.closeLifecycle s).1.gate = s.gate ∧
    (State.closeLifecycle s).1.alerts = s.alerts ∧
    (State.closeLifecycle s).1.timer = s.timer ∧
    (State.closeLifecycle s).1.walk = s.walk ∧
    (State.closeLifecycle s).1.tables = s.tables ∧
    (State.closeLifecycle s).1.scan = s.scan ∧
    (State.closeLifecycle s).1.verifier = s.verifier ∧
    (State.closeLifecycle s).1.arbiter = s.arbiter ∧
    (State.closeLifecycle s).1.flash = s.flash ∧
    (State.closeLifecycle s).1.port = s.port ∧
    (State.closeLifecycle s).1.filter = s.filter ∧
    (State.closeLifecycle s).1.wipe = s.wipe ∧
    (State.closeLifecycle s).1.el = s.el ∧
    (State.closeLifecycle s).1.sl = s.sl ∧
    (State.closeLifecycle s).1.pending = s.pending := by
  unfold State.closeLifecycle; (repeat' split) <;> simp

@[simp] theorem State.lock_blocks (s : State) :
    (State.lock s).1.lines = s.lines ∧
    (State.lock s).1.boot = s.boot ∧
    (State.lock s).1.gate = s.gate ∧
    (State.lock s).1.alerts = s.alerts ∧
    (State.lock s).1.timer = s.timer ∧
    (State.lock s).1.walk = s.walk ∧
    (State.lock s).1.tables = s.tables ∧
    (State.lock s).1.scan = s.scan ∧
    (State.lock s).1.verifier = s.verifier ∧
    (State.lock s).1.arbiter = s.arbiter ∧
    (State.lock s).1.flash = s.flash ∧
    (State.lock s).1.port = s.port ∧
    (State.lock s).1.filter = s.filter ∧
    (State.lock s).1.wipe = s.wipe ∧
    (State.lock s).1.el = s.el ∧
    (State.lock s).1.sl = s.sl ∧
    (State.lock s).1.pending = s.pending := by
  unfold State.lock; (repeat' split) <;> simp

@[simp] theorem State.startWipe_blocks (s : State) :
    (State.startWipe s).1.lines = s.lines ∧
    (State.startWipe s).1.boot = s.boot ∧
    (State.startWipe s).1.gate = s.gate ∧
    (State.startWipe s).1.alerts = s.alerts ∧
    (State.startWipe s).1.timer = s.timer ∧
    (State.startWipe s).1.walk = s.walk ∧
    (State.startWipe s).1.tables = s.tables ∧
    (State.startWipe s).1.scan = s.scan ∧
    (State.startWipe s).1.verifier = s.verifier ∧
    (State.startWipe s).1.arbiter = s.arbiter ∧
    (State.startWipe s).1.flash = s.flash ∧
    (State.startWipe s).1.port = s.port ∧
    (State.startWipe s).1.filter = s.filter ∧
    (State.startWipe s).1.fuse = s.fuse ∧
    (State.startWipe s).1.el = s.el ∧
    (State.startWipe s).1.sl = s.sl ∧
    (State.startWipe s).1.pending = s.pending := by
  unfold State.startWipe; (repeat' split) <;> simp

@[simp] theorem State.startPatrol_blocks (s : State) :
    (State.startPatrol s).1.lines = s.lines ∧
    (State.startPatrol s).1.boot = s.boot ∧
    (State.startPatrol s).1.gate = s.gate ∧
    (State.startPatrol s).1.alerts = s.alerts ∧
    (State.startPatrol s).1.timer = s.timer ∧
    (State.startPatrol s).1.walk = s.walk ∧
    (State.startPatrol s).1.tables = s.tables ∧
    (State.startPatrol s).1.flash = s.flash ∧
    (State.startPatrol s).1.port = s.port ∧
    (State.startPatrol s).1.filter = s.filter ∧
    (State.startPatrol s).1.wipe = s.wipe ∧
    (State.startPatrol s).1.fuse = s.fuse ∧
    (State.startPatrol s).1.el = s.el ∧
    (State.startPatrol s).1.sl = s.sl ∧
    (State.startPatrol s).1.pending = s.pending := by
  unfold State.startPatrol; (repeat' split) <;> simp

@[simp] theorem State.fuseStep_blocks (s : State) :
    (State.fuseStep s).lines = s.lines ∧
    (State.fuseStep s).boot = s.boot ∧
    (State.fuseStep s).gate = s.gate ∧
    (State.fuseStep s).alerts = s.alerts ∧
    (State.fuseStep s).timer = s.timer ∧
    (State.fuseStep s).walk = s.walk ∧
    (State.fuseStep s).tables = s.tables ∧
    (State.fuseStep s).scan = s.scan ∧
    (State.fuseStep s).verifier = s.verifier ∧
    (State.fuseStep s).arbiter = s.arbiter ∧
    (State.fuseStep s).flash = s.flash ∧
    (State.fuseStep s).port = s.port ∧
    (State.fuseStep s).filter = s.filter ∧
    (State.fuseStep s).wipe = s.wipe ∧
    (State.fuseStep s).el = s.el ∧
    (State.fuseStep s).sl = s.sl ∧
    (State.fuseStep s).pending = s.pending := by
  unfold State.fuseStep; dsimp only; (repeat' split) <;> simp

@[simp] theorem State.fuseEnds_blocks (s : State) :
    (State.fuseEnds s).lines = s.lines ∧
    (State.fuseEnds s).boot = s.boot ∧
    (State.fuseEnds s).gate = s.gate ∧
    (State.fuseEnds s).alerts = s.alerts ∧
    (State.fuseEnds s).timer = s.timer ∧
    (State.fuseEnds s).walk = s.walk ∧
    (State.fuseEnds s).tables = s.tables ∧
    (State.fuseEnds s).scan = s.scan ∧
    (State.fuseEnds s).verifier = s.verifier ∧
    (State.fuseEnds s).arbiter = s.arbiter ∧
    (State.fuseEnds s).flash = s.flash ∧
    (State.fuseEnds s).port = s.port ∧
    (State.fuseEnds s).filter = s.filter ∧
    (State.fuseEnds s).el = s.el ∧
    (State.fuseEnds s).sl = s.sl ∧
    (State.fuseEnds s).pending = s.pending := by
  unfold State.fuseEnds; (repeat' split) <;> simp

@[simp] theorem State.supplyFalls_blocks (s : State) :
    (State.supplyFalls s).lines = s.lines ∧
    (State.supplyFalls s).boot = s.boot ∧
    (State.supplyFalls s).gate = s.gate ∧
    (State.supplyFalls s).timer = s.timer ∧
    (State.supplyFalls s).walk = s.walk ∧
    (State.supplyFalls s).tables = s.tables ∧
    (State.supplyFalls s).scan = s.scan ∧
    (State.supplyFalls s).verifier = s.verifier ∧
    (State.supplyFalls s).arbiter = s.arbiter ∧
    (State.supplyFalls s).flash = s.flash ∧
    (State.supplyFalls s).port = s.port ∧
    (State.supplyFalls s).filter = s.filter ∧
    (State.supplyFalls s).fuse = s.fuse ∧
    (State.supplyFalls s).el = s.el ∧
    (State.supplyFalls s).sl = s.sl ∧
    (State.supplyFalls s).pending = s.pending := by
  unfold State.supplyFalls; dsimp only; (repeat' split) <;> simp

@[simp] theorem State.supplyRises_blocks (s : State) :
    (State.supplyRises s).lines = s.lines ∧
    (State.supplyRises s).boot = s.boot ∧
    (State.supplyRises s).gate = s.gate ∧
    (State.supplyRises s).timer = s.timer ∧
    (State.supplyRises s).walk = s.walk ∧
    (State.supplyRises s).tables = s.tables ∧
    (State.supplyRises s).scan = s.scan ∧
    (State.supplyRises s).verifier = s.verifier ∧
    (State.supplyRises s).arbiter = s.arbiter ∧
    (State.supplyRises s).flash = s.flash ∧
    (State.supplyRises s).port = s.port ∧
    (State.supplyRises s).filter = s.filter ∧
    (State.supplyRises s).el = s.el ∧
    (State.supplyRises s).sl = s.sl ∧
    (State.supplyRises s).pending = s.pending := by
  unfold State.supplyRises; dsimp only; (repeat' split) <;> simp

@[simp] theorem State.setBrownOut_blocks (s : State) (below : Bool) :
    (State.setBrownOut s below).boot = s.boot ∧
    (State.setBrownOut s below).gate = s.gate ∧
    (State.setBrownOut s below).alerts = s.alerts ∧
    (State.setBrownOut s below).timer = s.timer ∧
    (State.setBrownOut s below).walk = s.walk ∧
    (State.setBrownOut s below).tables = s.tables ∧
    (State.setBrownOut s below).scan = s.scan ∧
    (State.setBrownOut s below).verifier = s.verifier ∧
    (State.setBrownOut s below).arbiter = s.arbiter ∧
    (State.setBrownOut s below).flash = s.flash ∧
    (State.setBrownOut s below).port = s.port ∧
    (State.setBrownOut s below).filter = s.filter ∧
    (State.setBrownOut s below).wipe = s.wipe ∧
    (State.setBrownOut s below).fuse = s.fuse ∧
    (State.setBrownOut s below).el = s.el ∧
    (State.setBrownOut s below).sl = s.sl ∧
    (State.setBrownOut s below).pending = s.pending := by
  simp [State.setBrownOut]

@[simp] theorem State.powerOn_blocks (s : State) (left : Option (List Word)) :
    (State.powerOn s left).alerts = s.alerts ∧
    (State.powerOn s left).tables = s.tables ∧
    (State.powerOn s left).scan = s.scan ∧
    (State.powerOn s left).filter = s.filter ∧
    (State.powerOn s left).wipe = s.wipe ∧
    (State.powerOn s left).fuse = s.fuse ∧
    (State.powerOn s left).pending = s.pending := by
  unfold State.powerOn; (repeat' split) <;> simp

@[simp] theorem State.nrstFalls_blocks (s : State) :
    (State.nrstFalls s).alerts = s.alerts ∧
    (State.nrstFalls s).tables = s.tables ∧
    (State.nrstFalls s).scan = s.scan ∧
    (State.nrstFalls s).filter = s.filter ∧
    (State.nrstFalls s).wipe = s.wipe ∧
    (State.nrstFalls s).fuse = s.fuse ∧
    (State.nrstFalls s).pending = s.pending := by
  simp [State.nrstFalls]

@[simp] theorem State.brownOutFalls_blocks (s : State) :
    (State.brownOutFalls s).tables = s.tables ∧
    (State.brownOutFalls s).scan = s.scan ∧
    (State.brownOutFalls s).filter = s.filter ∧
    (State.brownOutFalls s).fuse = s.fuse ∧
    (State.brownOutFalls s).pending = s.pending := by
  unfold State.brownOutFalls; dsimp only; (repeat' split) <;> simp

@[simp] theorem State.brownOutRecovers_blocks (s : State) :
    (State.brownOutRecovers s).alerts = s.alerts ∧
    (State.brownOutRecovers s).tables = s.tables ∧
    (State.brownOutRecovers s).scan = s.scan ∧
    (State.brownOutRecovers s).filter = s.filter ∧
    (State.brownOutRecovers s).wipe = s.wipe ∧
    (State.brownOutRecovers s).fuse = s.fuse ∧
    (State.brownOutRecovers s).pending = s.pending := by
  unfold State.brownOutRecovers; (repeat' split) <;> simp

@[simp] theorem State.burstWord_blocks (s : State) (b : Burst) :
    (State.burstWord s b).lines = s.lines ∧
    (State.burstWord s b).boot = s.boot ∧
    (State.burstWord s b).gate = s.gate ∧
    (State.burstWord s b).alerts = s.alerts ∧
    (State.burstWord s b).timer = s.timer ∧
    (State.burstWord s b).walk = s.walk ∧
    (State.burstWord s b).tables = s.tables ∧
    (State.burstWord s b).scan = s.scan ∧
    (State.burstWord s b).arbiter = s.arbiter ∧
    (State.burstWord s b).port = s.port ∧
    (State.burstWord s b).filter = s.filter ∧
    (State.burstWord s b).wipe = s.wipe ∧
    (State.burstWord s b).fuse = s.fuse ∧
    (State.burstWord s b).el = s.el ∧
    (State.burstWord s b).sl = s.sl ∧
    (State.burstWord s b).pending = s.pending := by
  unfold State.burstWord; (repeat' split) <;> simp

@[simp] theorem State.burstBoundary_blocks (s : State) (b : Burst) :
    (State.burstBoundary s b).lines = s.lines ∧
    (State.burstBoundary s b).boot = s.boot ∧
    (State.burstBoundary s b).gate = s.gate ∧
    (State.burstBoundary s b).alerts = s.alerts ∧
    (State.burstBoundary s b).timer = s.timer ∧
    (State.burstBoundary s b).walk = s.walk ∧
    (State.burstBoundary s b).tables = s.tables ∧
    (State.burstBoundary s b).scan = s.scan ∧
    (State.burstBoundary s b).verifier = s.verifier ∧
    (State.burstBoundary s b).flash = s.flash ∧
    (State.burstBoundary s b).port = s.port ∧
    (State.burstBoundary s b).filter = s.filter ∧
    (State.burstBoundary s b).wipe = s.wipe ∧
    (State.burstBoundary s b).fuse = s.fuse ∧
    (State.burstBoundary s b).el = s.el ∧
    (State.burstBoundary s b).sl = s.sl ∧
    (State.burstBoundary s b).pending = s.pending := by
  unfold State.burstBoundary; (repeat' split) <;> simp

@[simp] theorem State.burstAdvances_blocks (s : State) :
    (State.burstAdvances s).lines = s.lines ∧
    (State.burstAdvances s).boot = s.boot ∧
    (State.burstAdvances s).gate = s.gate ∧
    (State.burstAdvances s).alerts = s.alerts ∧
    (State.burstAdvances s).timer = s.timer ∧
    (State.burstAdvances s).walk = s.walk ∧
    (State.burstAdvances s).tables = s.tables ∧
    (State.burstAdvances s).scan = s.scan ∧
    (State.burstAdvances s).port = s.port ∧
    (State.burstAdvances s).filter = s.filter ∧
    (State.burstAdvances s).wipe = s.wipe ∧
    (State.burstAdvances s).fuse = s.fuse ∧
    (State.burstAdvances s).el = s.el ∧
    (State.burstAdvances s).sl = s.sl ∧
    (State.burstAdvances s).pending = s.pending := by
  unfold State.burstAdvances; (repeat' split) <;> simp

@[simp] theorem State.burstCounted_blocks (s : State) (i : Fin 8) :
    (State.burstCounted s i).flash = s.flash ∧
    (State.burstCounted s i).port = s.port ∧
    (State.burstCounted s i).filter = s.filter ∧
    (State.burstCounted s i).wipe = s.wipe ∧
    (State.burstCounted s i).el = s.el ∧
    (State.burstCounted s i).sl = s.sl ∧
    (State.burstCounted s i).pending = s.pending := by
  unfold State.burstCounted; dsimp only; (repeat' split) <;> simp

@[simp] theorem State.burstEnds_blocks (s : State) :
    (State.burstEnds s).port = s.port ∧
    (State.burstEnds s).filter = s.filter ∧
    (State.burstEnds s).wipe = s.wipe ∧
    (State.burstEnds s).el = s.el ∧
    (State.burstEnds s).sl = s.sl ∧
    (State.burstEnds s).pending = s.pending := by
  unfold State.burstEnds; (repeat' split) <;> simp

@[simp] theorem State.sendWrites_blocks (s : State) (q : SequenceRequest) :
    (State.sendWrites s q).lines = s.lines ∧
    (State.sendWrites s q).boot = s.boot ∧
    (State.sendWrites s q).gate = s.gate ∧
    (State.sendWrites s q).alerts = s.alerts ∧
    (State.sendWrites s q).timer = s.timer ∧
    (State.sendWrites s q).walk = s.walk ∧
    (State.sendWrites s q).tables = s.tables ∧
    (State.sendWrites s q).scan = s.scan ∧
    (State.sendWrites s q).verifier = s.verifier ∧
    (State.sendWrites s q).port = s.port ∧
    (State.sendWrites s q).filter = s.filter ∧
    (State.sendWrites s q).wipe = s.wipe ∧
    (State.sendWrites s q).fuse = s.fuse ∧
    (State.sendWrites s q).el = s.el ∧
    (State.sendWrites s q).sl = s.sl ∧
    (State.sendWrites s q).pending = s.pending := by
  simp [State.sendWrites]

@[simp] theorem State.forwardSent_blocks (s : State) (q : SequenceRequest) :
    (State.forwardSent s q).lines = s.lines ∧
    (State.forwardSent s q).boot = s.boot ∧
    (State.forwardSent s q).gate = s.gate ∧
    (State.forwardSent s q).alerts = s.alerts ∧
    (State.forwardSent s q).timer = s.timer ∧
    (State.forwardSent s q).walk = s.walk ∧
    (State.forwardSent s q).tables = s.tables ∧
    (State.forwardSent s q).scan = s.scan ∧
    (State.forwardSent s q).verifier = s.verifier ∧
    (State.forwardSent s q).wipe = s.wipe ∧
    (State.forwardSent s q).fuse = s.fuse ∧
    (State.forwardSent s q).el = s.el ∧
    (State.forwardSent s q).sl = s.sl ∧
    (State.forwardSent s q).pending = s.pending := by
  unfold State.forwardSent; dsimp only; (repeat' split) <;> simp

@[simp] theorem State.maintSent_blocks (s : State) (q : SequenceRequest) :
    (State.maintSent s q).lines = s.lines ∧
    (State.maintSent s q).boot = s.boot ∧
    (State.maintSent s q).gate = s.gate ∧
    (State.maintSent s q).alerts = s.alerts ∧
    (State.maintSent s q).timer = s.timer ∧
    (State.maintSent s q).walk = s.walk ∧
    (State.maintSent s q).tables = s.tables ∧
    (State.maintSent s q).scan = s.scan ∧
    (State.maintSent s q).verifier = s.verifier ∧
    (State.maintSent s q).port = s.port ∧
    (State.maintSent s q).fuse = s.fuse ∧
    (State.maintSent s q).el = s.el ∧
    (State.maintSent s q).sl = s.sl ∧
    (State.maintSent s q).pending = s.pending := by
  unfold State.maintSent; dsimp only; (repeat' split) <;> simp

@[simp] theorem State.settleSent_blocks (s : State) (q : SequenceRequest) :
    (State.settleSent s q).lines = s.lines ∧
    (State.settleSent s q).boot = s.boot ∧
    (State.settleSent s q).gate = s.gate ∧
    (State.settleSent s q).alerts = s.alerts ∧
    (State.settleSent s q).timer = s.timer ∧
    (State.settleSent s q).walk = s.walk ∧
    (State.settleSent s q).tables = s.tables ∧
    (State.settleSent s q).scan = s.scan ∧
    (State.settleSent s q).verifier = s.verifier ∧
    (State.settleSent s q).port = s.port ∧
    (State.settleSent s q).filter = s.filter ∧
    (State.settleSent s q).wipe = s.wipe ∧
    (State.settleSent s q).fuse = s.fuse ∧
    (State.settleSent s q).el = s.el ∧
    (State.settleSent s q).sl = s.sl ∧
    (State.settleSent s q).pending = s.pending := by
  unfold State.settleSent; dsimp only; (repeat' split) <;> simp

@[simp] theorem State.sequenceSent_blocks (s : State) :
    (State.sequenceSent s).lines = s.lines ∧
    (State.sequenceSent s).boot = s.boot ∧
    (State.sequenceSent s).gate = s.gate ∧
    (State.sequenceSent s).alerts = s.alerts ∧
    (State.sequenceSent s).timer = s.timer ∧
    (State.sequenceSent s).walk = s.walk ∧
    (State.sequenceSent s).tables = s.tables ∧
    (State.sequenceSent s).scan = s.scan ∧
    (State.sequenceSent s).verifier = s.verifier ∧
    (State.sequenceSent s).fuse = s.fuse ∧
    (State.sequenceSent s).el = s.el ∧
    (State.sequenceSent s).sl = s.sl ∧
    (State.sequenceSent s).pending = s.pending := by
  unfold State.sequenceSent; (repeat' split) <;> simp

@[simp] theorem State.flashEnds_blocks (s : State) (error : Bool) (left : List Word) :
    (State.flashEnds s error left).lines = s.lines ∧
    (State.flashEnds s error left).boot = s.boot ∧
    (State.flashEnds s error left).gate = s.gate ∧
    (State.flashEnds s error left).alerts = s.alerts ∧
    (State.flashEnds s error left).timer = s.timer ∧
    (State.flashEnds s error left).walk = s.walk ∧
    (State.flashEnds s error left).tables = s.tables ∧
    (State.flashEnds s error left).scan = s.scan ∧
    (State.flashEnds s error left).verifier = s.verifier ∧
    (State.flashEnds s error left).arbiter = s.arbiter ∧
    (State.flashEnds s error left).port = s.port ∧
    (State.flashEnds s error left).filter = s.filter ∧
    (State.flashEnds s error left).wipe = s.wipe ∧
    (State.flashEnds s error left).fuse = s.fuse ∧
    (State.flashEnds s error left).el = s.el ∧
    (State.flashEnds s error left).sl = s.sl ∧
    (State.flashEnds s error left).pending = s.pending := by
  unfold State.flashEnds; (repeat' split) <;> simp

@[simp] theorem State.settleJudged_blocks (s : State) (t : Settle) (j : Judgement) :
    (State.settleJudged s t j).lines = s.lines ∧
    (State.settleJudged s t j).boot = s.boot ∧
    (State.settleJudged s t j).gate = s.gate ∧
    (State.settleJudged s t j).alerts = s.alerts ∧
    (State.settleJudged s t j).timer = s.timer ∧
    (State.settleJudged s t j).walk = s.walk ∧
    (State.settleJudged s t j).tables = s.tables ∧
    (State.settleJudged s t j).scan = s.scan ∧
    (State.settleJudged s t j).verifier = s.verifier ∧
    (State.settleJudged s t j).flash = s.flash ∧
    (State.settleJudged s t j).port = s.port ∧
    (State.settleJudged s t j).filter = s.filter ∧
    (State.settleJudged s t j).wipe = s.wipe ∧
    (State.settleJudged s t j).fuse = s.fuse ∧
    (State.settleJudged s t j).el = s.el ∧
    (State.settleJudged s t j).sl = s.sl ∧
    (State.settleJudged s t j).pending = s.pending := by
  unfold State.settleJudged; (repeat' split) <;> simp

@[simp] theorem State.pollEnds_blocks (s : State) :
    (State.pollEnds s).lines = s.lines ∧
    (State.pollEnds s).boot = s.boot ∧
    (State.pollEnds s).gate = s.gate ∧
    (State.pollEnds s).alerts = s.alerts ∧
    (State.pollEnds s).timer = s.timer ∧
    (State.pollEnds s).walk = s.walk ∧
    (State.pollEnds s).tables = s.tables ∧
    (State.pollEnds s).scan = s.scan ∧
    (State.pollEnds s).verifier = s.verifier ∧
    (State.pollEnds s).port = s.port ∧
    (State.pollEnds s).el = s.el ∧
    (State.pollEnds s).sl = s.sl ∧
    (State.pollEnds s).pending = s.pending := by
  unfold State.pollEnds; dsimp only; (repeat' split) <;> simp

@[simp] theorem State.wipeStarts_blocks (s : State) :
    (State.wipeStarts s).lines = s.lines ∧
    (State.wipeStarts s).boot = s.boot ∧
    (State.wipeStarts s).gate = s.gate ∧
    (State.wipeStarts s).alerts = s.alerts ∧
    (State.wipeStarts s).timer = s.timer ∧
    (State.wipeStarts s).walk = s.walk ∧
    (State.wipeStarts s).tables = s.tables ∧
    (State.wipeStarts s).scan = s.scan ∧
    (State.wipeStarts s).verifier = s.verifier ∧
    (State.wipeStarts s).flash = s.flash ∧
    (State.wipeStarts s).port = s.port ∧
    (State.wipeStarts s).fuse = s.fuse ∧
    (State.wipeStarts s).el = s.el ∧
    (State.wipeStarts s).sl = s.sl ∧
    (State.wipeStarts s).pending = s.pending := by
  unfold State.wipeStarts; (repeat' split) <;> simp

@[simp] theorem State.chunkHashed_blocks (s : State) :
    (State.chunkHashed s).flash = s.flash ∧
    (State.chunkHashed s).filter = s.filter ∧
    (State.chunkHashed s).wipe = s.wipe ∧
    (State.chunkHashed s).sl = s.sl ∧
    (State.chunkHashed s).pending = s.pending := by
  unfold State.chunkHashed; (repeat' split) <;> simp

@[simp] theorem State.listHashed_blocks (s : State) :
    (State.listHashed s).flash = s.flash ∧
    (State.listHashed s).port = s.port ∧
    (State.listHashed s).filter = s.filter ∧
    (State.listHashed s).wipe = s.wipe ∧
    (State.listHashed s).el = s.el ∧
    (State.listHashed s).sl = s.sl ∧
    (State.listHashed s).pending = s.pending := by
  unfold State.listHashed; (repeat' split) <;> simp

@[simp] theorem State.passDone_blocks (s : State) (i : Fin 8) :
    (State.passDone s i).lines = s.lines ∧
    (State.passDone s i).boot = s.boot ∧
    (State.passDone s i).gate = s.gate ∧
    (State.passDone s i).alerts = s.alerts ∧
    (State.passDone s i).timer = s.timer ∧
    (State.passDone s i).walk = s.walk ∧
    (State.passDone s i).tables = s.tables ∧
    (State.passDone s i).scan = s.scan ∧
    (State.passDone s i).arbiter = s.arbiter ∧
    (State.passDone s i).flash = s.flash ∧
    (State.passDone s i).port = s.port ∧
    (State.passDone s i).filter = s.filter ∧
    (State.passDone s i).wipe = s.wipe ∧
    (State.passDone s i).fuse = s.fuse ∧
    (State.passDone s i).el = s.el ∧
    (State.passDone s i).sl = s.sl ∧
    (State.passDone s i).pending = s.pending := by
  simp [State.passDone]

@[simp] theorem State.rootKeyed_blocks (s : State) (k : Bank) (i : Fin 8) (digest : List Byte) :
    (State.rootKeyed s k i digest).flash = s.flash ∧
    (State.rootKeyed s k i digest).port = s.port ∧
    (State.rootKeyed s k i digest).filter = s.filter ∧
    (State.rootKeyed s k i digest).wipe = s.wipe ∧
    (State.rootKeyed s k i digest).el = s.el ∧
    (State.rootKeyed s k i digest).sl = s.sl ∧
    (State.rootKeyed s k i digest).pending = s.pending := by
  unfold State.rootKeyed; (repeat' split) <;> simp

@[simp] theorem State.delegateKeyed_blocks (s : State) (j : DelegateJob) (digest : List Byte) :
    (State.delegateKeyed s j digest).flash = s.flash ∧
    (State.delegateKeyed s j digest).port = s.port ∧
    (State.delegateKeyed s j digest).filter = s.filter ∧
    (State.delegateKeyed s j digest).wipe = s.wipe ∧
    (State.delegateKeyed s j digest).el = s.el ∧
    (State.delegateKeyed s j digest).sl = s.sl ∧
    (State.delegateKeyed s j digest).pending = s.pending := by
  unfold State.delegateKeyed; (repeat' split) <;> simp

@[simp] theorem State.keyHashed_blocks (s : State) :
    (State.keyHashed s).flash = s.flash ∧
    (State.keyHashed s).port = s.port ∧
    (State.keyHashed s).filter = s.filter ∧
    (State.keyHashed s).wipe = s.wipe ∧
    (State.keyHashed s).el = s.el ∧
    (State.keyHashed s).sl = s.sl ∧
    (State.keyHashed s).pending = s.pending := by
  unfold State.keyHashed; (repeat' split) <;> simp

@[simp] theorem State.askCheck_blocks (s : State) (i : Fin 8) (spanHash : List Byte) :
    (State.askCheck s i spanHash).lines = s.lines ∧
    (State.askCheck s i spanHash).boot = s.boot ∧
    (State.askCheck s i spanHash).gate = s.gate ∧
    (State.askCheck s i spanHash).alerts = s.alerts ∧
    (State.askCheck s i spanHash).timer = s.timer ∧
    (State.askCheck s i spanHash).walk = s.walk ∧
    (State.askCheck s i spanHash).tables = s.tables ∧
    (State.askCheck s i spanHash).scan = s.scan ∧
    (State.askCheck s i spanHash).arbiter = s.arbiter ∧
    (State.askCheck s i spanHash).flash = s.flash ∧
    (State.askCheck s i spanHash).port = s.port ∧
    (State.askCheck s i spanHash).filter = s.filter ∧
    (State.askCheck s i spanHash).wipe = s.wipe ∧
    (State.askCheck s i spanHash).fuse = s.fuse ∧
    (State.askCheck s i spanHash).el = s.el ∧
    (State.askCheck s i spanHash).sl = s.sl ∧
    (State.askCheck s i spanHash).pending = s.pending := by
  simp [State.askCheck]

@[simp] theorem State.spanHashed_blocks (s : State) :
    (State.spanHashed s).lines = s.lines ∧
    (State.spanHashed s).gate = s.gate ∧
    (State.spanHashed s).alerts = s.alerts ∧
    (State.spanHashed s).timer = s.timer ∧
    (State.spanHashed s).tables = s.tables ∧
    (State.spanHashed s).scan = s.scan ∧
    (State.spanHashed s).arbiter = s.arbiter ∧
    (State.spanHashed s).flash = s.flash ∧
    (State.spanHashed s).port = s.port ∧
    (State.spanHashed s).filter = s.filter ∧
    (State.spanHashed s).wipe = s.wipe ∧
    (State.spanHashed s).fuse = s.fuse ∧
    (State.spanHashed s).el = s.el ∧
    (State.spanHashed s).sl = s.sl ∧
    (State.spanHashed s).pending = s.pending := by
  unfold State.spanHashed; (repeat' split) <;> simp

@[simp] theorem State.checked_blocks (s : State) (q : CheckRequest) (pass : Bool) :
    (State.checked s q pass).flash = s.flash ∧
    (State.checked s q pass).port = s.port ∧
    (State.checked s q pass).filter = s.filter ∧
    (State.checked s q pass).wipe = s.wipe ∧
    (State.checked s q pass).el = s.el ∧
    (State.checked s q pass).sl = s.sl ∧
    (State.checked s q pass).pending = s.pending := by
  unfold State.checked; (repeat' split) <;> simp

@[simp] theorem State.checkEnds_blocks (s : State) :
    (State.checkEnds s).flash = s.flash ∧
    (State.checkEnds s).port = s.port ∧
    (State.checkEnds s).filter = s.filter ∧
    (State.checkEnds s).wipe = s.wipe ∧
    (State.checkEnds s).el = s.el ∧
    (State.checkEnds s).sl = s.sl ∧
    (State.checkEnds s).pending = s.pending := by
  unfold State.checkEnds; (repeat' split) <;> simp

end Sys2Proof.Machine
end

