-- ==== Sys2Proof/Laws/Lookups.lean ====
section
/-! SUPPORT. What the lookups answer: slots and requests of a changed state, the Window Map of an address, the state's being
live, and the Engine Link's read-ahead. -/

namespace Sys2Proof.Machine

section
variable (c : WindowClass) (loc : Bank × Nat × Nat)
@[simp] theorem Decode.plain_cls : (Decode.plain c loc).cls = c := rfl
@[simp] theorem Decode.plain_loc : (Decode.plain c loc).loc = some loc := rfl
@[simp] theorem Decode.plain_region : (Decode.plain c loc).region = none := rfl
@[simp] theorem Decode.plain_chunk : (Decode.plain c loc).chunk = none := rfl
@[simp] theorem Decode.plain_state : (Decode.plain c loc).state = none := rfl
end

/-- The link's level is low while it is not selected, and after a part reset. -/
theorem ServiceLink.dout_deselected (l : ServiceLink) (h : l.selected = false) (n k : Nat) :
    l.dout n k = false := by simp [ServiceLink.dout, h]

theorem ServiceLink.dout_reset (selected : Bool) (n k : Nat) :
    ({ ServiceLink.reset with selected := selected } : ServiceLink).dout n k = false := by
  simp [ServiceLink.dout, ServiceLink.sends, ServiceLink.reset]

/-- EL_DOUT is held high while the link is not selected; while it is, it sends the outgoing byte. -/
theorem EngineLink.dout_deselected (e : EngineLink) (h : e.selected = false) (k : Nat) : e.dout k = true := by
  simp [EngineLink.dout, h]

theorem EngineLink.dout_selected (e : EngineLink) (h : e.selected = true) (k : Nat) :
    e.dout k = e.out.getMsbD k := by simp [EngineLink.dout, h]

/-- Two states with equal blocks are equal. -/
theorem State.ext_blocks {s t : State} (h1 : s.lines = t.lines) (h2 : s.boot = t.boot) (h3 : s.gate = t.gate)
    (h4 : s.alerts = t.alerts) (h5 : s.timer = t.timer) (h6 : s.walk = t.walk) (h7 : s.tables = t.tables)
    (h8 : s.scan = t.scan) (h9 : s.verifier = t.verifier) (h10 : s.arbiter = t.arbiter) (h11 : s.flash = t.flash)
    (h12 : s.port = t.port) (h13 : s.filter = t.filter) (h14 : s.wipe = t.wipe) (h15 : s.fuse = t.fuse)
    (h16 : s.el = t.el) (h17 : s.sl = t.sl) (h18 : s.pending = t.pending) : s = t := by
  cases s; cases t; simp_all

/-- Whether the part acts depends on its lines and its boot state alone. -/
theorem State.live_eq {s t : State} (h1 : t.lines = s.lines) (h2 : t.boot = s.boot) : t.live = s.live := by
  simp [State.live, h1, h2]

/-- A slot depends on the Chunk Verifier alone. -/
theorem State.slot_eq {s t : State} (h : t.verifier = s.verifier) (i : Fin 8) : t.slot i = s.slot i := by
  simp [State.slot, h]

/-- One entry of a vector of eight after another entry's replacement. -/
theorem vector_set_get {α : Type} (v : Vector α 8) (i j : Fin 8) (x : α) :
    (v.set i x)[j] = if i = j then x else v[j] := by
  by_cases h : i = j
  · subst h; simp
  · have : ¬ (i : Nat) = j := fun e => h (Fin.ext e)
    simp [h, this]

@[simp] theorem mapSlots_get (f : Slot → Slot) (v : Vector Slot 8) (i : Fin 8) : (mapSlots f v)[i] = f v[i] := by
  match i with
  | 0 | 1 | 2 | 3 | 4 | 5 | 6 | 7 => rfl

theorem State.setSlot_slot (s : State) (i j : Fin 8) (v : Slot) :
    (s.setSlot i v).slot j = if i = j then v else s.slot j := by
  simp only [State.setSlot, State.slot, State.withVerifier_verifier]
  exact vector_set_get _ _ _ _

@[simp] theorem State.requestBurst_slot (s : State) (k i : Fin 8) : (s.requestBurst k).slot i = s.slot i := rfl
@[simp] theorem State.withdrawBurst_slot (s : State) (k i : Fin 8) : (s.withdrawBurst k).slot i = s.slot i := rfl
theorem State.refile_slot (s : State) (k i : Fin 8) : (s.refile k).slot i = s.slot i := by
  unfold State.refile; split <;> rfl

/-- A slot whose request waits has it filed again at the class its record gives. -/
theorem State.refile_slotWait {s : State} {i : Fin 8} (h : s.arbiter.slotWait[i].isSome = true) :
    (s.refile i).arbiter.slotWait[i] = some (s.slot i).burstClass := by
  unfold State.refile
  split
  · simp only [State.requestBurst, State.withArbiter_arbiter, vector_set_get, if_true]
  · rename_i hx; simp [hx] at h

theorem State.lowestFree_free {s : State} {i : Fin 8} (h : s.lowestFree = some i) : (s.slot i).state = .free := by
  have := List.find?_some h
  simpa [Slot.inUse] using this

/-- The region found for a chunk is the record at its index, and its range holds the chunk. -/
theorem findRegion_spec {rs : List Region} {i c n : Nat} {r : Region} (h : findRegion rs i c = some (n, r)) :
    i ≤ n ∧ rs[n - i]? = some r ∧ r.holds c = true := by
  induction rs generalizing i with
  | nil => simp [findRegion] at h
  | cons q qs ih =>
    simp only [findRegion] at h
    split at h
    · simp at h; obtain ⟨rfl, rfl⟩ := h; simp; assumption
    · have := ih h
      refine ⟨by omega, ?_, this.2.2⟩
      have e : n - i = (n - (i + 1)) + 1 := by omega
      rw [e]; simpa using this.2.1

theorem Region.holds_iff (r : Region) (c : Nat) : r.holds c = true ↔ r.base ≤ c ∧ c < r.base + r.count := by
  simp [Region.holds]

/-- The first record that holds a chunk is the one found (R57). -/
theorem findRegion_first {rs : List Region} {i c n : Nat} {r : Region} (h : rs[n]? = some r) (hr : r.holds c = true)
    (hf : ∀ m q, m < n → rs[m]? = some q → q.holds c = false) : findRegion rs i c = some (i + n, r) := by
  induction rs generalizing i n with
  | nil => simp at h
  | cons q rs ih =>
    cases n with
    | zero =>
      simp only [List.getElem?_cons_zero, Option.some.injEq] at h
      subst h; simp [findRegion, hr]
    | succ n =>
      have := hf 0 q (by omega) rfl
      simp only [findRegion, this, Bool.false_eq_true, if_false]
      rw [ih (i := i + 1) (by simpa using h) fun m x hm hx => hf (m + 1) x (by omega) (by simpa using hx)]
      congr 2; omega

theorem findRegion_none {rs : List Region} {i c : Nat} (h : ∀ r ∈ rs, r.holds c = false) : findRegion rs i c = none := by
  induction rs generalizing i with
  | nil => rfl
  | cons q rs ih =>
    simp only [findRegion, h q List.mem_cons_self, Bool.false_eq_true, if_false]
    exact ih fun r hr => h r (List.mem_cons_of_mem _ hr)

/-- The first ENGINE-flagged record is the one found (R42). -/
theorem findEngine_first {rs : List Region} {i n : Nat} {g : ImageRegion} (h : rs[n]? = some (.image g))
    (hg : g.engine = true) (hf : ∀ m x, m < n → rs[m]? = some (Region.image x) → x.engine = false) :
    findEngine rs i = some (i + n, g) := by
  induction rs generalizing i n with
  | nil => simp at h
  | cons q rs ih =>
    cases n with
    | zero =>
      simp only [List.getElem?_cons_zero, Option.some.injEq] at h
      subst h; simp [findEngine, hg]
    | succ n =>
      have go : findEngine rs (i + 1) = some (i + (n + 1), g) := by
        rw [ih (i := i + 1) (by simpa using h) fun m x hm hx => hf (m + 1) x (by omega) (by simpa using hx)]
        congr 2; omega
      cases q with
      | data d => simpa only [findEngine] using go
      | image x => simp only [findEngine, hf 0 x (by omega) rfl, Bool.false_eq_true, if_false, go]

theorem findEngine_none {rs : List Region} {i : Nat} (h : ∀ g, Region.image g ∈ rs → g.engine = false) :
    findEngine rs i = none := by
  induction rs generalizing i with
  | nil => rfl
  | cons q rs ih =>
    have go := ih (i := i + 1) fun g hg => h g (List.mem_cons_of_mem _ hg)
    cases q with
    | data d => exact go
    | image x => simp only [findEngine, h x List.mem_cons_self, Bool.false_eq_true, if_false, go]

theorem State.windowMap_released {s : State} {a : Addr} {b : Bank} (h : s.boot.state = .released)
    (hb : s.boot.active = some b) : s.windowMap a = s.decodeMapped b a.toNat := by simp [State.windowMap, h, hb]

theorem State.windowMap_transparent {s : State} {a : Addr} (h : s.boot.state = .transparent) :
    s.windowMap a = s.decodeTransparent a.toNat := by simp [State.windowMap, h]

/-- A decode with a chunk state is IMAGE_CHUNK in the active half, and names the chunk whose state it gives. -/
theorem State.windowMap_chunk {s : State} {a : Addr} {b : Bank} {st : ChunkState} (h : s.boot.state = .released)
    (hb : s.boot.active = some b) (hs : (s.windowMap a).state = some st) :
    (s.windowMap a).cls = .imageChunk ∧ (s.windowMap a).loc = some (b, a.toNat, s.flashAddr b a.toNat) ∧
    a.toNat < s.bankWords ∧ ∃ c g, (s.windowMap a).chunk = some c ∧ s.tables.image c.region = some g ∧
      c.record = g.first + c.index ∧ s.tables.chunkState c.record = st := by
  rw [windowMap_released h hb] at hs ⊢
  unfold State.decodeMapped at hs ⊢
  simp only at hs ⊢
  by_cases h1 : a.toNat < s.bankWords
  · simp only [h1, if_true] at hs ⊢
    unfold State.decodeActive at hs ⊢
    simp only at hs ⊢
    split at hs
    · simp at hs
    · rename_i h2
      simp only [h2, if_false]
      split at hs <;> simp_all
      rename_i heq
      have := findRegion_spec heq
      simp [Tables.image] at *
      rw [this.1]; exact ⟨_, rfl, rfl⟩
  · simp only [h1, if_false] at hs
    split at hs <;> simp [Decode.nowhere] at hs

/-- An address with a flash word in RELEASED is of one of five classes. -/
theorem State.windowMap_loc {s : State} {a : Addr} {x : Bank × Nat × Nat} (h : s.boot.state = .released)
    (hl : (s.windowMap a).loc = some x) :
    (s.windowMap a).cls = .imageChunk ∨ (s.windowMap a).cls = .data ∨ (s.windowMap a).cls = .manifest ∨
    (s.windowMap a).cls = .uncovered ∨ (s.windowMap a).cls = .inactive := by
  cases hb : s.boot.active with
  | none => simp [State.windowMap, h, hb, Decode.nowhere] at hl
  | some b =>
    rw [windowMap_released h hb] at hl ⊢
    unfold State.decodeMapped at hl ⊢
    simp only at hl ⊢
    by_cases h1 : a.toNat < s.bankWords
    · simp only [h1, if_true]
      unfold State.decodeActive; simp only
      split
      · simp
      · split <;> simp
    · simp only [h1, if_false] at hl ⊢
      by_cases h2 : a.toNat < 2 * s.bankWords
      · simp [h2]
      · simp [h2, Decode.nowhere] at hl

/-- Read-ahead changes nothing, or makes the one request it makes into an empty ahead buffer. -/
theorem State.readAhead_spec (s : State) : s.readAhead = s ∨ (s.el.ahead = .empty ∧ s.live = true ∧ ∃ w r,
    s.readAhead = (s.withEl { s.el with ahead := .pending w }).withArbiter { s.arbiter with elWait := some r }) := by
  unfold State.readAhead
  split
  · simp only
    split
    · rename_i h
      simp at h
      right; exact ⟨h.1.1.1.1.2, h.1.1.1.1.1, _, _, rfl⟩
    · left; rfl
  · left; rfl

theorem State.readAhead_of_full {s : State} (h : s.el.ahead ≠ .empty) : s.readAhead = s := by
  rcases s.readAhead_spec with h1 | ⟨h1, _⟩
  · exact h1
  · exact absurd h1 h

/-- A write of the Controller Port that reaches the tracker and is refused leaves what R121 gives. -/
theorem State.refuse_spec (s : State) (r : Reason) (a : Addr) (v : Word) :
    (s.refuse r a v).filter.violations = min (s.filter.violations + 1) 65535 ∧
    (s.refuse r a v).filter.capture = s.filter.capture.or
      (some { reason := r, addr := a, value := v, boot := s.boot.state, gate := s.gate.state }) ∧
    (s.refuse r a v).filter.op = s.filter.op ∧
    ((s.refuse r a v).filter.tracker.state = .flashBusy ↔ s.filter.tracker.state = .flashBusy) := by
  by_cases hf : s.filter.tracker.state = .flashBusy <;>
  · cases hc : s.filter.capture <;>
      simp [State.refuse, hc, Filter.violation, hf, State.setTracker, Tracker.idle]

end Sys2Proof.Machine
end

