-- ==== Sys2Proof/Laws/Memory.lean ====
section
/-! SUPPORT. The sparse memory: every operation keeps the canonical form, and a read after a write or a clear. -/

namespace Sys2Proof.Machine

/-- A key is above a bound. -/
def aboveBound (lo : Option Nat) (a : Nat) : Prop := ∀ l, lo = some l → l < a

theorem Memory.wfAbove_cons (d : Byte) (lo : Option Nat) (k : Nat) (v : Byte) (m : Memory) :
    Memory.wfAbove d lo ((k, v) :: m) = true ↔ aboveBound lo k ∧ v ≠ d ∧ Memory.wfAbove d (some k) m = true := by
  cases lo <;> simp [Memory.wfAbove, aboveBound, and_assoc]

theorem Memory.wfAbove_lower {d : Byte} {m : Memory} {lo lo' : Option Nat}
    (h : Memory.wfAbove d lo m = true) (hl : ∀ a, aboveBound lo a → aboveBound lo' a) :
    Memory.wfAbove d lo' m = true := by
  cases m with
  | nil => rfl
  | cons c m =>
    obtain ⟨k, v⟩ := c
    rw [Memory.wfAbove_cons] at h ⊢
    exact ⟨hl k h.1, h.2⟩

theorem Memory.wfAbove_write {d : Byte} {m : Memory} {a : Nat} {v : Byte} :
    ∀ {lo : Option Nat}, Memory.wfAbove d lo m = true → aboveBound lo a →
      Memory.wfAbove d lo (Memory.write d m a v) = true := by
  induction m with
  | nil =>
    intro lo _ ha
    unfold Memory.write
    split
    · rfl
    · rename_i hv; rw [Memory.wfAbove_cons]; exact ⟨ha, hv, rfl⟩
  | cons c m ih =>
    obtain ⟨k, w⟩ := c
    intro lo h ha
    unfold Memory.write
    have h' := (Memory.wfAbove_cons _ _ _ _ _).1 h
    split
    · rename_i hak
      split
      · exact h
      · rename_i hv
        rw [Memory.wfAbove_cons]
        refine ⟨ha, hv, ?_⟩
        rw [Memory.wfAbove_cons]
        exact ⟨fun l hl => by cases hl; exact hak, h'.2⟩
    · split
      · rename_i hak
        subst hak
        split
        · exact Memory.wfAbove_lower h'.2.2 fun b hb l hl => lt_trans (h'.1 l hl) (hb _ rfl)
        · rename_i hv
          rw [Memory.wfAbove_cons]
          exact ⟨h'.1, hv, h'.2.2⟩
      · rename_i h1 h2
        rw [Memory.wfAbove_cons]
        refine ⟨h'.1, h'.2.1, ih h'.2.2 fun l hl => ?_⟩
        cases hl; omega

/-- A write keeps the canonical form. -/
theorem Memory.write_wf {d : Byte} {m : Memory} {a : Nat} {v : Byte} (h : Memory.wf d m = true) :
    Memory.wf d (Memory.write d m a v) = true :=
  Memory.wfAbove_write h fun _ hl => by cases hl

theorem Memory.writeWord_wf {d : Byte} {m : Memory} {a : Nat} {w : Word} (h : Memory.wf d m = true) :
    Memory.wf d (Memory.writeWord d m a w) = true :=
  Memory.write_wf (Memory.write_wf h)

theorem Memory.writeWords_wf {d : Byte} {ws : List Word} :
    ∀ {m : Memory} {a : Nat}, Memory.wf d m = true → Memory.wf d (Memory.writeWords d m a ws) = true := by
  induction ws with
  | nil => intro m a h; exact h
  | cons w ws ih => intro m a h; exact ih (Memory.writeWord_wf h)

theorem Memory.wfAbove_filter {d : Byte} {p : Host.Cell → Bool} {m : Memory} :
    ∀ {lo : Option Nat}, Memory.wfAbove d lo m = true → Memory.wfAbove d lo (m.filter p) = true := by
  induction m with
  | nil => intro lo h; exact h
  | cons c m ih =>
    obtain ⟨k, w⟩ := c
    intro lo h
    have h' := (Memory.wfAbove_cons _ _ _ _ _).1 h
    rw [List.filter_cons]
    split
    · rw [Memory.wfAbove_cons]; exact ⟨h'.1, h'.2.1, ih h'.2.2⟩
    · exact ih (Memory.wfAbove_lower h'.2.2 fun b hb l hl => lt_trans (h'.1 l hl) (hb _ rfl))

/-- Clearing a range keeps the canonical form. -/
theorem Memory.clear_wf {d : Byte} {m : Memory} {lo hi : Nat} (h : Memory.wf d m = true) :
    Memory.wf d (Memory.clear m lo hi) = true :=
  Memory.wfAbove_filter h

/-- Below the listed addresses a read gives the unlisted byte. -/
theorem Memory.read_below {d : Byte} {m : Memory} {a : Nat} :
    ∀ {l : Nat}, Memory.wfAbove d (some l) m = true → a ≤ l → Memory.read d m a = d := by
  induction m with
  | nil => intro l _ _; rfl
  | cons c m ih =>
    obtain ⟨k, w⟩ := c
    intro l h hal
    have h' := (Memory.wfAbove_cons _ _ _ _ _).1 h
    have hk := h'.1 l rfl
    have hne : k ≠ a := by omega
    simp only [Memory.read, hne, if_false]
    exact ih h'.2.2 (by omega)

theorem Memory.read_write_above {d : Byte} {m : Memory} {a b : Nat} {v : Byte} :
    ∀ {lo : Option Nat}, Memory.wfAbove d lo m = true →
      Memory.read d (Memory.write d m a v) b = if a = b then v else Memory.read d m b := by
  induction m with
  | nil =>
    intro lo _
    unfold Memory.write
    split
    · rename_i hv; subst hv; simp [Memory.read]
    · simp [Memory.read]
  | cons c m ih =>
    obtain ⟨k, w⟩ := c
    intro lo h
    have h' := (Memory.wfAbove_cons _ _ _ _ _).1 h
    unfold Memory.write
    split
    · rename_i hak
      split
      · rename_i hv
        subst hv
        by_cases hab : a = b
        · subst hab
          have hne : k ≠ a := by omega
          rw [if_pos rfl]
          simp only [Memory.read, hne, if_false]
          exact Memory.read_below h'.2.2 (by omega)
        · rw [if_neg hab]
      · simp [Memory.read]
    · split
      · rename_i hak
        subst hak
        split
        · rename_i hv
          subst hv
          by_cases hab : a = b
          · subst hab; rw [if_pos rfl]; exact Memory.read_below h'.2.2 le_rfl
          · rw [if_neg hab]; simp [Memory.read, hab]
        · by_cases hab : a = b <;> simp [Memory.read, hab]
      · rename_i h1 h2
        simp only [Memory.read]
        by_cases hkb : k = b
        · have hab : a ≠ b := by omega
          simp [hkb, hab]
        · simp only [hkb, if_false]
          exact ih h'.2.2

/-- What a write leaves at every address. -/
theorem Memory.read_write {d : Byte} {m : Memory} {a b : Nat} {v : Byte} (h : Memory.wf d m = true) :
    Memory.read d (Memory.write d m a v) b = if a = b then v else Memory.read d m b :=
  Memory.read_write_above h

theorem highByte_append_lowByte (w : Word) : highByte w ++ lowByte w = w := by
  unfold highByte lowByte
  ext i hi
  simp
  grind

/-- What a word write leaves at every word address. -/
theorem Memory.readWord_writeWord {d : Byte} {m : Memory} {a b : Nat} {w : Word} (h : Memory.wf d m = true) :
    Memory.readWord d (Memory.writeWord d m a w) b = if a = b then w else Memory.readWord d m b := by
  have h1 := Memory.write_wf (a := 2 * a) (v := lowByte w) h
  unfold Memory.readWord Memory.writeWord
  simp only [Memory.read_write h1, Memory.read_write h]
  by_cases hab : a = b
  · subst hab
    have hne : ¬ (2 * a + 1 = 2 * a) := by omega
    simp only [hne, if_false, if_true, highByte_append_lowByte]
  · have h2 : ¬ (2 * a + 1 = 2 * b + 1) := by omega
    have h3 : ¬ (2 * a = 2 * b + 1) := by omega
    have h4 : ¬ (2 * a + 1 = 2 * b) := by omega
    have h5 : ¬ (2 * a = 2 * b) := by omega
    simp only [h2, h3, h4, h5, hab, if_false]

/-- What clearing a range of byte addresses leaves at every address. -/
theorem Memory.read_clear {d : Byte} {lo hi b : Nat} {m : Memory} :
    ∀ {bd : Option Nat}, Memory.wfAbove d bd m = true →
      Memory.read d (Memory.clear m lo hi) b = if lo ≤ b ∧ b < hi then d else Memory.read d m b := by
  induction m with
  | nil => intro bd _; simp [Memory.clear, Memory.read]
  | cons c m ih =>
    obtain ⟨k, w⟩ := c
    intro bd h
    have h' := (Memory.wfAbove_cons _ _ _ _ _).1 h
    have hi' := ih h'.2.2
    unfold Memory.clear at hi' ⊢
    rw [List.filter_cons]
    split
    · rename_i hk
      simp only [Memory.read]
      by_cases hkb : k = b
      · subst hkb
        have : ¬ (lo ≤ k ∧ k < hi) := by simp at hk; omega
        simp [this]
      · simp only [hkb, if_false]; exact hi'
    · rename_i hk
      rw [hi']
      by_cases hkb : k = b
      · subst hkb
        have : lo ≤ k ∧ k < hi := by simp at hk; omega
        simp [this]
      · simp [Memory.read, hkb]

end Sys2Proof.Machine
end

