-- ==== Sys2Proof/Laws/Buffers.lean ====
section
/-! SUPPORT. The slot buffers: every operation of the Chunk Verifier but the storing of a burst's word leaves them as they
are. -/

namespace Sys2Proof.Machine

/-- The buffers of the eight slots, slot 0 first. -/
def Verifier.buffers (v : Verifier) : List Memory :=
  [v.slots[0].buffer, v.slots[1].buffer, v.slots[2].buffer, v.slots[3].buffer, v.slots[4].buffer, v.slots[5].buffer,
   v.slots[6].buffer, v.slots[7].buffer]

/-- Two verifiers have the same buffers where each slot has. -/
theorem Verifier.buffers_eq {v w : Verifier} (h : ∀ i : Fin 8, v.slots[i].buffer = w.slots[i].buffer) :
    v.buffers = w.buffers := by
  have h0 := h 0; have h1 := h 1; have h2 := h 2; have h3 := h 3
  have h4 := h 4; have h5 := h 5; have h6 := h 6; have h7 := h 7
  simp only [Verifier.buffers]
  simp_all

/-- A slot's buffer is the one at its number. -/
theorem Verifier.buffers_get (v : Verifier) (i : Fin 8) : v.buffers[i.val]? = some v.slots[i].buffer := by
  match i with
  | 0 | 1 | 2 | 3 | 4 | 5 | 6 | 7 => rfl

theorem Verifier.buffers_slots {v w : Verifier} (h : v.buffers = w.buffers) (i : Fin 8) :
    v.slots[i].buffer = w.slots[i].buffer := by
  have := v.buffers_get i
  rw [h, w.buffers_get i] at this
  simpa using this.symm

/-- Replacing a slot by one with the same buffer. -/
theorem State.setSlot_buffers (s : State) (i : Fin 8) (v : Slot) (h : v.buffer = (s.slot i).buffer) :
    (s.setSlot i v).verifier.buffers = s.verifier.buffers := by
  apply Verifier.buffers_eq
  intro j
  have := s.setSlot_slot i j v
  simp only [State.slot] at this h
  rw [this]
  split
  · rename_i e; rw [← e]; exact h
  · rfl

@[simp] theorem Verifier.buffers_with (v : Verifier) (q : List (Fin 8)) (e : Option (Fin 8)) (c w : Option CheckRequest)
    (d : Option PendingDemand) :
    ({ slots := v.slots, hashQueue := q, engine := e, checking := c, checkWaiting := w, pendingDemand := d } :
      Verifier).buffers = v.buffers := rfl

@[simp] theorem State.takeSlot_buffers (s : State) (i : Fin 8) (purpose : Purpose) (content : Content) (waiter : Option Nat) (flag : Bool) :
    (State.takeSlot s i purpose content waiter flag).verifier.buffers = s.verifier.buffers := by
  simp only [State.takeSlot, State.requestBurst_blocks]
  exact s.setSlot_buffers i _ rfl

@[simp] theorem State.freeSlot_buffers (s : State) (i : Fin 8) :
    (State.freeSlot s i).verifier.buffers = s.verifier.buffers := by
  simp only [State.freeSlot, State.withdrawBurst_blocks, State.withVerifier_verifier]
  apply Verifier.buffers_eq
  intro j
  simp only [vector_set_get]
  split
  · rename_i e; rw [← e]; rfl
  · split
    · rw [mapSlots_get]; unfold Slot.lowerOrder; split
      · split <;> rfl
      · rfl
    · rfl

@[simp] theorem State.engineNext_buffers (s : State) :
    (State.engineNext s).verifier.buffers = s.verifier.buffers := by
  unfold State.engineNext
  split
  · simp only [State.withVerifier_verifier, Verifier.buffers_with]
    exact s.setSlot_buffers _ _ rfl
  · rfl

@[simp] theorem State.engineIdle_buffers (s : State) :
    (State.engineIdle s).verifier.buffers = s.verifier.buffers := by
  simp [State.engineIdle]

@[simp] theorem State.enqueue_buffers (s : State) (i : Fin 8) :
    (State.enqueue s i).verifier.buffers = s.verifier.buffers := by
  simp only [State.enqueue, State.engineNext_buffers, State.withVerifier_verifier, Verifier.buffers_with]
  exact s.setSlot_buffers i _ rfl

@[simp] theorem State.holdSlot_buffers (s : State) (i : Fin 8) :
    (State.holdSlot s i).verifier.buffers = s.verifier.buffers := by
  exact s.setSlot_buffers i _ rfl

@[simp] theorem State.claimIntake_buffers (s : State) (purpose : Purpose) (bank : Bank) (chunk : Nat) :
    (State.claimIntake s purpose bank chunk).1.verifier.buffers = s.verifier.buffers := by
  unfold State.claimIntake; (repeat' split) <;> simp

@[simp] theorem State.joinSlot_buffers (s : State) (i : Fin 8) (waiter : Option Nat) :
    (State.joinSlot s i waiter).verifier.buffers = s.verifier.buffers := by
  simp only [State.joinSlot, State.refile_blocks]
  apply s.setSlot_buffers
  split <;> rfl

@[simp] theorem State.claimScan_buffers (s : State) (purpose : Purpose) (region index : Nat) :
    (State.claimScan s purpose region index).1.verifier.buffers = s.verifier.buffers := by
  unfold State.claimScan; (repeat' split) <;> simp

@[simp] theorem State.scanSteps_buffers (fuel : Nat) (s : State) :
    (State.scanSteps fuel s).verifier.buffers = s.verifier.buffers := by
  induction fuel generalizing s with
  | zero => rfl
  | succ n ih =>
    unfold State.scanSteps
    split
    · rfl
    · rfl
    · dsimp only
      split
      · simp [ih]
      · simp [ih]
      · rename_i pos chunk _ _ purpose r _
        have h := State.claimScan_buffers s purpose r chunk
        split <;> rename_i heq <;> rw [heq] at h <;> simp_all

@[simp] theorem State.scanResume_buffers (s : State) :
    (State.scanResume s).verifier.buffers = s.verifier.buffers := by
  unfold State.scanResume; (repeat' split) <;> simp

@[simp] theorem State.startPass_buffers (s : State) (p : Pass) :
    (State.startPass s p).verifier.buffers = s.verifier.buffers := by
  simp [State.startPass]

@[simp] theorem State.takePending_buffers (s : State) (i : Fin 8) (d : PendingDemand) :
    (State.takePending s i d).verifier.buffers = s.verifier.buffers := by
  simp [State.takePending]

@[simp] theorem State.releaseSlot_buffers (s : State) (i : Fin 8) :
    (State.releaseSlot s i).verifier.buffers = s.verifier.buffers := by
  unfold State.releaseSlot; dsimp only; (repeat' split) <;> simp

@[simp] theorem State.rewind_buffers (s : State) (purpose : Option Purpose) (content : Option Content) :
    (State.rewind s purpose content).verifier.buffers = s.verifier.buffers := by
  unfold State.rewind; (repeat' split) <;> simp

@[simp] theorem State.preempt_buffers (s : State) (i : Fin 8) (region index : Nat) (waiter : Option Nat) :
    (State.preempt s i region index waiter).verifier.buffers = s.verifier.buffers := by
  simp [State.preempt]

@[simp] theorem State.setPending_buffers (s : State) (d : PendingDemand) :
    (State.setPending s d).verifier.buffers = s.verifier.buffers := by
  simp [State.setPending]

@[simp] theorem State.claimPending_buffers (s : State) (region index : Nat) (waiter : Option Nat) :
    (State.claimPending s region index waiter).1.verifier.buffers = s.verifier.buffers := by
  unfold State.claimPending; (repeat' split) <;> simp

@[simp] theorem State.claimDemand_buffers (s : State) (fromCp : Bool) (region index : Nat) (waiter : Option Nat) :
    (State.claimDemand s fromCp region index waiter).1.verifier.buffers = s.verifier.buffers := by
  unfold State.claimDemand; (repeat' split) <;> simp

@[simp] theorem State.abandonSlots_buffers (s : State) (keep : Option (Fin 8)) :
    (State.abandonSlots s keep).verifier.buffers = s.verifier.buffers := by
  have h : ∀ (v : Vector Slot 8) (l : List (Fin 8)) (w : Vector Slot 8), (∀ j : Fin 8, w[j].buffer = v[j].buffer) →
      ∀ j : Fin 8, (l.foldl (fun (w : Vector Slot 8) i =>
        if keep = some i then w.set i { w[i] with order := some 1 } else w.set i w[i].abandoned) w)[j].buffer =
        v[j].buffer := by
    intro v l
    induction l with
    | nil => intro w h; exact h
    | cons k l ih =>
      intro w h
      simp only [List.foldl_cons]
      apply ih
      intro j
      split
      · rw [vector_set_get]; split
        · rename_i e; rw [← e]; exact h k
        · exact h j
      · rw [vector_set_get]; split
        · rename_i e; rw [← e]; exact h k
        · exact h j
  exact Verifier.buffers_eq fun j => h s.verifier.slots allSlots s.verifier.slots (fun _ => rfl) j

@[simp] theorem State.enterNoBank_buffers (s : State) :
    (State.enterNoBank s).verifier.buffers = s.verifier.buffers := by
  simp [State.enterNoBank]

@[simp] theorem State.stopBlocks_buffers (s : State) :
    (State.stopBlocks s).verifier.buffers = s.verifier.buffers := by
  simp [State.stopBlocks]

@[simp] theorem State.enterHalted_buffers (s : State) :
    (State.enterHalted s).verifier.buffers = s.verifier.buffers := by
  simp [State.enterHalted]

@[simp] theorem State.beginReset_buffers (s : State) (cause : ResetCause) :
    (State.beginReset s cause).verifier.buffers = s.verifier.buffers := by
  unfold State.beginReset; (repeat' split) <;> simp

@[simp] theorem State.startSelecting_buffers (s : State) :
    (State.startSelecting s).verifier.buffers = s.verifier.buffers := by
  simp [State.startSelecting]

@[simp] theorem State.releaseReserve_buffers (s : State) :
    (State.releaseReserve s).verifier.buffers = s.verifier.buffers := by
  unfold State.releaseReserve; (repeat' split) <;> simp

@[simp] theorem State.enterReleased_buffers (s : State) :
    (State.enterReleased s).verifier.buffers = s.verifier.buffers := by
  unfold State.enterReleased; dsimp only; (repeat' split) <;> simp

@[simp] theorem State.enterPreverify_buffers (s : State) :
    (State.enterPreverify s).verifier.buffers = s.verifier.buffers := by
  unfold State.enterPreverify; dsimp only; (repeat' split) <;> simp

@[simp] theorem State.claimPiece_buffers (s : State) (j : ListJob) :
    (State.claimPiece s j).verifier.buffers = s.verifier.buffers := by
  unfold State.claimPiece; (repeat' split) <;> simp

@[simp] theorem State.takeImage_buffers (s : State) (m : Memory) (i : Nat) (f : Frame) (cls : ImageClass) :
    (State.takeImage s m i f cls).verifier.buffers = s.verifier.buffers := by
  simp [State.takeImage]

@[simp] theorem State.processImage_buffers (s : State) (m : Memory) (i : Nat) (f : Frame) :
    (State.processImage s m i f).verifier.buffers = s.verifier.buffers := by
  unfold State.processImage; dsimp only; (repeat' split) <;> simp

@[simp] theorem State.claimDelegate_buffers (s : State) (m : Memory) (i : Nat) :
    (State.claimDelegate s m i).verifier.buffers = s.verifier.buffers := by
  have h := fun b => State.claimIntake_buffers s .manifest b (entryManifestLoc m i / chunkWords)
  unfold State.claimDelegate
  split
  · rfl
  · rename_i b _
    have h := h b
    split <;> rename_i heq <;> rw [heq] at h <;> simpa using h

@[simp] theorem State.processDelegate_buffers (s : State) (m : Memory) (i : Nat) (f : Frame) :
    (State.processDelegate s m i f).verifier.buffers = s.verifier.buffers := by
  unfold State.processDelegate; (repeat' split) <;> simp

@[simp] theorem State.rejectDelegate_buffers (s : State) (j : DelegateJob) :
    (State.rejectDelegate s j).verifier.buffers = s.verifier.buffers := by
  simp [State.rejectDelegate]

@[simp] theorem State.popFrame_buffers (s : State) (f : Frame) (rest : List Frame) :
    (State.popFrame s f rest).verifier.buffers = s.verifier.buffers := by
  simp [State.popFrame]

@[simp] theorem State.walkStep_buffers (s : State) :
    (State.walkStep s).verifier.buffers = s.verifier.buffers := by
  unfold State.walkStep; dsimp only; (repeat' split) <;> simp

@[simp] theorem State.walkRun_buffers (fuel : Nat) (s : State) :
    (State.walkRun fuel s).verifier.buffers = s.verifier.buffers := by
  induction fuel generalizing s with
  | zero => simp [State.walkRun]
  | succ n ih =>
    unfold State.walkRun
    (repeat' split) <;> simp_all

@[simp] theorem State.abandonBank_buffers (s : State) :
    (State.abandonBank s).verifier.buffers = s.verifier.buffers := by
  simp [State.abandonBank]

@[simp] theorem State.fallback_buffers (s : State) :
    (State.fallback s).verifier.buffers = s.verifier.buffers := by
  unfold State.fallback; dsimp only; (repeat' split) <;> simp

@[simp] theorem State.walkOn_buffers (fuel : Nat) (s : State) :
    (State.walkOn fuel s).verifier.buffers = s.verifier.buffers := by
  induction fuel generalizing s with
  | zero => rfl
  | succ n ih =>
    unfold State.walkOn
    dsimp only
    split <;> simp_all

@[simp] theorem State.walkOnAll_buffers (s : State) :
    (State.walkOnAll s).verifier.buffers = s.verifier.buffers := by
  simp [State.walkOnAll]

@[simp] theorem State.fallbackAndWalk_buffers (s : State) :
    (State.fallbackAndWalk s).verifier.buffers = s.verifier.buffers := by
  simp [State.fallbackAndWalk]

@[simp] theorem State.endSelecting_buffers (s : State) :
    (State.endSelecting s).verifier.buffers = s.verifier.buffers := by
  unfold State.endSelecting; dsimp only; (repeat' split) <;> simp

@[simp] theorem State.rejectRoot_buffers (s : State) (k : Bank) (i : Fin 8) :
    (State.rejectRoot s k i).verifier.buffers = s.verifier.buffers := by
  simp [State.rejectRoot]

@[simp] theorem State.askPass_buffers (s : State) (k : Bank) (i : Fin 8) (st : JudgeStep) (digest : List Byte) :
    (State.askPass s k i st digest).verifier.buffers = s.verifier.buffers := by
  simp [State.askPass]

@[simp] theorem State.rootFilled_buffers (s : State) (k : Bank) (i : Fin 8) :
    (State.rootFilled s k i).verifier.buffers = s.verifier.buffers := by
  unfold State.rootFilled; (repeat' split) <;> simp

@[simp] theorem State.dropDelegate_buffers (s : State) (j : DelegateJob) :
    (State.dropDelegate s j).verifier.buffers = s.verifier.buffers := by
  simp [State.dropDelegate]

@[simp] theorem State.delegateFilled_buffers (s : State) (j : DelegateJob) :
    (State.delegateFilled s j).verifier.buffers = s.verifier.buffers := by
  unfold State.delegateFilled; (repeat' split) <;> simp

@[simp] theorem State.manifestFilled_buffers (s : State) (i : Fin 8) :
    (State.manifestFilled s i).verifier.buffers = s.verifier.buffers := by
  unfold State.manifestFilled; (repeat' split) <;> simp

@[simp] theorem State.regionChanged_buffers (s : State) (g : ImageRegion) :
    (State.regionChanged s g).verifier.buffers = s.verifier.buffers := by
  unfold State.regionChanged; (repeat' split) <;> simp

@[simp] theorem State.takeVerdict_buffers (s : State) (region index : Nat) (digest : List Byte) :
    (State.takeVerdict s region index digest).verifier.buffers = s.verifier.buffers := by
  unfold State.takeVerdict; dsimp only; (repeat' split) <;> simp

@[simp] theorem State.completeHash_buffers (s : State) (i : Fin 8) (region index : Nat) :
    (State.completeHash s i region index).verifier.buffers = s.verifier.buffers := by
  unfold State.completeHash; (repeat' split) <;> simp

@[simp] theorem State.finishList_buffers (s : State) (j : ListJob) :
    (State.finishList s j).verifier.buffers = s.verifier.buffers := by
  unfold State.finishList; (repeat' split) <;> simp

@[simp] theorem State.pieceHashed_buffers (s : State) (i : Fin 8) (j : ListJob) :
    (State.pieceHashed s i j).verifier.buffers = s.verifier.buffers := by
  unfold State.pieceHashed; dsimp only; (repeat' split) <;> simp

@[simp] theorem State.endHeldRead_buffers (s : State) :
    (State.endHeldRead s).verifier.buffers = s.verifier.buffers := by
  unfold State.endHeldRead
  split
  · dsimp only
    split
    · rfl
    · apply Verifier.buffers_eq
      intro i
      simp only [State.withVerifier_verifier, Verifier.dropWaiter, mapSlots_get, State.withPort_verifier]
      unfold Slot.dropWaiter
      split <;> rfl
  · rfl
  · rfl
  · rfl
  · rfl

@[simp] theorem State.intakeExpires_buffers (s : State) :
    (State.intakeExpires s).verifier.buffers = s.verifier.buffers := by
  unfold State.intakeExpires; dsimp only; (repeat' split) <;> simp

@[simp] theorem State.patrolExpires_buffers (s : State) :
    (State.patrolExpires s).verifier.buffers = s.verifier.buffers := by
  unfold State.patrolExpires; dsimp only; (repeat' split) <;> simp

@[simp] theorem State.tickTimer_buffers (s : State) :
    (State.tickTimer s).verifier.buffers = s.verifier.buffers := by
  unfold State.tickTimer; (repeat' split) <;> simp

@[simp] theorem State.tick_buffers (s : State) :
    (State.tick s).verifier.buffers = s.verifier.buffers := by
  simp [State.tick]

@[simp] theorem State.crstAsserts_buffers (s : State) :
    (State.crstAsserts s).verifier.buffers = s.verifier.buffers := by
  simp [State.crstAsserts]

@[simp] theorem State.stallRead_buffers (s : State) (a : Addr) (d : Decode) (c : ChunkRef) :
    (State.stallRead s a d c).verifier.buffers = s.verifier.buffers := by
  unfold State.stallRead; (repeat' split) <;> simp

@[simp] theorem State.fillRead_buffers (s : State) (c : ChunkRef) :
    (State.fillRead s c).verifier.buffers = s.verifier.buffers := by
  simp [State.fillRead]

@[simp] theorem State.imageRead_buffers (s : State) (a : Addr) (d : Decode) :
    (State.imageRead s a d).verifier.buffers = s.verifier.buffers := by
  unfold State.imageRead; (repeat' split) <;> simp

@[simp] theorem State.readByClass_buffers (s : State) (a : Addr) :
    (State.readByClass s a).verifier.buffers = s.verifier.buffers := by
  unfold State.readByClass; dsimp only; (repeat' split) <;> simp

@[simp] theorem State.readArrives_buffers (s : State) (a : Addr) :
    (State.readArrives s a).verifier.buffers = s.verifier.buffers := by
  unfold State.readArrives; (repeat' split) <;> simp

@[simp] theorem State.readByte_buffers (s : State) (p : Nat) (window : Bool) :
    (State.readByte s p window).verifier.buffers = s.verifier.buffers := by
  unfold State.readByte; (repeat' split) <;> simp

@[simp] theorem State.readBoundary_buffers (s : State) (p : Nat) (window : Bool) :
    (State.readBoundary s p window).verifier.buffers = s.verifier.buffers := by
  simp [State.readBoundary]

@[simp] theorem State.elBoundary_buffers (s : State) :
    (State.elBoundary s).verifier.buffers = s.verifier.buffers := by
  unfold State.elBoundary; (repeat' split) <;> simp

@[simp] theorem State.startPatrol_buffers (s : State) :
    (State.startPatrol s).1.verifier.buffers = s.verifier.buffers := by
  unfold State.startPatrol; (repeat' split) <;> simp

@[simp] theorem State.powerOn_buffers (s : State) (left : Option (List Word)) :
    (State.powerOn s left).verifier.buffers = s.verifier.buffers := by
  unfold State.powerOn; (repeat' split) <;> simp

@[simp] theorem State.nrstFalls_buffers (s : State) :
    (State.nrstFalls s).verifier.buffers = s.verifier.buffers := by
  simp [State.nrstFalls]

@[simp] theorem State.brownOutFalls_buffers (s : State) :
    (State.brownOutFalls s).verifier.buffers = s.verifier.buffers := by
  unfold State.brownOutFalls; dsimp only; (repeat' split) <;> simp

@[simp] theorem State.brownOutRecovers_buffers (s : State) :
    (State.brownOutRecovers s).verifier.buffers = s.verifier.buffers := by
  unfold State.brownOutRecovers; (repeat' split) <;> simp

@[simp] theorem State.burstCounted_buffers (s : State) (i : Fin 8) :
    (State.burstCounted s i).verifier.buffers = s.verifier.buffers := by
  have h : (s.setSlot i { s.slot i with bursts := (s.slot i).bursts + 1 }).verifier.buffers = s.verifier.buffers :=
    s.setSlot_buffers i _ rfl
  unfold State.burstCounted
  dsimp only
  split
  · simpa using h
  · split <;> simpa using h

@[simp] theorem State.chunkHashed_buffers (s : State) :
    (State.chunkHashed s).verifier.buffers = s.verifier.buffers := by
  unfold State.chunkHashed; (repeat' split) <;> simp

@[simp] theorem State.listHashed_buffers (s : State) :
    (State.listHashed s).verifier.buffers = s.verifier.buffers := by
  unfold State.listHashed; (repeat' split) <;> simp

@[simp] theorem State.passDone_buffers (s : State) (i : Fin 8) :
    (State.passDone s i).verifier.buffers = s.verifier.buffers := by
  simp [State.passDone]

@[simp] theorem State.rootKeyed_buffers (s : State) (k : Bank) (i : Fin 8) (digest : List Byte) :
    (State.rootKeyed s k i digest).verifier.buffers = s.verifier.buffers := by
  unfold State.rootKeyed; (repeat' split) <;> simp

@[simp] theorem State.delegateKeyed_buffers (s : State) (j : DelegateJob) (digest : List Byte) :
    (State.delegateKeyed s j digest).verifier.buffers = s.verifier.buffers := by
  unfold State.delegateKeyed; (repeat' split) <;> simp

@[simp] theorem State.keyHashed_buffers (s : State) :
    (State.keyHashed s).verifier.buffers = s.verifier.buffers := by
  unfold State.keyHashed; (repeat' split) <;> simp

@[simp] theorem State.askCheck_buffers (s : State) (i : Fin 8) (spanHash : List Byte) :
    (State.askCheck s i spanHash).verifier.buffers = s.verifier.buffers := by
  simp only [State.askCheck, State.withVerifier_verifier, Verifier.requestCheck]
  split <;> rfl

@[simp] theorem State.spanHashed_buffers (s : State) :
    (State.spanHashed s).verifier.buffers = s.verifier.buffers := by
  unfold State.spanHashed; (repeat' split) <;> simp

@[simp] theorem State.checked_buffers (s : State) (q : CheckRequest) (pass : Bool) :
    (State.checked s q pass).verifier.buffers = s.verifier.buffers := by
  unfold State.checked; (repeat' split) <;> simp

@[simp] theorem State.checkEnds_buffers (s : State) :
    (State.checkEnds s).verifier.buffers = s.verifier.buffers := by
  unfold State.checkEnds
  split
  · simp [Verifier.nextCheck]
  · rfl

end Sys2Proof.Machine
end

