-- ==== Sys2Proof/Laws/Cells.lean ====
section
/-! SUPPORT. The flash array: every operation but the end of a flash operation and the flash's own power-up leaves its words
as they are. -/

namespace Sys2Proof.Machine

@[simp] theorem Flash.setBank_cells (f : Flash) (b : Bank) (v : FlashBank) : (f.setBank b v).cells = f.cells := by
  cases b <;> rfl

@[simp] theorem Flash.read_cells (words : Nat) (f : Flash) (addr : Nat) : (Flash.read words f addr).2.cells = f.cells := by
  unfold Flash.read
  dsimp only
  split <;> simp

@[simp] theorem Flash.start_cells (f : Flash) (b : Bank) (op : FlashOp) : (f.start b op).cells = f.cells := by
  unfold Flash.start
  dsimp only
  split
  · rfl
  · split <;> simp

@[simp] theorem Flash.resetBank_cells (f : Flash) (b : Bank) : (f.resetBank b).cells = f.cells := by
  unfold Flash.resetBank
  dsimp only
  split <;> simp

@[simp] theorem Flash.write_cells (words : Nat) (f : Flash) (addr : Nat) (value : Word) :
    (f.write words addr value).cells = f.cells := by
  unfold Flash.write
  dsimp only
  split
  · rfl
  · split
    · rfl
    · split <;> rfl
    · split
      · split
        · rfl
        · split
          · rfl
          · split
            · simp
            · rfl
      · rfl
    · split
      · simp
      · rfl
    · split
      · simp
      · rfl

@[simp] theorem Flash.writes_cells (words : Nat) (f : Flash) (ws : List (Nat × Word)) :
    (Flash.writes words f ws).cells = f.cells := by
  induction ws generalizing f with
  | nil => rfl
  | cons w ws ih => simp [Flash.writes, ih]

@[simp] theorem State.readFlash_cells (s : State) (addr : Nat) :
    (State.readFlash s addr).2.flash.cells = s.flash.cells := by
  simp [State.readFlash]

@[simp] theorem State.grantPoll_cells (s : State) :
    (State.grantPoll s).flash.cells = s.flash.cells := by
  unfold State.grantPoll; (repeat' split) <;> simp

@[simp] theorem State.grantByClass_cells (s : State) :
    (State.grantByClass s).flash.cells = s.flash.cells := by
  unfold State.grantByClass; (repeat' split) <;> simp

@[simp] theorem State.grantRequest_cells (s : State) :
    (State.grantRequest s).flash.cells = s.flash.cells := by
  unfold State.grantRequest; (repeat' split) <;> simp

@[simp] theorem State.grantSettle_cells (s : State) (t : Settle) :
    (State.grantSettle s t).flash.cells = s.flash.cells := by
  unfold State.grantSettle; (repeat' split) <;> simp

@[simp] theorem State.grant_cells (s : State) :
    (State.grant s).flash.cells = s.flash.cells := by
  unfold State.grant; (repeat' split) <;> simp

@[simp] theorem State.finishAccess_cells (s : State) :
    (State.finishAccess s).flash.cells = s.flash.cells := by
  unfold State.finishAccess; (repeat' split) <;> simp

@[simp] theorem State.stopPort_cells (s : State) :
    (State.stopPort s).flash.cells = s.flash.cells := by
  simp [State.stopPort]

@[simp] theorem State.stopBlocks_cells (s : State) :
    (State.stopBlocks s).flash.cells = s.flash.cells := by
  simp [State.stopBlocks]

@[simp] theorem State.enterHalted_cells (s : State) :
    (State.enterHalted s).flash.cells = s.flash.cells := by
  simp [State.enterHalted]

@[simp] theorem State.beginReset_cells (s : State) (cause : ResetCause) :
    (State.beginReset s cause).flash.cells = s.flash.cells := by
  unfold State.beginReset; (repeat' split) <;> simp

@[simp] theorem State.cpReturns_cells (s : State) :
    (State.cpReturns s).flash.cells = s.flash.cells := by
  unfold State.cpReturns; dsimp only; (repeat' split) <;> simp

@[simp] theorem State.elReturns_cells (s : State) :
    (State.elReturns s).flash.cells = s.flash.cells := by
  unfold State.elReturns; (repeat' split) <;> simp

@[simp] theorem State.nrstFalls_cells (s : State) :
    (State.nrstFalls s).flash.cells = s.flash.cells := by
  simp [State.nrstFalls]

@[simp] theorem State.brownOutFalls_cells (s : State) :
    (State.brownOutFalls s).flash.cells = s.flash.cells := by
  unfold State.brownOutFalls; dsimp only; (repeat' split) <;> simp

@[simp] theorem State.brownOutRecovers_cells (s : State) :
    (State.brownOutRecovers s).flash.cells = s.flash.cells := by
  unfold State.brownOutRecovers; (repeat' split) <;> simp

@[simp] theorem State.burstWord_cells (s : State) (b : Burst) :
    (State.burstWord s b).flash.cells = s.flash.cells := by
  unfold State.burstWord; (repeat' split) <;> simp

@[simp] theorem State.burstAdvances_cells (s : State) :
    (State.burstAdvances s).flash.cells = s.flash.cells := by
  unfold State.burstAdvances; (repeat' split) <;> simp

@[simp] theorem State.burstEnds_cells (s : State) :
    (State.burstEnds s).flash.cells = s.flash.cells := by
  unfold State.burstEnds; (repeat' split) <;> simp

@[simp] theorem State.sendWrites_cells (s : State) (q : SequenceRequest) :
    (State.sendWrites s q).flash.cells = s.flash.cells := by
  simp [State.sendWrites]

@[simp] theorem State.forwardSent_cells (s : State) (q : SequenceRequest) :
    (State.forwardSent s q).flash.cells = s.flash.cells := by
  unfold State.forwardSent; dsimp only; (repeat' split) <;> simp

@[simp] theorem State.maintSent_cells (s : State) (q : SequenceRequest) :
    (State.maintSent s q).flash.cells = s.flash.cells := by
  unfold State.maintSent; dsimp only; (repeat' split) <;> simp

@[simp] theorem State.settleSent_cells (s : State) (q : SequenceRequest) :
    (State.settleSent s q).flash.cells = s.flash.cells := by
  unfold State.settleSent; dsimp only; (repeat' split) <;> simp

@[simp] theorem State.sequenceSent_cells (s : State) :
    (State.sequenceSent s).flash.cells = s.flash.cells := by
  unfold State.sequenceSent; (repeat' split) <;> simp

@[simp] theorem State.pollEnds_cells (s : State) :
    (State.pollEnds s).flash.cells = s.flash.cells := by
  unfold State.pollEnds; dsimp only; (repeat' split) <;> simp

end Sys2Proof.Machine
end

