-- ==== Sys2Proof/Laws/Clock.lean ====
section
/-! SUPPORT. The slow tick: an expiry leaves the counter at 0 and the part acting, and what each part of a tick does. -/

namespace Sys2Proof.Machine

/-! ## The expiries -/

theorem State.intakeExpires_counter {s : State} (h : s.timerFor .intake = true) : s.intakeExpires.timer.counter = 0 := by
  simp only [State.intakeExpires, h, if_true]; split <;> rfl

theorem State.bootExpires_counter {s : State} (h : s.timerFor .bootDeadline = true) : s.bootExpires.timer.counter = 0 := by
  simp only [State.bootExpires, h, if_true]; split
  · simp only [State.latchGate]; split <;> simp [State.timerWraps, State.stopTimer]
  · rfl

theorem State.patrolExpires_counter {s : State} (h : s.timerFor .patrol = true) : s.patrolExpires.timer.counter = 0 := by
  simp only [State.patrolExpires, h, if_true]; split
  · simp [State.timerWraps]
  · rfl

theorem State.intakeExpires_live {s : State} (h : s.live = true) : s.intakeExpires.live = true := by
  have hl := (State.intakeExpires_blocks s).1
  have hb : s.intakeExpires.boot.state = .noBank ∨ s.intakeExpires.boot = s.boot := by
    unfold State.intakeExpires; dsimp only
    split
    · split
      · exact .inl rfl
      · exact .inr rfl
    · exact .inr rfl
  unfold State.live at h ⊢
  rw [hl]
  rcases hb with hb | hb
  · rw [hb]; simp at h ⊢; exact h.1
  · rw [hb]; exact h

theorem State.bootExpires_live {s : State} (h : s.live = true) : s.bootExpires.live = true := by
  rw [State.live_eq (s := s) (by simp) (by simp)]; exact h

theorem State.patrolExpires_live {s : State} (h : s.live = true) : s.patrolExpires.live = true := by
  rw [State.live_eq (s := s) (by simp) (by simp)]; exact h

/-! ## The parts of a tick -/

theorem State.tickTimer_live {s : State} (h : s.live = true) : s.tickTimer.live = true := by
  unfold State.tickTimer
  split
  · split
    · split
      · exact State.intakeExpires_live h
      · exact State.bootExpires_live h
      · exact State.patrolExpires_live h
    · exact h
  · exact h

theorem State.tickGate_live {s : State} (h : s.live = true) : s.tickGate.live = true := by
  unfold State.tickGate State.pgateToggles
  split <;> try split
  all_goals exact h

/-- The tick at which a running timer does not expire, and the one at which it does (R165). -/
theorem State.tickTimer_counts {s : State} (h : s.live = true) (hr : s.timer.running = true)
    (hc : s.timer.counter + 1 < s.timer.compare) :
    s.tickTimer = s.withTimer { s.timer with counter := s.timer.counter + 1 } := by
  simp [State.tickTimer, hr, h, Nat.not_le.2 hc]

theorem State.tickTimer_expires {s : State} (h : s.live = true) (hr : s.timer.running = true)
    (hc : s.timer.counter + 1 = s.timer.compare) :
    s.tickTimer = match s.timer.purpose with
      | .intake => s.intakeExpires
      | .bootDeadline => s.bootExpires
      | .patrol => s.patrolExpires := by
  have h1 : (s.live && s.timer.running) = true := by rw [h, hr]; rfl
  simp only [State.tickTimer, if_pos h1, if_pos (Nat.le_of_eq hc.symm)] <;> cases s.timer.purpose <;> rfl

end Sys2Proof.Machine
end

