-- ==== Sys2Proof/Laws/Grants.lean ====
section
/-! SUPPORT. What may be granted, in the terms of Safety.lean: each of them is what the Flash Arbiter computes, and what the
arbiter's choice of a slot answers. -/

namespace Sys2Proof.Machine

/-- The Controller Port's request may be granted exactly where the arbiter computes so. -/
theorem State.cpOpen_iff (s : State) : s.cpOpen ↔ s.cpGrantable = true := by
  unfold State.cpOpen State.cpGrantable
  cases s.arbiter.cpWait with
  | none => simp
  | some c =>
    cases c with
    | read r => cases h : s.bankCond r.bank <;> simp [h]
    | sequence q => simp

theorem State.elOpen_iff (s : State) : s.elOpen ↔ s.elGrantable = true := by
  unfold State.elOpen State.elGrantable
  cases s.arbiter.elWait <;> simp

theorem State.slotOpen_iff (s : State) (c : BurstClass) (i : Fin 8) : s.slotOpen c i ↔ s.burstGrantable c i = true := by
  unfold State.slotOpen State.burstGrantable
  rcases h : s.slotAddr i with _ | ⟨b, base⟩ <;> simp

theorem State.pollOpen_iff (s : State) : s.pollOpen ↔ s.pollGrantable = true := by
  unfold State.pollOpen State.pollGrantable
  cases s.arbiter.pollWait <;> simp

theorem State.maintOpen_iff (s : State) : s.maintOpen ↔ s.maintGrantable = true := by
  unfold State.maintOpen State.maintGrantable
  cases s.arbiter.maintWait <;> simp

/-- The parked burst may resume exactly where the arbiter finds it ready. -/
theorem State.parkedOpen_iff (s : State) : s.parkedOpen ↔ s.parkedReady.isSome = true := by
  unfold State.parkedOpen State.parkedReady
  cases h : s.arbiter.parked with
  | none => simp
  | some b => by_cases hb : s.bankCond b.bank = .idle <;> simp [hb]

theorem State.portFree_iff (s : State) : s.portFree ↔ s.live = true ∧ s.arbiter.access = none ∧
    (s.arbiter.settle.all fun t => decide (t.step ≠ .resetDue ∧ t.step ≠ .pollDue)) = true := by
  unfold State.portFree
  cases s.arbiter.settle <;> simp

/-- The slot picked may be granted, and none is picked exactly where none may. -/
theorem State.pickSlot_spec (s : State) (c : BurstClass) (p : Fin 8) :
    (∀ i, s.pickSlot c p = some i → s.burstGrantable c i = true) ∧
    (s.pickSlot c p = none ↔ ∀ i, s.burstGrantable c i = false) := by
  have mem : ∀ i : Fin 8, i ∈ allSlots := by decide
  unfold State.pickSlot
  simp only
  cases h : (allSlots.filter (s.burstGrantable c)).find? fun i => decide (p < i) with
  | some j =>
    have hj := (List.mem_filter.mp (List.mem_of_find?_eq_some h)).2
    refine ⟨fun i hi => by simp at hi; exact hi ▸ hj, ?_⟩
    simp only [reduceCtorEq, false_iff]
    exact fun hn => by simp [hn j] at hj
  | none =>
    simp only
    refine ⟨fun i hi => (List.mem_filter.mp (List.mem_of_mem_head? hi)).2, ?_⟩
    rw [List.head?_eq_none_iff, List.filter_eq_nil_iff]
    exact ⟨fun hn i => by simpa using hn i (mem i), fun hn i _ => by simp [hn i]⟩

/-- A free port with no settling access due grants a request. -/
theorem State.grant_of_portFree {s : State} (h : s.portFree) : s.grant = s.grantRequest := by
  obtain ⟨h1, h2, h3⟩ := h
  unfold State.grant
  simp only [h1, h2, Option.isNone_none, Bool.and_true, if_true]
  cases hs : s.arbiter.settle with
  | none => rfl
  | some t =>
    have := h3 t hs
    unfold State.grantSettle
    cases ht : t.step <;> simp_all

/-- What the grant is when it falls to class 3 or below. -/
theorem State.grant_of_class3Turn {s : State} (h : s.class3Turn) : s.grant =
    (match s.pickSlot .class3 s.arbiter.rr3 with
    | some i => s.grantBurst .class3 i
    | none =>
      if s.pollGrantable then s.grantPoll
      else match s.pickSlot .class5 s.arbiter.rr5 with
        | some i => s.grantBurst .class5 i
        | none => if s.maintGrantable then s.grantMaint else s) := by
  obtain ⟨h1, h2, h3, h4, h5⟩ := h
  rw [grant_of_portFree h1]
  rw [cpOpen_iff, Bool.not_eq_true] at h2
  rw [elOpen_iff, Bool.not_eq_true] at h3
  rw [parkedOpen_iff] at h4
  have h4' : s.parkedReady = none := by simpa using h4
  unfold State.grantRequest State.urgentGrantable State.grantByClass
  simp only [h2, h3, h4', h5, Bool.or_false, Bool.false_eq_true, if_false] <;> rfl

/-- What the grant is when it falls to class 5 or below. -/
theorem State.grant_of_class5Turn {s : State} (h : s.class5Turn) : s.grant =
    (match s.pickSlot .class5 s.arbiter.rr5 with
    | some i => s.grantBurst .class5 i
    | none => if s.maintGrantable then s.grantMaint else s) := by
  obtain ⟨h1, h2, h3⟩ := h
  rw [grant_of_class3Turn h1]
  have : s.pickSlot .class3 s.arbiter.rr3 = none := by
    rw [(s.pickSlot_spec .class3 _).2]
    intro i
    have := h2 i
    rw [slotOpen_iff] at this
    simpa using this
  rw [pollOpen_iff] at h3
  simp [this, h3]

/-- The grant of a slot's burst, as one update of the arbiter. -/
theorem State.grantBurst_eq {s : State} {c : BurstClass} {i : Fin 8} {b : Bank} {base : Nat}
    (h : s.slotAddr i = some (b, base)) :
    s.grantBurst c i = s.withArbiter
      { s.arbiter with
        slotWait := s.arbiter.slotWait.set i none
        rr3 := if c = .class3 then i else s.arbiter.rr3
        rr5 := if c = .class5 then i else s.arbiter.rr5
        access := some (.burst { slot := i, bank := b, base := base + 64 * (s.slot i).bursts,
                                 number := (s.slot i).bursts, read := 0, fate := .live }) } := by
  cases c <;> simp [State.grantBurst, h, State.withAccess, burstWords]

end Sys2Proof.Machine
end

