-- ==== Sys2Proof/Laws/Engine.lean ====
section
/-! SUPPORT. The work of the hash engine and the signature unit: claims, the Scanner and the walker leave it, a fallback and
entry to NO_BANK end it, so that after the walker has run on, no more work waits than before. -/

namespace Sys2Proof.Machine

/-- The hash queue, what the engine hashes, and the signature unit's requests. -/
def Verifier.work (v : Verifier) : List (Fin 8) × Option (Fin 8) × Option CheckRequest × Option CheckRequest :=
  (v.hashQueue, v.engine, v.checking, v.checkWaiting)

@[simp] theorem Verifier.work_with (v : Verifier) (slots : Vector Slot 8) (d : Option PendingDemand) :
    ({ v with slots := slots, pendingDemand := d } : Verifier).work = v.work := rfl

@[simp] theorem State.setSlot_work (s : State) (i : Fin 8) (v : Slot) : (s.setSlot i v).verifier.work = s.verifier.work :=
  rfl

@[simp] theorem State.takeSlot_work (s : State) (i : Fin 8) (purpose : Purpose) (content : Content) (waiter : Option Nat)
    (flag : Bool) : (s.takeSlot i purpose content waiter flag).verifier.work = s.verifier.work := rfl

@[simp] theorem State.freeSlot_work (s : State) (i : Fin 8) : (s.freeSlot i).verifier.work = s.verifier.work := rfl

@[simp] theorem State.claimIntake_work (s : State) (purpose : Purpose) (bank : Bank) (chunk : Nat) :
    (State.claimIntake s purpose bank chunk).1.verifier.work = s.verifier.work := by
  unfold State.claimIntake; (repeat' split) <;> simp

@[simp] theorem State.joinSlot_work (s : State) (i : Fin 8) (waiter : Option Nat) :
    (State.joinSlot s i waiter).verifier.work = s.verifier.work := by
  simp only [State.joinSlot, State.refile_blocks]
  apply s.setSlot_work

@[simp] theorem State.claimScan_work (s : State) (purpose : Purpose) (region index : Nat) :
    (State.claimScan s purpose region index).1.verifier.work = s.verifier.work := by
  unfold State.claimScan; (repeat' split) <;> simp

@[simp] theorem State.scanSteps_work (fuel : Nat) (s : State) :
    (State.scanSteps fuel s).verifier.work = s.verifier.work := by
  induction fuel generalizing s with
  | zero => rfl
  | succ n ih =>
    unfold State.scanSteps
    split
    · rfl
    · rfl
    · dsimp only
      split
      · simp [ih]
      · simp [ih]
      · rename_i pos chunk _ _ purpose r _
        have h := State.claimScan_work s purpose r chunk
        split <;> rename_i heq <;> rw [heq] at h <;> simp_all

@[simp] theorem State.scanResume_work (s : State) :
    (State.scanResume s).verifier.work = s.verifier.work := by
  unfold State.scanResume; (repeat' split) <;> simp

@[simp] theorem State.startPass_work (s : State) (p : Pass) :
    (State.startPass s p).verifier.work = s.verifier.work := by
  simp [State.startPass]

@[simp] theorem State.takePending_work (s : State) (i : Fin 8) (d : PendingDemand) :
    (State.takePending s i d).verifier.work = s.verifier.work := by
  simp [State.takePending]

@[simp] theorem State.releaseSlot_work (s : State) (i : Fin 8) :
    (State.releaseSlot s i).verifier.work = s.verifier.work := by
  unfold State.releaseSlot; dsimp only; (repeat' split) <;> simp

@[simp] theorem State.rewind_work (s : State) (purpose : Option Purpose) (content : Option Content) :
    (State.rewind s purpose content).verifier.work = s.verifier.work := by
  unfold State.rewind; (repeat' split) <;> simp

@[simp] theorem State.preempt_work (s : State) (i : Fin 8) (region index : Nat) (waiter : Option Nat) :
    (State.preempt s i region index waiter).verifier.work = s.verifier.work := by
  simp [State.preempt]

@[simp] theorem State.releaseReserve_work (s : State) :
    (State.releaseReserve s).verifier.work = s.verifier.work := by
  unfold State.releaseReserve; (repeat' split) <;> simp

@[simp] theorem State.enterReleased_work (s : State) :
    (State.enterReleased s).verifier.work = s.verifier.work := by
  unfold State.enterReleased; dsimp only; (repeat' split) <;> simp

@[simp] theorem State.enterPreverify_work (s : State) :
    (State.enterPreverify s).verifier.work = s.verifier.work := by
  unfold State.enterPreverify; dsimp only; (repeat' split) <;> simp

@[simp] theorem State.claimPiece_work (s : State) (j : ListJob) :
    (State.claimPiece s j).verifier.work = s.verifier.work := by
  unfold State.claimPiece; (repeat' split) <;> simp

@[simp] theorem State.takeImage_work (s : State) (m : Memory) (i : Nat) (f : Frame) (cls : ImageClass) :
    (State.takeImage s m i f cls).verifier.work = s.verifier.work := by
  simp [State.takeImage]

@[simp] theorem State.processImage_work (s : State) (m : Memory) (i : Nat) (f : Frame) :
    (State.processImage s m i f).verifier.work = s.verifier.work := by
  unfold State.processImage; dsimp only; (repeat' split) <;> simp

@[simp] theorem State.claimDelegate_work (s : State) (m : Memory) (i : Nat) :
    (State.claimDelegate s m i).verifier.work = s.verifier.work := by
  have h := fun b => State.claimIntake_work s .manifest b (entryManifestLoc m i / chunkWords)
  unfold State.claimDelegate
  split
  · rfl
  · rename_i b _
    have h := h b
    split <;> rename_i heq <;> rw [heq] at h <;> simpa using h

@[simp] theorem State.processDelegate_work (s : State) (m : Memory) (i : Nat) (f : Frame) :
    (State.processDelegate s m i f).verifier.work = s.verifier.work := by
  unfold State.processDelegate; (repeat' split) <;> simp

@[simp] theorem State.rejectDelegate_work (s : State) (j : DelegateJob) :
    (State.rejectDelegate s j).verifier.work = s.verifier.work := by
  simp [State.rejectDelegate]

@[simp] theorem State.popFrame_work (s : State) (f : Frame) (rest : List Frame) :
    (State.popFrame s f rest).verifier.work = s.verifier.work := by
  simp [State.popFrame]

@[simp] theorem State.walkStep_work (s : State) :
    (State.walkStep s).verifier.work = s.verifier.work := by
  unfold State.walkStep; dsimp only; (repeat' split) <;> simp

@[simp] theorem State.walkRun_work (fuel : Nat) (s : State) :
    (State.walkRun fuel s).verifier.work = s.verifier.work := by
  induction fuel generalizing s with
  | zero => simp [State.walkRun]
  | succ n ih =>
    unfold State.walkRun
    (repeat' split) <;> simp_all

/-- Abandonment ends all of it (R75). -/
@[simp] theorem State.abandonSlots_work (s : State) (keep : Option (Fin 8)) :
    (s.abandonSlots keep).verifier.work = ([], none, none, none) := rfl

@[simp] theorem State.fallback_work (s : State) : s.fallback.verifier.work = ([], none, none, none) := by
  unfold State.fallback
  dsimp only
  split <;> rfl

theorem State.walkOn_work (fuel : Nat) (s : State) : (State.walkOn fuel s).verifier.work = s.verifier.work ∨
    (State.walkOn fuel s).verifier.work = ([], none, none, none) := by
  induction fuel generalizing s with
  | zero => exact Or.inl rfl
  | succ n ih =>
    unfold State.walkOn
    dsimp only
    split
    · left; simp
    · have := ih (State.walkRun s.walkFuel s).fallback
      simp at this
      exact Or.inr this
    · left; simp

/-- After the walker has run on, the engine and the signature unit have their work still, or none. -/
theorem State.walkOnAll_work (s : State) : s.walkOnAll.verifier.work = s.verifier.work ∨
    s.walkOnAll.verifier.work = ([], none, none, none) := State.walkOn_work _ s

theorem State.endSelecting_work (s : State) : s.endSelecting.verifier.work = s.verifier.work ∨
    s.endSelecting.verifier.work = ([], none, none, none) := by
  unfold State.endSelecting
  split
  · dsimp only
    split
    · right; rfl
    · exact State.walkOnAll_work _
  · exact Or.inl rfl

/-- The engine has nothing to take where the queue is empty. -/
theorem State.engineNext_of_empty {s : State} (h : s.verifier.hashQueue = []) : s.engineNext = s := by
  unfold State.engineNext
  simp [h]

theorem State.engineNext_walkOnAll {s : State} (h : s.verifier.hashQueue = []) : s.walkOnAll.engineNext = s.walkOnAll := by
  apply State.engineNext_of_empty
  rcases s.walkOnAll_work with e | e
  · have := congrArg (·.1) e
    exact (show s.walkOnAll.verifier.hashQueue = s.verifier.hashQueue from this).trans h
  · exact congrArg (·.1) e

theorem State.engineNext_endSelecting {s : State} (h : s.verifier.hashQueue = []) :
    s.endSelecting.engineNext = s.endSelecting := by
  apply State.engineNext_of_empty
  rcases s.endSelecting_work with e | e
  · have := congrArg (·.1) e
    exact (show s.endSelecting.verifier.hashQueue = s.verifier.hashQueue from this).trans h
  · exact congrArg (·.1) e

end Sys2Proof.Machine
end

