-- ==== Sys2Proof/Laws/Walk.lean ====
section
/-! SUPPORT. The walker running on: it takes one step after the other for as long as it goes, brings the fallback where the
walk ended with a fault, and does nothing where it waits. The fuel of its loops is always enough. -/

namespace Sys2Proof.Machine

theorem State.walkGoes_iff (s : State) :
    s.walkGoes = true ↔ s.boot.state = .walking ∧ s.walk.job = .none ∧ s.walk.outcome = none := by
  unfold State.walkGoes
  cases s.walk.outcome <;> simp

/-- The fuel of the walker's steps depends on the stack and the manifests in its slots. -/
theorem State.walkFuel_eq {s t : State} (h1 : t.walk.stack = s.walk.stack)
    (h2 : t.verifier.buffers = s.verifier.buffers) : t.walkFuel = s.walkFuel := by
  have h : ∀ i, (t.slot i).buffer = (s.slot i).buffer := Verifier.buffers_slots h2
  simp [State.walkFuel, h1, h]

theorem State.walkRun_of_stop {s : State} (h : s.walkGoes = false) (fuel : Nat) : State.walkRun fuel s = s := by
  cases fuel <;> simp [State.walkRun, h]

theorem State.walkRun_of_fixed {s : State} (h : s.walkStep = s) (fuel : Nat) : State.walkRun fuel s = s := by
  induction fuel with
  | zero => rfl
  | succ n ih => simp [State.walkRun, h, ih]

theorem State.fault_stops (s : State) (kind : WalkFault) (ref : WalkRef) : (s.walkFault kind ref).walkGoes = false := by
  simp [State.walkGoes, State.walkFault]

/-- An entry that ends leaves less to do. -/
theorem State.entryDone_fuel {s : State} {f : Frame} {rest : List Frame} (hs : s.walk.stack = f :: rest)
    (hf : f.next < manifestCount (s.slot f.slot).buffer) : s.entryDone.walkFuel < s.walkFuel := by
  simp only [State.walkFuel, State.entryDone, Walk.advance, hs, State.withWalk_walk, State.slot, State.withWalk_verifier,
    List.map_cons, List.sum_cons, List.length_cons]
  simp only [State.slot] at hf
  omega

theorem State.reject_spec {s : State} {f : Frame} {rest : List Frame} (hs : s.walk.stack = f :: rest)
    (hf : f.next < manifestCount (s.slot f.slot).buffer) (fatal : Bool) (kind : WalkFault) :
    (s.reject fatal kind).walkGoes = false ∨ (s.reject fatal kind).walkFuel < s.walkFuel := by
  unfold State.reject
  split
  · exact Or.inl (s.fault_stops _ _)
  · exact Or.inr (State.entryDone_fuel hs hf)

/-- A step of the walker changes nothing, or stops it, or leaves less to do. -/
theorem State.walkStep_spec (s : State) :
    s.walkStep = s ∨ s.walkStep.walkGoes = false ∨ s.walkStep.walkFuel < s.walkFuel := by
  unfold State.walkStep
  split
  · rename_i hs
    unfold State.closeWalk
    split
    · exact Or.inr (Or.inl (s.fault_stops _ _))
    · split
      · exact Or.inr (Or.inl (s.fault_stops _ _))
      · right; left; simp [State.walkGoes]
  · rename_i f rest hs
    dsimp only
    by_cases hf : manifestCount (s.slot f.slot).buffer ≤ f.next
    · simp only [hf, if_true]
      right; right
      have e : (s.popFrame f rest).walkFuel = (s.withWalk { s.walk with stack := rest }).walkFuel :=
        State.walkFuel_eq (by simp [State.popFrame]) (by simp [State.popFrame])
      rw [e]
      simp only [State.walkFuel, hs, State.withWalk_walk, State.slot, State.withWalk_verifier, List.map_cons,
        List.sum_cons, List.length_cons]
      omega
    · simp only [hf, if_false]
      have hf' := Nat.lt_of_not_le hf
      split
      · right
        unfold State.processImage
        dsimp only
        split
        · exact State.reject_spec hs hf' _ _
        · split
          · exact State.reject_spec hs hf' _ _
          · split
            · exact State.reject_spec hs hf' _ _
            · split
              · exact State.reject_spec hs hf' _ _
              · split
                · exact State.reject_spec hs hf' _ _
                · split
                  · exact State.reject_spec hs hf' _ _
                  · left
                    simp [State.walkGoes, State.takeImage]
      · split
        · right; right
          unfold State.processData
          dsimp only
          split
          · refine Nat.lt_of_lt_of_eq (State.entryDone_fuel (f := f) (rest := rest) ?_ ?_) (State.walkFuel_eq ?_ ?_) <;>
              first
              | exact hs
              | exact hf'
              | rfl
          · exact State.entryDone_fuel hs hf'
        · unfold State.processDelegate
          dsimp only
          split
          · exact Or.inr (State.reject_spec hs hf' _ _)
          · split
            · exact Or.inr (State.reject_spec hs hf' _ _)
            · split
              · exact Or.inr (State.reject_spec hs hf' _ _)
              · unfold State.claimDelegate
                split
                · exact Or.inl rfl
                · rename_i b hb
                  unfold State.claimIntake
                  cases hl : s.lowestFree with
                  | none => exact Or.inl rfl
                  | some i => right; left; simp [State.walkGoes]

theorem State.walkRun_enough (n m : Nat) (s : State) (hn : s.walkFuel ≤ n) (hm : s.walkFuel ≤ m) :
    State.walkRun n s = State.walkRun m s := by
  induction n generalizing m s with
  | zero => exact absurd hn (by simp [State.walkFuel])
  | succ n ih =>
    cases m with
    | zero => exact absurd hm (by simp [State.walkFuel])
    | succ m =>
      cases hg : s.walkGoes with
      | false => simp [State.walkRun, hg]
      | true =>
        simp only [State.walkRun, hg, if_true]
        rcases s.walkStep_spec with h | h | h
        · rw [h, State.walkRun_of_fixed h, State.walkRun_of_fixed h]
        · rw [State.walkRun_of_stop h, State.walkRun_of_stop h]
        · exact ih m _ (by omega) (by omega)

/-- The walker that goes takes its step and runs on. -/
theorem State.walkRun_step {s : State} (h : s.walkGoes = true) :
    State.walkRun s.walkFuel s = State.walkRun s.walkStep.walkFuel s.walkStep := by
  obtain ⟨k, hk⟩ : ∃ k, s.walkFuel = k + 1 := ⟨s.walkFuel - 1, by simp [State.walkFuel]⟩
  rw [hk]
  simp only [State.walkRun, h, if_true]
  rcases s.walkStep_spec with e | e | e
  · rw [e, State.walkRun_of_fixed e, State.walkRun_of_fixed e]
  · rw [State.walkRun_of_stop e, State.walkRun_of_stop e]
  · exact State.walkRun_enough _ _ _ (by omega) (Nat.le_refl _)

/-- The walker that goes takes its step and runs on, to the end of the walk and beyond. -/
theorem State.walkOnAll_step {s : State} (h : s.walkGoes = true) : s.walkOnAll = s.walkStep.walkOnAll := by
  unfold State.walkOnAll State.walkOn
  rw [State.walkRun_step h]
  simp

theorem State.walkOn_of_not_walking {s : State} (h : s.boot.state ≠ .walking) (fuel : Nat) : State.walkOn fuel s = s := by
  cases fuel with
  | zero => rfl
  | succ n =>
    have hg : s.walkGoes = false := by simp [State.walkGoes, h]
    unfold State.walkOn
    rw [State.walkRun_of_stop hg]
    cases hb : s.boot.state <;> simp_all

/-- In another boot state, or while it waits, the walker does nothing. -/
theorem State.walkOnAll_of_stop {s : State}
    (h : s.boot.state ≠ .walking ∨ (s.walk.job ≠ .none ∧ s.walk.outcome = none)) : s.walkOnAll = s := by
  rcases h with h | ⟨h1, h2⟩
  · exact State.walkOn_of_not_walking h _
  · have hg : s.walkGoes = false := by simp [State.walkGoes, h1]
    unfold State.walkOnAll State.walkOn
    rw [State.walkRun_of_stop hg]
    cases hb : s.boot.state <;> simp_all

/-- The candidates after the current one. -/
def Boot.remaining (b : Boot) : Nat :=
  match b.current with
  | some n => b.candidates.length - (n + 1)
  | none => 0

/-- A fallback walks a candidate of which fewer remain, or ends in NO_BANK. -/
theorem State.fallback_spec (s : State) : s.fallback.boot.state ≠ .walking ∨
    s.fallback.boot.remaining < s.boot.remaining := by
  cases hc : s.boot.current with
  | none => left; simp [State.fallback, State.nextCandidate, hc, State.enterNoBank]
  | some n =>
    cases hk : s.boot.candidates[n + 1]? with
    | none => left; simp [State.fallback, State.nextCandidate, hc, hk, State.enterNoBank]
    | some c =>
      right
      have hlt : n + 1 < s.boot.candidates.length := (List.getElem?_eq_some_iff.mp hk).1
      simp [State.fallback, State.nextCandidate, hc, hk, State.startWalk, Boot.remaining, State.abandonBank,
        State.clearBank, State.abandonSlots]
      omega

theorem State.walkOn_enough (n m : Nat) (s : State) (hn : s.boot.remaining < n) (hm : s.boot.remaining < m) :
    State.walkOn n s = State.walkOn m s := by
  induction n generalizing m s with
  | zero => omega
  | succ n ih =>
    cases m with
    | zero => omega
    | succ m =>
      simp only [State.walkOn]
      split
      · rfl
      · rcases (State.walkRun s.walkFuel s).fallback_spec with h | h
        · rw [State.walkOn_of_not_walking h, State.walkOn_of_not_walking h]
        · simp only [State.walkRun_blocks] at h
          exact ih m _ (by omega) (by omega)
      · rfl

/-- A walk that has ended with a fault brings the fallback (R13). -/
theorem State.walkOnAll_fault {s : State} {kind : WalkFault} {ref : WalkRef} (h : s.boot.state = .walking)
    (ho : s.walk.outcome = some (.fault kind ref)) : s.walkOnAll = s.fallback.walkOnAll := by
  have hg : s.walkGoes = false := by simp [State.walkGoes, ho]
  have hr : s.boot.remaining ≤ s.boot.candidates.length - 1 := by
    unfold Boot.remaining; split <;> omega
  have e : s.walkOnAll = State.walkOn s.boot.candidates.length s.fallback := by
    unfold State.walkOnAll
    rw [State.walkOn, State.walkRun_of_stop hg]
    simp [h, ho]
  rw [e]
  rcases s.fallback_spec with hf | hf
  · rw [State.walkOn_of_not_walking hf, State.walkOnAll, State.walkOn_of_not_walking hf]
  · have hl : s.fallback.boot.remaining ≤ s.fallback.boot.candidates.length := by
      unfold Boot.remaining; split <;> omega
    exact State.walkOn_enough _ _ _ (by omega) (by omega)

/-- A walk that has succeeded enters PREVERIFY (R11). -/
theorem State.walkOnAll_success {s : State} (h : s.boot.state = .walking) (ho : s.walk.outcome = some .success) :
    s.walkOnAll = s.enterPreverify := by
  have hg : s.walkGoes = false := by simp [State.walkGoes, ho]
  unfold State.walkOnAll State.walkOn
  rw [State.walkRun_of_stop hg]
  simp [h, ho]

end Sys2Proof.Machine
end

