-- ==== Sys2Proof/Laws/Manifests.lean ====
section
/-! SUPPORT. Manifests under judgement: whose manifest a slot holds, what the checks on its bytes say, and what claiming,
giving back and rejecting a slot do. -/

namespace Sys2Proof.Machine

/-! ## Whose manifest a slot holds -/

theorem RootJudgement.at?_none {r : RootJudgement} {i : Fin 8} (h : ∀ st d, r ≠ .judging i st d) : r.at? i = none := by
  unfold RootJudgement.at?
  split
  · rename_i j st d
    by_cases e : j = i
    · subst e; exact absurd rfl (h _ _)
    · simp [e]
  all_goals rfl

/-- The slot of one bank's manifest, where the other bank's is not judged there. -/
theorem State.rootAt_of_judging {s : State} {k : Bank} {i : Fin 8} {st d} (h : s.boot.root k = .judging i st d)
    (hn : ∀ st d', s.boot.root k.other ≠ .judging i st d') : s.rootAt i = some (k, st, d) := by
  unfold State.rootAt
  cases k
  · have h0 : s.boot.root0 = .judging i st d := h
    simp [h0, RootJudgement.at?]
  · have h1 : s.boot.root1 = .judging i st d := h
    have h0 : s.boot.root0.at? i = none := RootJudgement.at?_none hn
    rw [h0, h1]; simp [RootJudgement.at?]

theorem State.rootAt_eq_none {s : State} {i : Fin 8} (h : ∀ k st d, s.boot.root k ≠ .judging i st d) :
    s.rootAt i = none := by
  have h0 : s.boot.root0.at? i = none := RootJudgement.at?_none (h .bank0)
  have h1 : s.boot.root1.at? i = none := RootJudgement.at?_none (h .bank1)
  unfold State.rootAt
  simp [h0, h1]

theorem State.delegateAt_of_job {s : State} {i : Fin 8} {j : DelegateJob} (h : s.walk.job = .delegate j)
    (hj : j.slot = i) : s.delegateAt i = some j := by
  simp [State.delegateAt, h, hj]

/-! ## The checks on a manifest's bytes -/

theorem entryFormed_iff (m : Memory) (k : Nat) : entryFormed m k = true ↔
    entryKind m k = 2 ∨ entryKind m k = 3 ∨ (entryKind m k = 1 ∧ entryCounter m k ≤ 7 ∧ entryVersion m k ≤ 63) := by
  unfold entryFormed
  by_cases h : entryKind m k = kindImage
  · simp [h, kindImage]
  · rw [if_neg h]
    simp only [Bool.or_eq_true, decide_eq_true_eq]
    simp only [kindImage] at h
    simp [h, kindData, kindDelegate]

/-- Checks 4 and 5 of R32. -/
theorem delegateChecks_iff (m : Memory) : delegateChecks m = true ↔
    manifestMagic m = delegateMagic ∧ manifestFormat m = 1 ∧ 1 ≤ manifestCount m ∧ manifestCount m ≤ 32 ∧
    ∀ k, k < manifestCount m → entryFormed m k = true := by
  unfold delegateChecks entriesFormed manifestFormatValue
  simp only [Bool.and_eq_true, decide_eq_true_eq, List.all_eq_true, List.mem_range, and_assoc]

theorem Fuse.counter_eq (f : Fuse) (c : Fin 8) : f.counter c.val = f.counters[c] := by
  simp [Fuse.counter]

/-- Checks 1 to 5 of R8. -/
theorem rootChecks_iff (f : Fuse) (m : Memory) : rootChecks f m = true ↔
    manifestMagic m = rootMagic ∧ manifestDeadline m ≠ 0 ∧ manifestHalfPeriod m ≠ 0 ∧
    (manifestFormat m = 1 ∧ 1 ≤ manifestCount m ∧ manifestCount m ≤ 32 ∧
      ∀ k, k < manifestCount m → entryFormed m k = true) ∧
    ∀ e, e < manifestCount m → entryKind m e = 1 →
      ∀ c : Fin 8, c.val = entryCounter m e → f.counters[c] ≤ entryVersion m e := by
  unfold rootChecks entriesFormed
  simp only [Bool.and_eq_true, Bool.or_eq_true, decide_eq_true_eq, List.all_eq_true, List.mem_range]
  constructor
  · rintro ⟨⟨⟨⟨⟨⟨⟨h1, h2⟩, h3⟩, h4⟩, h5⟩, h6⟩, h7⟩, h8⟩
    refine ⟨h1, h5, h6, ⟨h2, h3, h4, h7⟩, fun e he hk c hc => ?_⟩
    rcases h8 e he with h | h
    · exact absurd hk h
    · unfold entryFresh at h
      rw [decide_eq_true_eq, ← hc, Fuse.counter_eq] at h
      exact h
  · rintro ⟨h1, h5, h6, ⟨h2, h3, h4, h7⟩, h8⟩
    refine ⟨⟨⟨⟨⟨⟨⟨h1, h2⟩, h3⟩, h4⟩, h5⟩, h6⟩, h7⟩, fun e he => ?_⟩
    by_cases hk : entryKind m e = kindImage
    · right
      have hk1 : entryKind m e = 1 := hk
      have hc : entryCounter m e < 8 := by
        rcases (entryFormed_iff m e).1 (h7 e he) with h | h | h <;> omega
      have := h8 e he hk ⟨entryCounter m e, hc⟩ rfl
      rw [← Fuse.counter_eq] at this
      simpa [entryFresh] using this
    · exact Or.inl hk

/-! ## Slots given back, taken and put aside -/

/-- The claim order of one slot when another leaves. -/
theorem Slot.lowerOrder_eq (n : Nat) (v : Slot) :
    Slot.lowerOrder n v = { v with order := orderAfter (some n) v.order } := by
  unfold Slot.lowerOrder orderAfter
  cases v with
  | mk st p c b o w fl buf =>
    cases o with
    | none => rfl
    | some o => by_cases h : n < o <;> simp [h]

/-- A slot given back changes the slots and the slot's own request, and no work of the engine or the signature unit. -/
theorem State.freeSlot_spec (s : State) (i : Fin 8) : s.slotFreed (s.freeSlot i) i ∧
    s.freeSlot i = (s.withVerifier (s.freeSlot i).verifier).withArbiter (s.freeSlot i).arbiter ∧
    (s.freeSlot i).verifier.work = s.verifier.work ∧
    (s.freeSlot i).verifier.pendingDemand = s.verifier.pendingDemand := by
  refine ⟨⟨?_, ?_, rfl⟩, rfl, rfl, rfl⟩
  · unfold State.freeSlot State.withdrawBurst
    simp only [State.slot, State.withArbiter_verifier, State.withVerifier_verifier, vector_set_get, if_true]
    rfl
  · intro j hj
    unfold State.freeSlot State.withdrawBurst
    simp only [State.slot, State.withArbiter_verifier, State.withVerifier_verifier, vector_set_get, Ne.symm hj, if_false]
    split <;> rename_i h
    · rw [mapSlots_get, h, Slot.lowerOrder_eq]
    · rw [h]; rfl

/-- With no pending demand and no pass, giving back a slot frees it and makes no claim. -/
theorem State.releaseSlot_quiet {s : State} {i : Fin 8} (h1 : s.verifier.pendingDemand = none)
    (h2 : s.scan.pass = .none) : s.releaseSlot i = s.freeSlot i := by
  have e1 : (s.freeSlot i).verifier.pendingDemand = none := h1
  have e2 : (s.freeSlot i).scan.pass = .none := h2
  unfold State.releaseSlot
  simp only [e1]
  unfold State.scanResume
  rw [e2]
  simp only [Pass.claims, Bool.false_eq_true, if_false]
  unfold State.endPass State.passOver
  rw [e2]
  simp

/-- A slot whose manifest pass is over is HELD. -/
theorem State.passDone_slot (s : State) (i j : Fin 8) :
    (s.passDone i).slot j = if i = j then { s.slot i with state := .held } else s.slot j := by
  show ((s.engineIdle).setSlot i _).slot j = _
  rw [State.setSlot_slot]
  rfl

/-- A rejected entry is judged by the class rule, in the terms of Safety.lean. -/
theorem State.reject_eq {s : State} {f : Frame} {rest : List Frame} (h : s.walk.stack = f :: rest) (fatal : Bool)
    (kind : WalkFault) : s.reject fatal kind = s.withWalk (s.walk.rejected f rest fatal kind) := by
  unfold State.reject
  cases fatal
  · simp [State.entryDone, Walk.advance, h, Walk.rejected]
  · simp [State.walkFault, Walk.entryRef, h, Walk.rejected]

/-- A claim takes its slot: the record it gets, the other slots as they were. -/
theorem State.takeSlot_slot (s : State) (i : Fin 8) (p : Purpose) (c : Content) (w : Option Nat) (flag : Bool)
    (j : Fin 8) : (s.takeSlot i p c w flag).slot j =
      if i = j then { state := .filling, purpose := some p, content := some c, bursts := 0,
                      order := some (s.inUseCount + 1), waiter := w, flag := flag, buffer := (s.slot i).buffer }
      else s.slot j := by
  show (s.setSlot i _).slot j = _
  rw [State.setSlot_slot]

/-- The first burst of a claim is requested at the claim's class, and nothing else changes. -/
theorem State.takeSlot_eq (s : State) (i : Fin 8) (p : Purpose) (c : Content) (w : Option Nat) (flag : Bool) :
    s.takeSlot i p c w flag =
      (s.withVerifier (s.takeSlot i p c w flag).verifier).withArbiter
        { s.arbiter with slotWait := (s.takeSlot i p c w flag).arbiter.slotWait } := rfl

theorem State.takeSlot_wait (s : State) (i : Fin 8) (p : Purpose) (c : Content) (w : Option Nat) (flag : Bool) :
    (s.takeSlot i p c w flag).arbiter.slotWait = s.arbiter.slotWait.set i (some
      (if (w.isSome || flag) = true then .class3
       else match p with
        | .manifest | .list | .demand => .class3
        | .scan | .patrol => .class5)) := by
  show s.arbiter.slotWait.set i (some (((s.setSlot i _).slot i).burstClass)) = _
  rw [State.setSlot_slot]
  simp only [if_true, Slot.burstClass]
  cases p <;> rfl

end Sys2Proof.Machine
end

