-- ==== Sys2Proof/Laws/Scanner.lean ====
section
/-! SUPPORT. The Scanner: a claim leaves the list, the cursor and the tables; a step brings the cursor nearer the end mark; so
State.scanResume is one step and then itself again (R149, R150, R153, R155). -/

namespace Sys2Proof.Machine

/-- A SCAN or PATROL claim changes the slots and the slots' requests alone. -/
theorem State.claimScan_frame (s : State) (p : Purpose) (r k : Nat) :
    (s.claimScan p r k).1 = (s.withVerifier (s.claimScan p r k).1.verifier).withArbiter (s.claimScan p r k).1.arbiter := by
  unfold State.claimScan
  split
  · rfl
  · split
    · rfl
    · split
      · exact State.takeSlot_eq _ _ _ _ _ _
      · rfl

@[simp] theorem State.claimScan_scan (s : State) (p : Purpose) (r k : Nat) : (s.claimScan p r k).1.scan = s.scan := by
  rw [State.claimScan_frame]; rfl

@[simp] theorem State.claimScan_tables (s : State) (p : Purpose) (r k : Nat) :
    (s.claimScan p r k).1.tables = s.tables := by
  rw [State.claimScan_frame]; rfl

theorem State.anySlot_iff (s : State) (p : Purpose) :
    s.anySlot p = true ↔ ∃ i : Fin 8, (s.slot i).state ≠ .free ∧ (s.slot i).purpose = some p := by
  unfold State.anySlot allSlots Slot.inUse
  simp only [List.any_eq_true, Bool.and_eq_true, decide_eq_true_eq]
  constructor
  · rintro ⟨i, _, h⟩; exact ⟨i, h⟩
  · rintro ⟨i, h⟩; exact ⟨i, by fin_cases i <;> simp, h⟩

/-! ## The way to the end mark -/

/-- The chunks of a list entry. -/
def Tables.entryCount (t : Tables) (r : Nat) : Nat :=
  (t.image r).elim 0 ImageRegion.count

/-- The steps of the entries of a list at most. -/
def Tables.entrySteps (t : Tables) (l : List Nat) : Nat := (l.map fun r => t.entryCount r + 1).sum

/-- The steps ahead of a cursor at most. -/
def stepsAhead (t : Tables) (list : List Nat) : Cursor → Nat
  | .at_ pos k =>
    ((list[pos - 1]?).elim 1 fun r => t.entryCount r - k + 1) + t.entrySteps (list.drop pos)
  | .endMark => 0

/-- The first chunk of the next entry is nearer the end mark. -/
theorem stepsAhead_next (t : Tables) (c : Scan) (pos k : Nat) :
    stepsAhead t c.list (c.nextEntry pos) < stepsAhead t c.list (.at_ pos k) := by
  have h1 : ∃ n, stepsAhead t c.list (.at_ pos k) = n + 1 + t.entrySteps (c.list.drop pos) := by
    cases h : c.list[pos - 1]? with
    | some r => exact ⟨t.entryCount r - k, by simp only [stepsAhead, h, Option.elim_some]⟩
    | none => exact ⟨0, by simp only [stepsAhead, h, Option.elim_none, Nat.zero_add]⟩
  obtain ⟨n, h1⟩ := h1
  rw [h1]
  unfold Scan.nextEntry
  split
  · rename_i h
    have e : c.list.drop pos = c.list[pos] :: c.list.drop (pos + 1) := List.drop_eq_getElem_cons h
    simp only [stepsAhead, Nat.add_sub_cancel, List.getElem?_eq_getElem h, Option.elim_some, e, Tables.entrySteps,
      List.map_cons, List.sum_cons, Nat.sub_zero]
    omega
  · simp only [stepsAhead]; omega

/-- A passed chunk brings the cursor nearer. -/
theorem State.stepsAhead_advance (s : State) (pos k : Nat) :
    stepsAhead s.tables s.scan.list (s.scan.advance pos k (s.scanCount pos)) <
      stepsAhead s.tables s.scan.list (.at_ pos k) := by
  unfold Scan.advance
  split
  · rename_i h
    cases hr : s.scan.list[pos - 1]? with
    | none => simp [State.scanCount, State.scanRegion, Scan.entry, hr] at h
    | some r =>
      cases hg : s.tables.image r with
      | none => simp [State.scanCount, State.scanRegion, Scan.entry, hr, hg] at h
      | some g =>
        have hc : s.scanCount pos = g.count := by simp [State.scanCount, State.scanRegion, Scan.entry, hr, hg]
        rw [hc] at h
        simp only [stepsAhead, hr, Tables.entryCount, hg, Option.elim_some]
        omega
  · exact stepsAhead_next _ _ _ _

/-- The fuel of State.scanResume reaches the end mark. -/
theorem State.stepsAhead_lt_scanFuel (s : State) {pos k r : Nat} (h : 1 ≤ pos) (hr : s.scan.list[pos - 1]? = some r) :
    stepsAhead s.tables s.scan.list (.at_ pos k) < s.scanFuel := by
  have sum : ∀ l : List Nat, s.tables.entrySteps l = (l.map s.tables.entryCount).sum + l.length := by
    intro l; induction l with
    | nil => rfl
    | cons r rs ih =>
      simp only [Tables.entrySteps] at ih
      simp only [Tables.entrySteps, List.map_cons, List.sum_cons, List.length_cons, ih]; omega
  have fuel : s.scanFuel = s.tables.entrySteps s.scan.list + 1 := by
    rw [sum, State.scanFuel]
    congr 4
    funext r
    unfold Tables.entryCount
    cases s.tables.image r <;> rfl
  have hlt : pos - 1 < s.scan.list.length := (List.getElem?_eq_some_iff.1 hr).1
  have e : s.scan.list.drop (pos - 1) = r :: s.scan.list.drop pos := by
    rw [List.drop_eq_getElem_cons hlt, (List.getElem?_eq_some_iff.1 hr).2]; congr 2; omega
  have whole : s.tables.entrySteps s.scan.list = s.tables.entrySteps (s.scan.list.take (pos - 1)) +
      (s.tables.entryCount r + 1 + s.tables.entrySteps (s.scan.list.drop pos)) := by
    conv_lhs => rw [← List.take_append_drop (pos - 1) s.scan.list, e]
    simp only [Tables.entrySteps, List.map_append, List.sum_append, List.map_cons, List.sum_cons]
  simp only [stepsAhead, fuel, hr, Option.elim_some]
  omega

/-! ## One step (R150, R155) -/

/-- Where the cursor goes from a position, and the slots with it: the outcome of one step; none where the stepping stops. -/
def State.scanStep (s : State) (pos k : Nat) : Option State :=
  let forward := s.scan.advance pos k (s.scanCount pos)
  match s.scanAction pos k with
  | .skipRegion => some (s.setCursor (s.scan.nextEntry pos))
  | .advance => some (s.setCursor forward)
  | .claim p r =>
    match s.claimScan p r k with
    | (s', .taken _) => some (s'.setCursor forward)
    | (s', .joined _) => some (s'.setCursor forward)
    | _ => none

theorem State.scanSteps_succ {s : State} {pos k : Nat} (h : s.scan.cursor = some (.at_ pos k)) (fuel : Nat) :
    State.scanSteps (fuel + 1) s = match s.scanStep pos k with
      | some u => State.scanSteps fuel u
      | none => s := by
  simp only [State.scanSteps, h, State.scanStep]
  generalize s.scanAction pos k = a
  match a with
  | .skipRegion => rfl
  | .advance => rfl
  | .claim p r =>
    dsimp only
    have hn : (s.claimScan p r k).2 = .notMade ∨ (∃ i, (s.claimScan p r k).2 = .taken i) ∨
        ∃ i, (s.claimScan p r k).2 = .joined i := by
      unfold State.claimScan; split
      · exact .inl rfl
      · split
        · exact .inr (.inr ⟨_, rfl⟩)
        · split
          · exact .inr (.inl ⟨_, rfl⟩)
          · exact .inl rfl
    have hs : (s.claimScan p r k).2 = .notMade → (s.claimScan p r k).1 = s := by
      unfold State.claimScan; split
      · intro; rfl
      · split
        · intro h; cases h
        · split
          · intro h; cases h
          · intro; rfl
    generalize s.claimScan p r k = x at hn hs ⊢
    obtain ⟨u, res⟩ := x
    rcases hn with h | ⟨i, h⟩ | ⟨i, h⟩ <;> simp only at h hs <;> subst h
    · simp only [hs rfl]
    · rfl
    · rfl

/-- A step keeps the tables and the rest of the Scanner's state, and its cursor is nearer the end mark. -/
theorem State.scanStep_spec {s u : State} {pos k : Nat} (hu : s.scanStep pos k = some u) :
    u.tables = s.tables ∧ ∃ c, u.scan = { s.scan with cursor := some c } ∧
      stepsAhead s.tables s.scan.list c < stepsAhead s.tables s.scan.list (.at_ pos k) := by
  have near := s.stepsAhead_advance pos k
  unfold State.scanStep at hu
  simp only at hu
  split at hu
  · simp only [Option.some.injEq] at hu; subst hu; exact ⟨rfl, _, rfl, stepsAhead_next _ _ _ _⟩
  · simp only [Option.some.injEq] at hu; subst hu; exact ⟨rfl, _, rfl, near⟩
  · rename_i p r _
    have e1 := s.claimScan_tables p r k
    have e2 := s.claimScan_scan p r k
    generalize s.claimScan p r k = x at hu e1 e2
    obtain ⟨v, res⟩ := x
    simp only at e1 e2
    cases res <;> simp only [Option.some.injEq, reduceCtorEq] at hu
    all_goals subst hu; exact ⟨e1, _, by simp only [State.setCursor, State.withScan_scan, e2], near⟩

/-- More fuel than there are steps ahead changes nothing. -/
theorem State.scanSteps_enough (fuel : Nat) : ∀ s : State,
    (∀ c, s.scan.cursor = some c → stepsAhead s.tables s.scan.list c ≤ fuel) →
    State.scanSteps (fuel + 1) s = State.scanSteps fuel s := by
  induction fuel with
  | zero =>
    intro s h
    match hc : s.scan.cursor with
    | none => simp only [State.scanSteps, hc]
    | some .endMark => simp only [State.scanSteps, hc]
    | some (.at_ pos k) =>
      have := h _ hc
      have := stepsAhead_next s.tables s.scan pos k
      omega
  | succ n ih =>
    intro s h
    match hc : s.scan.cursor with
    | none => simp only [State.scanSteps, hc]
    | some .endMark => simp only [State.scanSteps, hc]
    | some (.at_ pos k) =>
      rw [State.scanSteps_succ hc, State.scanSteps_succ hc]
      cases hu : s.scanStep pos k with
      | none => rfl
      | some u =>
        obtain ⟨e1, c, e2, near⟩ := State.scanStep_spec hu
        refine ih u fun c' hc' => ?_
        rw [e2] at hc'
        simp only [Option.some.injEq] at hc'
        have := h _ hc
        rw [e1, e2, ← hc']
        show stepsAhead s.tables s.scan.list c ≤ n
        omega

/-- The test of the end of a pass does nothing while the cursor of a pass that claims is short of the end mark. -/
theorem State.endPass_short {s : State} (hp : s.scan.pass.claims = true) (hc : s.scan.cursor ≠ some .endMark) :
    s.endPass = s := by
  have h : s.passOver = false := by
    unfold State.passOver
    split <;> simp_all [Pass.claims]
  simp only [State.endPass, h, Bool.false_eq_true, if_false]

/-- The Scanner's work from a position is one step and then its work from there; it ends where a claim finds no slot. -/
theorem State.scanResume_step {s : State} {pos k r : Nat} (hp : s.scan.pass.claims = true)
    (hc : s.scan.cursor = some (.at_ pos k)) (h1 : 1 ≤ pos) (hr : s.scan.list[pos - 1]? = some r) :
    s.scanResume = match s.scanStep pos k with
      | some u => u.scanResume
      | none => s := by
  have hf := s.stepsAhead_lt_scanFuel (k := k) h1 hr
  obtain ⟨n, hn⟩ : ∃ n, s.scanFuel = n + 1 := ⟨s.scanFuel - 1, by omega⟩
  have he : s.scanResume = (State.scanSteps (n + 1) s).endPass := by
    simp only [State.scanResume, hp, if_true, hn]
  rw [he, State.scanSteps_succ hc]
  cases hu : s.scanStep pos k with
  | none => exact State.endPass_short hp (by rw [hc]; simp)
  | some u =>
    obtain ⟨e1, c, e2, near⟩ := State.scanStep_spec hu
    have hu' : u.scan.pass.claims = true := by rw [e2]; exact hp
    have hfu : u.scanFuel = n + 1 := by simp only [State.scanFuel, e1, e2, ← hn]
    simp only [State.scanResume, hu', if_true, hfu]
    rw [State.scanSteps_enough]
    intro c' hc'
    rw [e2] at hc'
    simp only [Option.some.injEq] at hc'
    rw [e1, e2, ← hc']
    show stepsAhead s.tables s.scan.list c ≤ n
    omega

/-- A pass begins at the first chunk of the list, or at the end mark of an empty one, and the Scanner steps (R150, R154). -/
theorem State.startPass_eq (s : State) (p : Pass) : s.startPass p = (s.passBegun p).scanResume := by
  unfold State.startPass State.passBegun Scan.start scanBegin
  cases s.scan.list <;> simp

end Sys2Proof.Machine
end

