-- ==== Sys2Proof/Laws/Demands.lean ====
section
/-! SUPPORT. What the demand claims' shared operations do, in the terms of Safety.lean: a join, a slot taken, the victim, and a
preemption (R68 to R70); and what read-ahead asks for (R141). -/

namespace Sys2Proof.Machine

/-- A join is State.demandJoined: its slot's waiting request is filed at class 3. -/
theorem State.joinSlot_eq (s : State) (i : Fin 8) (w : Option Nat) : s.joinSlot i w = s.demandJoined i w := by
  unfold State.joinSlot State.demandJoined State.refile
  simp only [State.setSlot, State.withVerifier_arbiter]
  cases hs : s.arbiter.slotWait[i] with
  | none =>
    simp
    cases w <;> rfl
  | some c =>
    simp only [Option.isSome_some, if_true]
    cases w <;>
    simp [State.requestBurst, State.slot, Slot.burstClass, State.withVerifier, State.withArbiter]

/-- A demand's slot taken is State.demandTaken: its first request waits at class 3. -/
theorem State.takeSlot_demand (s : State) (i : Fin 8) (r c : Nat) (w : Option Nat) :
    s.takeSlot i .demand (.chunk r c) w w.isNone = s.demandTaken i r c w := by
  rw [State.takeSlot_eq, State.takeSlot_wait]
  cases w <;> rfl

/-! ## The victim (R70) -/

theorem Slot.eligible_iff (v : Slot) : v.eligible = true ↔ v.preemptible := by
  simp [Slot.eligible, Slot.preemptible, and_assoc]

/-- The model finds the victim of R70 where there is one. -/
theorem State.victim_of {s : State} {i : Fin 8} (h : s.victimIs i) : s.victim = some i := by
  obtain ⟨h1, h2⟩ := h
  have better : ∀ j, j ≠ i → (s.slot j).preemptible →
      (s.slot i).betterVictim (s.slot j) = true ∧ (s.slot j).betterVictim (s.slot i) = false := by
    intro j hj hp
    unfold Slot.betterVictim
    rcases h2 j hj hp with h | ⟨h, n, o, e1, e2, h3⟩
    · simp; omega
    · simp [e1, e2, h]; omega
  have key : ∀ (l : List (Fin 8)) (b : Option (Fin 8)), (∀ j ∈ l, (s.slot j).preemptible) →
      (∀ j, b = some j → (s.slot j).preemptible) → (i ∈ l ∨ b = some i) → l.foldl
        (fun best i => match best with
          | none => some i
          | some j => if (s.slot i).betterVictim (s.slot j) then some i else some j) b = some i := by
    intro l
    induction l with
    | nil => intro b _ _ h; simpa using h
    | cons x xs ih =>
      intro b hl hb h
      simp only [List.foldl_cons]
      apply ih
      · intro j hj; exact hl j (List.mem_cons_of_mem _ hj)
      · intro j hj
        cases b with
        | none => simp at hj; subst hj; exact hl _ List.mem_cons_self
        | some y =>
          simp only at hj
          split at hj <;> (simp at hj; subst hj)
          · exact hl _ List.mem_cons_self
          · exact hb _ rfl
      · rcases h with h | h
        · rcases List.mem_cons.1 h with rfl | h
          · right
            cases b with
            | none => rfl
            | some y =>
              simp only
              by_cases e : y = i
              · subst e; split <;> rfl
              · rw [(better y e (hb _ rfl)).1]; simp
          · exact .inl h
        · right; subst h; simp only
          by_cases e : x = i
          · subst e; split <;> rfl
          · rw [(better x e (hl _ List.mem_cons_self)).2]; simp
  unfold State.victim
  apply key
  · intro j hj; exact (Slot.eligible_iff _).1 (List.mem_filter.1 hj).2
  · intro j hj; cases hj
  · left; rw [List.mem_filter]; exact ⟨by fin_cases i <;> simp [allSlots], (Slot.eligible_iff _).2 h1⟩

theorem State.victim_none {s : State} (h : ∀ j, ¬ (s.slot j).preemptible) : s.victim = none := by
  unfold State.victim
  rw [List.filter_eq_nil_iff.2]
  · rfl
  · intro j _ hj; exact h j ((Slot.eligible_iff _).1 hj)

/-! ## Preemption (R70, R90, R152) -/

theorem State.inUse_of_none_free {s : State} (h : s.lowestFree = none) (j : Fin 8) : (s.slot j).inUse = true := by
  have := List.find?_eq_none.1 h j (by fin_cases j <;> simp [allSlots])
  simpa using this

/-- With every slot in use, seven are when one has been given back. -/
theorem State.inUseCount_freed {s t : State} {i : Fin 8} (h : s.lowestFree = none) (ht : s.slotFreed t i) :
    t.inUseCount = 7 := by
  have : ∀ j, (t.slot j).inUse = decide (j ≠ i) := by
    intro j
    by_cases e : j = i
    · subst e; rw [ht.1]; simp [Slot.inUse]
    · rw [ht.2.1 j e]; simp only [e, ne_eq, not_false_eq_true, decide_true]
      exact State.inUse_of_none_free h j
  unfold State.inUseCount
  simp only [this]
  fin_cases i <;> rfl

/-- The arbiter's side of a preemption. -/
theorem State.preemptBurst_eq (s : State) (i : Fin 8) : s.preemptBurst i = s.withArbiter { s.arbiter with
    slotWait := s.arbiter.slotWait.set i none
    access := s.arbiter.access.map (Access.discardFor i)
    suspended := s.arbiter.suspended.map (Burst.discardFor i)
    parked := s.arbiter.parked.map (Burst.discardFor i) } := rfl

/-- The Scanner is told of a preempted fill: with another pass, or none, the end of the pass is tested; else the cursor moves
back to a fill that lies behind, and the Scanner steps. -/
theorem State.rewind_eq (t : State) (purpose : Option Purpose) (content : Option Content) :
    (¬ ((t.scan.pass = .first ∧ purpose = some .scan) ∨ (t.scan.pass = .patrol ∧ purpose = some .patrol)) →
      t.rewind purpose content = t.endPass) ∧
    ((t.scan.pass = .first ∧ purpose = some .scan) ∨ (t.scan.pass = .patrol ∧ purpose = some .patrol) →
      ∀ r k pos at_, content = some (.chunk r k) → t.scan.cursor = some at_ → 1 ≤ pos →
      t.scan.list[pos - 1]? = some r → (∀ q, q < pos - 1 → t.scan.list[q]? ≠ some r) →
      t.rewind purpose content =
        (if Cursor.behind pos k at_ then t.setCursor (.at_ pos k) else t).scanResume) := by
  refine ⟨fun hm => ?_, fun hm r k pos at_ hv hc h1 hl hq => ?_⟩
  · have : Pass.matchesPurpose t.scan.pass purpose = false := by
      simp only [not_or, not_and] at hm
      unfold Pass.matchesPurpose; split
      · exact absurd rfl (hm.1 (by assumption))
      · exact absurd rfl (hm.2 (by assumption))
      · rfl
    simp [State.rewind, this]
  · have hmp : Pass.matchesPurpose t.scan.pass purpose = true := by
      rcases hm with ⟨a, b⟩ | ⟨a, b⟩ <;> rw [a, b] <;> rfl
    have hpos : t.scan.positionOf r = some pos := by
      unfold Scan.positionOf
      have : t.scan.list.findIdx? (fun x => decide (x = r)) = some (pos - 1) := by
        rw [List.findIdx?_eq_some_iff_getElem]
        have hlt := (List.getElem?_eq_some_iff.1 hl).1
        refine ⟨hlt, by simpa using (List.getElem?_eq_some_iff.1 hl).2, fun j hj => ?_⟩
        have := hq j hj
        have hj' : j < t.scan.list.length := by omega
        rw [List.getElem?_eq_getElem hj'] at this
        simpa using this
      rw [this]; simp; omega
    unfold State.rewind
    rw [hmp, hv, hc]
    simp only [if_true, hpos]

theorem Cursor.behind_iff (pos k : Nat) (c : Cursor) : Cursor.behind pos k c = true ↔
    c = .endMark ∨ ∃ p m, c = .at_ p m ∧ (pos < p ∨ (pos = p ∧ k < m)) := by
  cases c <;> simp [Cursor.behind]

/-- What a preemption does, where no slot is FREE. -/
theorem State.preempt_spec (s : State) (i : Fin 8) (r c : Nat) (w : Option Nat) (hf : s.lowestFree = none) :
    s.demandPreempts (s.preempt i r c w) i r c w := by
  obtain ⟨hfr, hY, -, -⟩ := State.freeSlot_spec (s.preemptBurst i) i
  have huse := State.inUseCount_freed (s := s.preemptBurst i) hf hfr
  have hYv : ((s.preemptBurst i).freeSlot i).verifier =
      { s.verifier with slots := ((s.preemptBurst i).freeSlot i).verifier.slots } := rfl
  have hX := s.preemptBurst_eq i
  have hXs : ∀ j, (s.preemptBurst i).slot j = s.slot j := fun j => rfl
  have hpre : s.preempt i r c w = (((s.preemptBurst i).freeSlot i).takeSlot i .demand (.chunk r c) w w.isNone).rewind
    (s.slot i).purpose (s.slot i).content := rfl
  rw [State.takeSlot_demand] at hpre
  generalize s.preemptBurst i = X at *
  generalize X.freeSlot i = Y at *
  have hT : Y.demandTaken i r c w = (Y.withVerifier
      { Y.verifier with slots := (Y.demandTaken i r c w).verifier.slots }).withArbiter
      { Y.arbiter with slotWait := Y.arbiter.slotWait.set i (some .class3) } := rfl
  have hTs : ∀ j, (Y.demandTaken i r c w).slot j = if i = j then
      claimedSlot .demand r c (Y.inUseCount + 1) w w.isNone (Y.slot i).buffer else Y.slot j :=
    fun j => vector_set_get _ _ _ _
  generalize Y.demandTaken i r c w = T at *
  have hscan : T.scan = s.scan := by rw [hT, hY, hX]; rfl
  refine ⟨T, ?_, ?_, fun j hj => ?_, fun hm => ?_, fun hm r' k pos at_ hv hc h1 hl hq => ?_⟩
  · have h1 : (s.arbiter.access.map fun x => match x with
        | .burst b => .burst (b.discardFor i)
        | x => x) = s.arbiter.access.map (Access.discardFor i) := by
      cases s.arbiter.access with
      | none => rfl
      | some a => cases a <;> rfl
    have h2 : Y.arbiter = { s.arbiter with
        slotWait := s.arbiter.slotWait.set i none
        access := s.arbiter.access.map fun x => match x with
          | .burst b => .burst (b.discardFor i)
          | x => x
        suspended := s.arbiter.suspended.map (Burst.discardFor i)
        parked := s.arbiter.parked.map (Burst.discardFor i) } := by
      rw [hfr.2.2, hX, h1]; simp
    rw [hT, h2, hYv, hY, hX]
    simp only [State.withArbiter, State.withVerifier, Vector.set_set]
    rfl
  · rw [hTs, if_pos rfl, huse, hfr.1, hXs]
  · rw [hTs, if_neg (Ne.symm hj), hfr.2.1 j hj, hXs, hXs]
  · rw [hpre]; rw [← hscan] at hm; exact (T.rewind_eq _ _).1 hm
  · rw [← hscan] at hm hc hl hq
    have := (T.rewind_eq _ _).2 hm r' k pos at_ hv hc h1 hl hq
    rw [hpre, this]
    refine ⟨fun h => ?_, fun h => ?_⟩
    · rw [if_pos ((Cursor.behind_iff _ _ _).2 h)]; unfold State.setCursor; rw [hscan]
    · rw [if_neg fun e => h ((Cursor.behind_iff _ _ _).1 e)]

/-! ## The engine window and read-ahead (R140, R141) -/

theorem State.windowAddr_eq (s : State) (b : Bank) (g : ImageRegion) (w : Nat) :
    s.windowAddr b g w = b.toNat * s.bankWords + (g.base * 2048 + w) := by
  unfold State.windowAddr State.flashAddr chunkWords
  omega

theorem State.elIdle_iff (s : State) :
    s.elIdle = true ↔ s.arbiter.elWait = none ∧ ∀ q keep, s.arbiter.access ≠ some (.elRead q keep) := by
  unfold State.elIdle
  rw [Bool.and_eq_true, Option.isNone_iff_eq_none]
  apply and_congr_right; intro _
  rcases s.arbiter.access with _ | a
  · simp
  · cases a <;> simp

/-- The engine region found is the record at its index. -/
theorem findEngine_image {rs : List Region} {i n : Nat} {g : ImageRegion} (h : findEngine rs i = some (n, g)) :
    i ≤ n ∧ rs[n - i]? = some (.image g) := by
  have tail : ∀ {j : Nat} {q : Region} {qs : List Region}, j + 1 ≤ n ∧ qs[n - (j + 1)]? = some (.image g) →
      j ≤ n ∧ (q :: qs)[n - j]? = some (.image g) := by
    intro j q qs h
    have e : n - j = (n - (j + 1)) + 1 := by omega
    exact ⟨by omega, by rw [e]; simpa using h.2⟩
  induction rs generalizing i with
  | nil => simp [findEngine] at h
  | cons q qs ih =>
    cases q with
    | image r =>
      simp only [findEngine] at h
      split at h
      · simp at h; obtain ⟨rfl, rfl⟩ := h; simp
      · exact tail (ih h)
    | data r =>
      simp only [findEngine] at h
      exact tail (ih h)

/-- The engine window is the IMAGE record at its index. -/
theorem State.engineWindow_image {s : State} {r : Nat} {g : ImageRegion} (h : s.engineWindow = some (r, g)) :
    s.tables.image r = some g := by
  unfold State.engineWindow at h
  split at h
  · have := (findEngine_image h).2
    simp at this
    simp [Tables.image, this]
  · cases h

end Sys2Proof.Machine
end

