-- ==== Sys2Proof/Laws/Fuse.lean ====
section
/-! SUPPORT. The fuse programmer taking its work, in the terms of Safety.lean. -/

namespace Sys2Proof.Machine

/-- The greatest version is reached by a record or is where the search began, and none is greater. -/
theorem commitTarget_fold (c : Fin 8) (l : List Region) (m : Nat) :
    let f := fun (m : Nat) (r : Region) => match r with
      | .image g => if g.state = .complete ∧ g.counter = c then max m g.version else m
      | .data _ => m
    m ≤ l.foldl f m ∧
    (∀ g, Region.image g ∈ l → g.state = .complete → g.counter = c → g.version ≤ l.foldl f m) ∧
    (l.foldl f m = m ∨
      ∃ g, Region.image g ∈ l ∧ g.state = .complete ∧ g.counter = c ∧ g.version = l.foldl f m) := by
  induction l generalizing m with
  | nil => simp
  | cons r rs ih =>
    simp only [List.foldl_cons, List.mem_cons]
    cases r with
    | data d =>
      obtain ⟨h1, h2, h3⟩ := ih m
      refine ⟨h1, ?_, ?_⟩
      · intro g hg; simp at hg; exact h2 g hg
      · rcases h3 with h3 | ⟨g, hg, h3⟩
        · exact Or.inl h3
        · exact Or.inr ⟨g, Or.inr hg, h3⟩
    | image q =>
      simp only
      by_cases hq : q.state = .complete ∧ q.counter = c
      · simp only [hq, and_self, if_true]
        obtain ⟨h1, h2, h3⟩ := ih (max m q.version)
        refine ⟨by omega, ?_, ?_⟩
        · intro g hg hs hc
          rcases hg with hg | hg
          · injection hg with hg; subst hg; omega
          · exact h2 g hg hs hc
        · rcases h3 with h3 | ⟨g, hg, h3⟩
          · by_cases hm : q.version ≤ m
            · left; rw [h3]; omega
            · right; exact ⟨q, Or.inl rfl, hq.1, hq.2, by rw [h3]; omega⟩
          · exact Or.inr ⟨g, Or.inr hg, h3⟩
      · simp only [hq, if_false]
        obtain ⟨h1, h2, h3⟩ := ih m
        refine ⟨h1, ?_, ?_⟩
        · intro g hg hs hc
          rcases hg with hg | hg
          · injection hg with hg; subst hg; exact absurd ⟨hs, hc⟩ hq
          · exact h2 g hg hs hc
        · rcases h3 with h3 | ⟨g, hg, h3⟩
          · exact Or.inl h3
          · exact Or.inr ⟨g, Or.inr hg, h3⟩

/-- A counter's target is the greatest version among the COMPLETE regions that name it, or 0 (R175). -/
theorem Tables.commitTarget_spec (t : Tables) (c : Fin 8) :
    (∀ g, Region.image g ∈ t.regions → g.state = .complete → g.counter = c → g.version ≤ t.commitTarget c) ∧
    (t.commitTarget c = 0 ∨
      ∃ g, Region.image g ∈ t.regions ∧ g.state = .complete ∧ g.counter = c ∧ g.version = t.commitTarget c) :=
  (commitTarget_fold c t.regions 0).2

/-- The counters and targets that a COMMIT fixes are those of R175. -/
theorem commitTodo_targets (t : Tables) (f : Fuse) : commitTargets t f.counters (commitTodo t f) := by
  have sorted : allSlots.Pairwise (· < ·) := by decide
  have mem : ∀ i : Fin 8, i ∈ allSlots := by decide
  refine ⟨?_, ?_⟩
  · unfold commitTodo
    rw [List.pairwise_filterMap]
    refine sorted.imp ?_
    intro a b hab x hx y hy
    simp only at hx hy
    split at hx
    · split at hy
      · simp at hx hy; rw [← hx, ← hy]; exact hab
      · simp at hy
    · simp at hx
  · intro c n
    have hf := t.commitTarget_spec c
    unfold commitTodo
    rw [List.mem_filterMap]
    constructor
    · rintro ⟨a, _, ha⟩
      simp only at ha
      split at ha
      · rename_i hlt
        simp only [Option.some.injEq, Prod.mk.injEq] at ha
        obtain ⟨rfl, rfl⟩ := ha
        refine ⟨hlt, ?_, hf.1⟩
        rcases hf.2 with h0 | ⟨g, hg, hs, hc, hv⟩
        · omega
        · exact ⟨g, hg, hs, hc, hv⟩
      · simp at ha
    · rintro ⟨hlt, ⟨g, hg, hs, hc, hv⟩, hmax⟩
      have e : t.commitTarget c = n := by
        refine Nat.le_antisymm ?_ (hv ▸ hf.1 g hg hs hc)
        rcases hf.2 with h0 | ⟨q, hq, hqs, hqc, hqv⟩
        · omega
        · exact hqv ▸ hmax q hq hqs hqc
      exact ⟨c, mem c, by simp only [e]; exact if_pos hlt⟩

/-- A COMMIT has no counter to raise exactly where no target lies above its counter. -/
theorem commitTargets_unique {t : Tables} {counters : Vector Nat 8} {a b : List (Fin 8 × Nat)}
    (ha : commitTargets t counters a) (hb : commitTargets t counters b) : a = b := by
  have ltIrrefl : ∀ x : Fin 8 × Nat, ¬ x.1 < x.1 := fun x => Nat.lt_irrefl _
  have key : ∀ a b : List (Fin 8 × Nat), a.Pairwise (fun x y => x.1 < y.1) → b.Pairwise (fun x y => x.1 < y.1) →
      (∀ x, x ∈ a ↔ x ∈ b) → a = b := by
    intro a
    induction a with
    | nil =>
      intro b _ _ h
      cases b with
      | nil => rfl
      | cons y ys => exact absurd ((h y).mpr (by simp)) (by simp)
    | cons x xs ih =>
      intro b hx hy h
      cases b with
      | nil => exact absurd ((h x).mp (by simp)) (by simp)
      | cons y ys =>
        have e : x = y := by
          have h1 := (h x).mp (by simp)
          have h2 := (h y).mpr (by simp)
          rcases List.mem_cons.mp h1 with e | e
          · exact e
          · rcases List.mem_cons.mp h2 with e2 | e2
            · exact e2.symm
            · exact absurd (Nat.lt_trans ((List.pairwise_cons.mp hx).1 y e2) ((List.pairwise_cons.mp hy).1 x e)) (ltIrrefl _)
        subst e
        congr 1
        refine ih ys (List.pairwise_cons.mp hx).2 (List.pairwise_cons.mp hy).2 fun z => ⟨fun hz => ?_, fun hz => ?_⟩
        · rcases List.mem_cons.mp ((h z).mp (by simp [hz])) with e | e
          · exact absurd ((List.pairwise_cons.mp hx).1 z hz) (e ▸ ltIrrefl _)
          · exact e
        · rcases List.mem_cons.mp ((h z).mpr (by simp [hz])) with e | e
          · exact absurd ((List.pairwise_cons.mp hy).1 z hz) (e ▸ ltIrrefl _)
          · exact e
  exact key a b ha.1 hb.1 fun x => by rw [ha.2 x.1 x.2, hb.2 x.1 x.2]

/-- The programmer that takes its work changes its own block alone. -/
theorem State.fuseNext_eq (fuel : Nat) (s : State) : State.fuseNext fuel s = s.withFuse (State.fuseNext fuel s).fuse := by
  apply State.ext_blocks <;> simp

/-- What an IDLE programmer that may begin work takes. -/
theorem State.fuseNext_takesWork (fuel : Nat) (s : State) (hr : s.fuseReady = true) (hf : s.fuse.work.length < fuel) :
    takesWork s.tables s.boot.active (State.fuseNext fuel s).fuse s.fuse.work s.fuse := by
  induction fuel generalizing s with
  | zero => omega
  | succ n ih =>
    unfold State.fuseNext
    simp only [hr, if_true]
    cases hw : s.fuse.work with
    | nil =>
      simp only [takesWork]
      cases hc : s.fuse.lockClear with
      | false =>
        simp only [Bool.false_eq_true, if_false]
        rw [← hw, ← hc]
      | true => simp [State.beginFuse, ← hw]
    | cons item rest =>
      cases item with
      | demote => simp [takesWork, State.beginFuse]
      | undemote => simp [takesWork, State.beginFuse]
      | commit =>
        refine ⟨commitTodo s.tables s.fuse, commitTodo_targets _ _, ?_, ?_⟩
        · intro hnil
          simp only [hnil]
          have hl : rest.length < n := by rw [hw] at hf; simp at hf; omega
          have := ih (s.withFuse { s.fuse with work := rest }) hr hl
          have fuse_irrelevant : ∀ (l : List FuseItem) (g f : Fuse) (w : List FuseItem),
              takesWork s.tables s.boot.active g l { f with work := w } → takesWork s.tables s.boot.active g l f := by
            intro l
            induction l with
            | nil => intro g f w h; simpa [takesWork] using h
            | cons a as ih2 =>
              intro g f w h
              cases a with
              | demote => simpa [takesWork] using h
              | undemote => simpa [takesWork] using h
              | commit =>
                obtain ⟨todo, h1, h2, h3⟩ := h
                exact ⟨todo, h1, fun e => ih2 _ _ _ (h2 e), fun e => by simpa using h3 e⟩
          exact fuse_irrelevant _ _ _ _ (by simpa using this)
        · intro hne
          cases hc : commitTodo s.tables s.fuse with
          | nil => exact absurd hc hne
          | cons c cs => simp [State.beginFuse]

/-- The programmer takes its work where it may, and else does nothing. -/
theorem State.fuseResume_spec (s : State) : s.fuseResume = s.withFuse s.fuseResume.fuse ∧
    (s.fuseReady = true → takesWork s.tables s.boot.active s.fuseResume.fuse s.fuse.work s.fuse) ∧
    (s.fuseReady = false → s.fuseResume = s) := by
  refine ⟨s.fuseNext_eq _, fun h => s.fuseNext_takesWork _ h (by omega), fun h => ?_⟩
  simp [State.fuseResume, State.fuseNext, h]

end Sys2Proof.Machine
end

