-- ==== Sys2Proof/Tests/Slice0.lean ====
section
/-! SUPPORT. The author's tests: the well-formedness check, a few values the spec gives, and for every statement with hypotheses a
state and operands that meet them. -/

namespace Sys2Proof.Tests

open Sys2Proof Sys2Proof.Machine

/-! ## Well-formedness: an ill-formed term for each check -/

theorem test_wf_powerOn (n : Nat) (h : sectorWords < n) :
    (Instr.powerOn (some (List.replicate n 0#16))).wellFormed = false ∧ (Instr.powerOn (some [])).wellFormed = true := by
  refine ⟨?_, by decide⟩
  simp [Instr.wellFormed, h]

theorem test_wf_flashOperationEnd (n : Nat) (h : sectorWords < n) :
    (Instr.flashOperationEnd true (List.replicate n 0#16)).wellFormed = false ∧
    (Instr.flashOperationEnd false [0x1234#16]).wellFormed = true := by
  refine ⟨?_, by decide⟩
  simp [Instr.wellFormed, h]

theorem test_wf_elUnknownCommand : (Instr.elUnknownCommand 0x4C#8).wellFormed = false ∧
    (Instr.elUnknownCommand 0x5D#8).wellFormed = false ∧ (Instr.elUnknownCommand 0x6E#8).wellFormed = false ∧
    (Instr.elUnknownCommand 0x00#8).wellFormed = true := by decide

theorem test_wf_slUnknown : (Instr.slUnknown 0x10#8).wellFormed = false ∧ (Instr.slUnknown 0x25#8).wellFormed = false ∧
    (Instr.slUnknown 0x16#8).wellFormed = true := by decide

theorem test_wf_slProvision : (Instr.slProvision 0#8 (List.replicate 31 0#8)).wellFormed = false ∧
    (Instr.slProvision 3#8 (List.replicate 32 0#8)).wellFormed = true := by decide

theorem test_wf_rest : (Instr.cpWriteArrival 0#24 0#16).wellFormed = true ∧ Instr.flashGrant.wellFormed = true := by
  decide

/-! ## No word spells a command -/

theorem test_no_word : decodeTableWord 16 0x1234 = none ∧ State.reset.withFetchWord 16 0x1234 = State.reset :=
  ⟨rfl, rfl⟩

/-! ## States -/

/-- Both banks settled, in TRANSPARENT. -/
def settled : State :=
  State.reset.withArbiter { Arbiter.reset with cond0 := .idle, cond1 := .idle, settle := none }

/-- An IMAGE record of two chunks at chunk 0 of the bank, its digests from record 0 up. -/
def image (cls : ImageClass) (st : RegionState) : ImageRegion :=
  { imageId := 7#16, cls := cls, signer := 0, base := 0, count := 2, first := 0, counter := 0, version := 5,
    engine := true, state := st, good := 0, bad := 0 }

/-- A digest record. -/
def record (st : ChunkState) : ChunkRecord := { expected := some (List.replicate 16 0#8), owner := 0, state := st }

/-- RELEASED on bank 0 with one IMAGE region of that class and state, its chunk 0 in a state, and one DATA region of
sector 1. -/
def released (cls : ImageClass) (st : RegionState) (chunk : ChunkState) : State :=
  ((settled.withBoot { Boot.reset with
      state := .released, active := some .bank0
      params := { Params.reset with fillWord := 0xBEEF#16, halfPeriod := 4, bootDeadline := 50, patrolInterval := 100 } }).withTables
    { regions := [.image (image cls st), .data { signer := 0, base := 16, count := 16 }]
      chunks := [record chunk, record .unchecked] }).withGate Gate.reset

/-- `released` with the hold method FILL. -/
def releasedFill (st : RegionState) (chunk : ChunkState) : State :=
  let s := released .boot st chunk
  s.withBoot { s.boot with params := { s.boot.params with holdFill := true } }

/-- `released` with a timer that runs for a purpose. -/
def timed (p : TimerPurpose) : State :=
  (released .boot .checking .unchecked).withTimer { counter := 7, compare := 50, running := true, purpose := p }

def inState (b : BootState) (s : State) : State := s.withBoot { s.boot with state := b }

def reset (s : State) : State := s.withLines { s.lines with inReset := true }

def opened (s : State) : State := s.withGate Gate.open_

def receiving (s : State) : State := s.withSl { selected := true, frame := .receiving }

def with0 (s : State) (v : Slot) : State := s.setSlot 0 v

/-- Every slot busy with a demand for a chunk of no region of the table. -/
def full (s : State) : State :=
  let v : Slot := { Slot.reset with state := .hashing, purpose := some .demand, content := some (.chunk 9 9) }
  s.withVerifier { s.verifier with slots := Vector.replicate 8 v }

/-! ## Values the spec gives -/

theorem test_status_after_reset : State.reset.summary =
    [0x00#8, 0x06#8, 0xFF#8, 0x01#8, 0x00#8, 0x00#8, 0x01#8, 0x00#8, 0x00#8, 0x00#8, 0x00#8, 0x00#8, 0x00#8, 0x00#8,
     0xFF#8, 0x00#8, 0x00#8, 0x00#8, 0x00#8, 0x00#8, 0x00#8] := by decide

theorem test_region_record : (Region.image (image .print .complete)).record =
    [0x01#8, 0x02#8, 0x00#8, 0x02#8, 0x01#8, 0x00#8, 0x05#8, 0x00#8, 0x07#8, 0x00#8, 0x00#8, 0x00#8, 0x02#8, 0x00#8,
     0x00#8, 0x00#8, 0x00#8, 0x00#8, 0x00#8, 0x00#8] := by decide

/-- Two chunks, GOOD and UNCHECKED, then positions beyond the region's last chunk. -/
theorem test_chunks_record :
    (released .boot .checking .good).tables.chunksRecord (image .boot .checking) 0 = 0xF1#8 :: List.replicate 15 0xFF#8 := by
  decide

/-- The Window Map at the edges of its ranges (FSZ 0: B is 0x100000), with the records' indices. -/
theorem test_window_map :
    let s := released .boot .checking .good
    (s.windowMap 0x000000#24).state = some .good ∧ (s.windowMap 0x000800#24).state = some .unchecked ∧
    (s.windowMap 0x001000#24).cls = .uncovered ∧ (s.windowMap 0x008000#24).cls = .data ∧
    (s.windowMap 0x00FFFF#24).cls = .data ∧ (s.windowMap 0x010000#24).cls = .uncovered ∧
    (s.windowMap 0x0F7FFF#24).cls = .uncovered ∧ (s.windowMap 0x0F8000#24).cls = .manifest ∧
    (s.windowMap 0x0FFFFF#24).cls = .manifest ∧ (s.windowMap 0x100000#24).cls = .inactive ∧
    (s.windowMap 0x1FFFFF#24).cls = .inactive ∧ (s.windowMap 0x200000#24).cls = .outOfRange ∧
    (s.windowMap 0x000800#24).region = some 0 ∧ (s.windowMap 0x008000#24).region = some 1 ∧
    (s.windowMap 0x010000#24).region = none := by decide

/-- The decode of a chunk's last word, of bank 1 as the active bank, of the other half, and of TRANSPARENT. -/
theorem test_window_map_decode :
    let s := released .boot .checking .good
    let one := s.withBoot { s.boot with active := some .bank1 }
    s.windowMap 0x000FFF#24 = { cls := .imageChunk, loc := some (.bank0, 0xFFF, 0xFFF), region := some 0, state := some .unchecked
                                chunk := some { region := 0, index := 1, record := 1, offset := 0x7FF } } ∧
    one.windowMap 0x008000#24 = { cls := .data, loc := some (.bank1, 0x8000, 0x108000), region := some 1, chunk := none
                                  state := none } ∧
    (one.windowMap 0x100001#24).loc = some (.bank0, 1, 1) ∧ (settled.windowMap 0x0FFFFF#24).loc = some (.bank0, 0xFFFFF, 0xFFFFF) ∧
    (settled.windowMap 0x100000#24).loc = some (.bank1, 0, 0x100000) ∧ (settled.windowMap 0x200000#24).cls = .outOfRange ∧
    (inState .noBank s).windowMap 0#24 = { cls := .noMap, loc := none, region := none, chunk := none, state := none } := by
  decide

/-- SHA-256 of the empty message (FIPS 180-4). -/
theorem test_sha256_empty : sha256 [] =
    [0xe3#8, 0xb0#8, 0xc4#8, 0x42#8, 0x98#8, 0xfc#8, 0x1c#8, 0x14#8, 0x9a#8, 0xfb#8, 0xf4#8, 0xc8#8, 0x99#8, 0x6f#8,
     0xb9#8, 0x24#8, 0x27#8, 0xae#8, 0x41#8, 0xe4#8, 0x64#8, 0x9b#8, 0x93#8, 0x4c#8, 0xa4#8, 0x95#8, 0x99#8, 0x1b#8,
     0x78#8, 0x52#8, 0xb8#8, 0x55#8] := by decide +kernel

/-- FLASH_GRANT right after reset begins settling: bank 0's RESET sequence. -/
theorem test_first_grant :
    (match exec .flashGrant State.reset with
     | .next t => t.arbiter.access
     | .fault _ => none
     | .refused _ => none) =
    some (.settleSequence { bank := .bank0, kind := .reset, writes :=
      [(0x1E00, 0x5A3C#16), (0x0E1E, 0xA5C3#16), (0x1E00, 0x00F5#16)] }) := by decide

/-! ## Bits and bytes of link frames, EL_DOUT and SL_DOUT (R137, R138, R176, R185, R186) -/

/-- A byte's most significant bit comes first; three bits of a byte not completed are discarded. -/
theorem test_bits_of_a_frame :
    bytesOfBits ([false, true, false, true, true, true, false, true] ++ [true, true, true]) = [0x5D#8] ∧
    bytesOfBits [true, true, true] = [] := by decide

/-- READ's address most significant byte first, CHUNKS' start low byte first; no shorter beginning is a command. -/
theorem test_link_bytes :
    elDecode [0x4C#8, 0x12#8, 0x34#8, 0x56#8] = some (.elRead 0x123456#24) ∧ elDecode [0x4C#8, 0x12#8] = none ∧
    elDecode [0x5D#8] = some .elStatus ∧ elDecode [0x6E#8] = some .elIdent ∧
    elDecode [0x00#8] = some (.elUnknownCommand 0x00#8) ∧ slDecode [0x10#8] = some .slStatus ∧
    slDecode [0x12#8, 0x01#8, 0x34#8, 0x12#8] = some (.slChunks 0x01#8 0x1234#16) ∧ slDecode [0x12#8] = none ∧
    slDecode (0x20#8 :: 0x03#8 :: List.replicate 32 0xAB#8) = some (.slProvision 0x03#8 (List.replicate 32 0xAB#8)) ∧
    slDecode (0x20#8 :: 0x03#8 :: List.replicate 31 0xAB#8) = none ∧ slDecode [0x21#8, 0x02#8] = some (.slRevoke 0x02#8) ∧
    slDecode [0x16#8] = some (.slUnknown 0x16#8) ∧ slDecode [0x25#8] = some .slPatrol := by decide

theorem test_met_LinkCommandsAreSpelledByTheirBytes :
    (Instr.elRead 0x123456#24).wellFormed = true ∧
    elEncode (.elRead 0x123456#24) = some ([0x4C#8] ++ [0x12#8, 0x34#8, 0x56#8]) ∧
    (Instr.slChunks 1#8 0x1234#16).wellFormed = true ∧
    slEncode (.slChunks 1#8 0x1234#16) = some ([0x12#8, 0x01#8] ++ [0x34#8, 0x12#8]) ∧
    0x00#8 ∉ [0x4C#8, 0x5D#8, 0x6E#8] ∧ [true, true, true, true, true, true, true].length < 8 := by decide

/-- EL_DOUT is high while EL_SEL# is high, and sends the outgoing byte, most significant bit first, while it is low. -/
theorem test_el_dout :
    let t := settled.withEl { EngineLink.reset with selected := true, out := 0x82#8 }
    (∀ k : Fin 8, settled.el.dout k.val = true) ∧
    (∀ k : Fin 8, t.el.dout k.val = decide (k = 0 ∨ k = 6)) := by decide

/-- SL_DOUT is low while SL_SEL# is high; it sends 0x00 until the decision event, then the response's bytes and then 0x00. -/
theorem test_sl_dout :
    let t := settled.withSl { selected := true, frame := .decided [0x01#8, 0x80#8] }
    (t.sl.sends 0 = 0x01#8 ∧ t.sl.sends 1 = 0x80#8 ∧ t.sl.sends 2 = 0x00#8 ∧ t.sl.dout 1 0 = true ∧
      t.sl.dout 1 1 = false) ∧ (receiving settled).sl.sends 0 = 0x00#8 ∧ (receiving settled).sl.dout 0 0 = false ∧
    (∀ k : Fin 8, settled.sl.dout 0 k.val = false) := by decide

/-! ## The laws -/

/-- The state after reset meets every law, and so does what a brown-out makes of it, where the part is not live. -/
def halted : State := State.reset.brownOutFalls

theorem test_met_laws :
    State.reset.memoryLaw ∧ State.reset.flashLaw ∧ State.reset.quietLaw ∧ State.reset.holdLaw ∧ State.reset.gateLaw ∧
    State.reset.walkLaw ∧ State.reset.fuseLaw ∧ State.reset.slotLaw ∧ step State.reset = .next State.reset.tick := by
  refine ⟨⟨rfl, by decide⟩, ?_, fun h => absurd h (by decide), ⟨fun _ => ⟨rfl, Or.inr rfl⟩, fun _ => rfl⟩,
    ⟨by decide, by decide, fun _ => Or.inl rfl⟩, fun h => absurd rfl h, trivial, ⟨?_, by decide, ?_⟩, rfl⟩
  · intro h; exact absurd h.1 (by decide)
  · intro i j r c h
    have all : ∀ i : Fin 8, (State.reset.slot i).content = none := by decide
    simp [all i] at h
  · intro d h; cases h

theorem test_met_quiet : exec .brownOutFall State.reset = .next halted ∧ halted.live = false ∧ halted.arbiter.quiet ∧
    halted.verifier.quiet ∧ halted.walk.job = .none ∧ halted.port = .free ∧ halted.timer.running = false ∧ halted.gate.pgate = false ∧ halted.lines.crstOut = true ∧
    halted.gate.state = .closed := by
  refine ⟨rfl, by decide, ⟨by decide, by decide, by decide, by decide, by decide, by decide, by decide, by decide⟩,
    ⟨by decide, by decide, by decide, by decide, by decide, by decide⟩, by decide, by decide, by decide, by decide,
    by decide, by decide⟩

theorem test_met_ABadChunkStaysBad :
    let s := released .boot .failed .bad
    s.boot.state = .released ∧ step s = .next s.tick ∧ s.tick.boot.state = .released ∧ s.tables.chunkState 0 = .bad :=
  ⟨by decide, rfl, by decide, by decide⟩

/-! ## Reset and supply -/

theorem test_met_ThreeSourcesBeginAPartReset :
    settled.lines.inReset = false ∧ halted.lines.inReset = false ∧ halted.boot.state = .halted ∧
    (reset settled).lines.inReset = true ∧ (reset settled).flash.bank0.isRunning = false ∧
    (reset settled).flash.bank1.isRunning = false := by decide

theorem test_met_TheResetCauseIsTheSourceThatBeganTheReset :
    let u := receiving settled
    (reset settled).lines.inReset = true ∧ u.live = true ∧ u.sl.frame = .receiving ∧
    step (State.reset.withPending [.nrstFall]) = .next State.reset.nrstFalls ∧
    State.reset.nrstFalls.lines.cause ≠ State.reset.lines.cause := by
  refine ⟨by decide, by decide, by decide, rfl, by decide⟩

theorem test_met_AFactoryResetEndsInTransparent :
    let s := reset settled
    (s.lines.inReset = true ∧ s.lines.belowBrownOut = false ∧ s.fuse.op = none ∧ s.fuse.lifecycle = .factory) ∧
    (s.withLines { s.lines with belowBrownOut := true }).lines.belowBrownOut = true ∧
    (s.withFuse { s.fuse with op := some .lockSet }).fuse.op.isSome = true := by decide

theorem test_met_ADeployedResetEndsInSelecting :
    let s := (reset settled).withFuse { settled.fuse with lifecycle := .deployed }
    s.lines.inReset = true ∧ s.lines.belowBrownOut = false ∧ s.fuse.op = none ∧ s.fuse.lifecycle = .deployed := by decide

theorem test_met_BrownOutEntersHalted :
    let u := settled.withSl { selected := true, frame := .decided [0x01#8] }
    settled.lines.inReset = false ∧ settled.boot.state ≠ .halted ∧ settled.gate.state = .opened ∧
    (released .boot .checking .good).gate.state ≠ .opened ∧ u.sl.frame = .decided [0x01#8] := by decide

theorem test_met_TheWarningLevelMovesSupplyLowAndTheWipe :
    let clear := settled.withFuse { settled.fuse with lockClear := true }
    let work := settled.withFuse { settled.fuse with work := [.commit, .undemote] }
    let busy := settled.withFuse { settled.fuse with op := some .lockSet }
    (∀ u ∈ [clear, work], u.lines.belowBrownOut = false ∧ u.live = true ∧ u.fuse.op = none) ∧
    (busy.lines.belowBrownOut = false ∧ busy.fuse.op.isSome = true) ∧ halted.lines.belowBrownOut = true ∧
    (halted.withLines { halted.lines with belowBrownOut := false }).live = false := by decide

/-- ALERT for each condition with its mask bit set and clear, for NOBANK whatever the mask, and in a part reset. -/
theorem test_alert :
    let none_ : AlertMask := { bad := false, late := false, violation := false, supplyLow := false }
    let quiet : Alerts := { bad := false, late := false, violation := false, supplyLow := false, noBank := false }
    let s := fun (a : Alerts) (m : AlertMask) =>
      (settled.withAlerts a).withBoot { settled.boot with params := { settled.boot.params with mask := m } }
    let bad := { quiet with bad := true }
    let late := { quiet with late := true }
    let violation := { quiet with violation := true }
    let low := { quiet with supplyLow := true }
    (∀ a ∈ [bad, late, violation, low, quiet], (s a none_).alert = false) ∧
    (s bad { none_ with bad := true }).alert = true ∧ (s late { none_ with late := true }).alert = true ∧
    (s violation { none_ with violation := true }).alert = true ∧ (s low { none_ with supplyLow := true }).alert = true ∧
    (s bad { none_ with late := true }).alert = false ∧ (s { quiet with noBank := true } none_).alert = true ∧
    (reset (s { quiet with noBank := true } none_)).alert = false := by decide

/-- A read held for its word, and one held for its proof. -/
def heldRead (w : HeldWait) : HeldRead :=
  { addr := 3#24, cls := .imageChunk, chunk := some { region := 0, index := 0, record := 0, offset := 3 }, bank := .bank0,
    flash := 3, wait := w }

def heldState (w : HeldWait) (chunk : ChunkState) : State := (released .boot .checking chunk).withPort (.held (heldRead w))

/-- An operation at word 9 of bank 1. -/
def operation (o : OperationOwner) (k : SequenceKind) (p : OperationPhase) (retry : Bool) : Operation :=
  { owner := o, kind := k, bank := .bank1, pollAddr := 0x100009, phase := p, retry := retry }

/-- The tracker in a state, following a sequence for bank 1. -/
def tracking (s : State) (st : TrackerState) (ws : List AbsorbedWrite) : State :=
  s.setTracker { state := st, bank := some .bank1, writes := ws }

def arb (s : State) (f : Arbiter → Arbiter) : State := s.withArbiter (f s.arbiter)

/-! ## Hypotheses that are met: the queue and the tick -/

theorem test_met_AnEmptyQueueStepsOneTick :
    let before := fun p => (timed p).withTimer { (timed p).timer with counter := 48 }
    let at_ := fun p => (timed p).withTimer { (timed p).timer with counter := 49 }
    let h := settled.withGate { settled.gate with fresh := false, count := 3 }
    let op := (opened (at_ .patrol)).setOp (some (operation .tracker .program .polling true))
    let settling := arb settled fun a => { a with settle := some { bank := .bank0, step := .retry } }
    (∀ p ∈ [TimerPurpose.intake, .bootDeadline, .patrol], (before p).live = true ∧ (before p).pending = [] ∧
      (before p).timer.running = true ∧ (before p).timer.counter + 1 < (before p).timer.compare ∧ (at_ p).live = true ∧
      (at_ p).pending = [] ∧ (at_ p).timer.counter + 1 = (at_ p).timer.compare) ∧
    (∀ u ∈ [settled, h, settling], u.live = true ∧ u.pending = [] ∧ u.timer.running = false ∧ u.gate.state = .opened) ∧
    settled.gate.fresh = true ∧ ¬ (h.gate.fresh = true ∨ h.boot.params.halfPeriod ≤ h.gate.count + 1) ∧
    op.live = true ∧ op.pending = [] ∧ op.gate.state = .opened ∧ op.timer.running = true ∧
    op.timer.counter + 1 = op.timer.compare ∧ op.filter.op = some (operation .tracker .program .polling true) ∧
    settling.arbiter.settle = some { bank := .bank0, step := .retry } := by decide

/-- One tick at which the timer expires, PGATE goes high and a poll pair is asked for again. -/
theorem test_tick :
    let s := ((opened (timed .patrol)).withTimer { (timed .patrol).timer with counter := 49 }).setOp
      (some (operation .tracker .program .polling true))
    s.tick.timer.counter = 0 ∧ s.tick.timer.running = true ∧ s.tick.scan.pass = .none ∧ s.tick.gate.pgate = true ∧
    s.tick.arbiter.pollWait = some { bank := .bank1, addr := 0x100009 } ∧
    s.tick.filter.op = some (operation .tracker .program .polling false) := by decide +kernel

/-! ## Hypotheses that are met: reset, supply and expiries -/

def erase1 : SequenceRequest := { bank := .bank1, kind := .erase, writes := [] }

theorem test_met_CrstInEndsTheAccessAndThePartialSequence :
    let busy := fun p => (tracking settled .flashBusy []).setOp (some (operation .tracker .erase p false))
    let granted := arb (busy .sending) fun a => { a with access := some (.cpSequence erase1) }
    let waiting := arb (busy .sending) fun a => { a with cpWait := some (.sequence erase1) }
    (heldState .flash .good).filter.tracker.state ≠ .flashBusy ∧
    (heldState .flash .good).port = .held (heldRead .flash) ∧ (heldRead .flash).wait = .flash ∧
    (heldState .proof .unchecked).port = .held (heldRead .proof) ∧ (heldRead .proof).wait = .proof ∧
    (((heldState .proof .unchecked).setSlot 0 { Slot.reset with waiter := some 3 }).slot 0).waiter.isSome = true ∧
    (tracking settled .en1 []).filter.tracker.state ≠ .idle ∧ settled.filter.tracker.state = .idle ∧
    (∀ u ∈ [busy .polling, granted, waiting], u.filter.tracker.state = .flashBusy) ∧
    (busy .polling).filter.op = some (operation .tracker .erase .polling false) ∧
    granted.filter.op = some (operation .tracker .erase .sending false) ∧
    granted.arbiter.access = some (.cpSequence erase1) ∧
    waiting.filter.op = some (operation .tracker .erase .sending false) ∧ waiting.arbiter.access = none := by decide

/-! ## Timer and patrol -/

theorem test_met_ADeadlineExpiryActsByItsPurpose :
    let i := fun b => inState b (timed .intake)
    let s := timed .bootDeadline
    let u := s.withGate { Gate.reset with state := .latched, cause := some .chunkBad }
    (∀ b ∈ [BootState.selecting, .walking, .preverify],
      (i b).live = true ∧ (i b).timer.running = true ∧ (i b).timer.purpose = .intake ∧ (i b).boot.state = b) ∧
    s.live = true ∧ s.timer.running = true ∧ s.timer.purpose = .bootDeadline ∧ s.gate.state = .closed ∧
    s.scan.pass ≠ .patrol ∧ u.live = true ∧ u.timer.running = true ∧ u.timer.purpose = .bootDeadline ∧
    u.gate.state = .latched := by decide

/-- RELEASED with the gate OPEN and a list of the one region, COMPLETE, its chunk 0 GOOD. -/
def patrolling : State :=
  let s := opened (released .boot .complete .good)
  (s.withScan { Scan.reset with list := [0] }).withTimer
    { counter := 0, compare := 100, running := true, purpose := .patrol }

theorem test_met_APatrolPassStartsAtTheFirstChunk :
    let s := receiving patrolling
    let closed := receiving (timed .patrol)
    let none_ := receiving (patrolling.withBoot { patrolling.boot with params := Params.reset })
    let running := receiving (patrolling.withScan { patrolling.scan with pass := .first })
    (s.gate.state = .opened ∧ s.boot.params.patrolInterval ≠ 0 ∧ s.scan.pass = .none ∧
      s.scan.list.head? = some 0 ∧ s.tables.image 0 = some (image .boot .complete) ∧
      (image .boot .complete).state = .complete ∧ s.tables.chunkState (image .boot .complete).first = .good ∧
      1 ≤ (image .boot .complete).count ∧ s.chunkHolder 0 0 = none ∧ s.lowestFree = some 0) ∧
    (∀ u ∈ [s, closed, none_, running], u.live = true ∧ u.timer.running = true ∧ u.timer.purpose = .patrol ∧
      u.sl.frame = .receiving) ∧
    closed.gate.state ≠ .opened ∧ none_.boot.params.patrolInterval = 0 ∧ running.scan.pass ≠ .none := by decide

/-- The Scanner with a pass and a cursor in a list of the one region of two chunks, its chunk 0 in a state; slot 0 as given. -/
def scanning (p : Pass) (c : Cursor) (st : RegionState) (k : ChunkState) (v : Slot) : State :=
  (with0 (released .boot st k) v).withScan { list := [0], pass := p, cursor := some c }

theorem test_met_TheScannerStepsAndEndsItsPass :
    let held := fun p => { Slot.reset with state := .hashing, purpose := some p, content := some (.chunk 0 0) }
    let g := fun st => image .boot st
    (scanning .none .endMark .checking .good Slot.reset).scan.pass = .none ∧
    (∀ p ∈ [Pass.first, .patrol, .patrolStopping],
      let own := if p = .first then Purpose.scan else .patrol
      let u := scanning p .endMark .complete .good
      (u Slot.reset).scan.pass = p ∧ (u Slot.reset).anySlot own = false ∧
      ((u (held own)).slot 0).state ≠ .free ∧ ((u (held own)).slot 0).purpose = some own) ∧
    (∀ st ∈ [RegionState.checking, .complete, .failed], ∀ k ∈ [0, 1],
      let u := scanning .first (.at_ 1 k) st .good Slot.reset
      u.scan.cursor = some (.at_ 1 k) ∧ 1 ≤ 1 ∧ u.scan.list[1 - 1]? = some 0 ∧ u.tables.image 0 = some (g st)) ∧
    (g .failed).state = .failed ∧ (g .checking).state ≠ .complete ∧ (g .complete).state = .complete ∧
    (∀ p ∈ [(Pass.first, RegionState.checking, ChunkState.unchecked), (.patrol, .complete, .good)],
      let u := scanning p.1 (.at_ 1 0) p.2.1 p.2.2
      (u Slot.reset).tables.chunkState 0 = p.2.2 ∧ (u (held .demand)).chunkHolder 0 0 = some 0 ∧
      (u Slot.reset).chunkHolder 0 0 = none ∧ (u Slot.reset).lowestFree = some 0 ∧
      (full (u Slot.reset)).chunkHolder 0 0 = none ∧ (full (u Slot.reset)).lowestFree = none) := by decide

/-- Stepping from the first chunk, GOOD, of a region of two: chunk 0 is passed, chunk 1 claimed at class 5, and the cursor is at
the end mark with the pass still on; in a patrol chunk 0 is claimed, and chunk 1, which is UNCHECKED, is not. -/
theorem test_scanner_steps :
    let a := (scanning .first (.at_ 1 0) .checking .good Slot.reset).scanResume
    let b := (scanning .patrol (.at_ 1 0) .complete .good Slot.reset).scanResume
    a.scan = { list := [0], pass := .first, cursor := some .endMark } ∧
    (a.slot 0).content = some (.chunk 0 1) ∧ (a.slot 0).purpose = some .scan ∧ (a.slot 1).state = .free ∧
    a.arbiter.slotWait[0] = some .class5 ∧ (b.slot 0).content = some (.chunk 0 0) ∧
    (b.slot 0).purpose = some .patrol ∧ (b.slot 1).state = .free := by decide +kernel

/-! ## The Flash Port -/

def cpWord (b : Bank) (img : Bool) : CpWordRequest := { bank := b, addr := 3, image := img }
def elWord : ElWordRequest := { window := 1, bank := .bank0, addr := 1 }
def burst (read : Nat) : Burst :=
  { slot := 0, bank := .bank0, base := 64, number := 1, read := read, fate := .live }
def pollOf : PollRequest := { bank := .bank1, addr := 0x100009 }

/-- A slot filling with a chunk of the image region. -/
def filling (p : Purpose) (bursts : Nat) : Slot :=
  { Slot.reset with state := .filling, purpose := some p, content := some (.chunk 0 0), bursts := bursts, order := some 1 }

/-- Slots 0 and 1 with burst requests of a class, for chunks of bank 0. -/
def slotsWait (c : BurstClass) : State :=
  let s := (released .boot .checking .good).setSlot 0 (filling .demand 0)
  arb (s.setSlot 1 { filling .demand 0 with content := some (.chunk 0 1) }) fun a =>
    { a with slotWait := (a.slotWait.set 0 (some c)).set 1 (some c) }

theorem test_met_TheGrantTakesTheMostUrgentRequest :
    let s := released .boot .checking .good
    let busy := arb s fun a => { a with cond0 := .busy, cpWait := some (.read (cpWord .bank0 false)) }
    let sequence := arb s fun a => { a with cpWait := some (.sequence erase1) }
    let el := arb s fun a =>
      { a with cond1 := .busy, cpWait := some (.read (cpWord .bank1 true)), elWait := some elWord }
    let parked := arb s fun a => { a with parked := some (burst 7) }
    let suspended := arb s fun a => { a with suspended := some (burst 7) }
    let poll := arb s fun a => { a with pollWait := some pollOf }
    let maint := arb s fun a => { a with maintWait := some erase1 }
    (State.reset.live = true ∧ State.reset.arbiter.access = none ∧
      State.reset.arbiter.settle = some { bank := .bank0, step := .resetDue }) ∧
    (arb settled fun a => { a with settle := some { bank := .bank1, step := .pollDue } }).live = true ∧
    (busy.portFree ∧ busy.cpOpen) ∧ (sequence.portFree ∧ sequence.cpOpen) ∧
    (el.portFree ∧ ¬ el.cpOpen ∧ el.elOpen) ∧
    (parked.portFree ∧ ¬ parked.cpOpen ∧ ¬ parked.elOpen ∧ parked.parkedOpen) ∧
    (suspended.portFree ∧ ¬ suspended.cpOpen ∧ ¬ suspended.elOpen ∧ ¬ suspended.parkedOpen) ∧
    ((slotsWait .class3).class3Turn ∧ (slotsWait .class3).slotOpen .class3 0) ∧
    (poll.class3Turn ∧ (∀ i, ¬ poll.slotOpen .class3 i) ∧ poll.pollOpen) ∧
    ((slotsWait .class5).class5Turn ∧ (slotsWait .class5).slotOpen .class5 0) ∧
    (maint.class5Turn ∧ (∀ i, ¬ maint.slotOpen .class5 i) ∧ maint.maintOpen) := by
  simp only [State.class5Turn, State.class3Turn, State.portFree_iff, State.cpOpen_iff, State.elOpen_iff,
    State.slotOpen_iff, State.parkedOpen_iff, State.pollOpen_iff, State.maintOpen_iff]
  and_intros <;> decide

theorem test_met_AHeldBackRequestIsNotGranted :
    let s := arb (slotsWait .class5) fun a => { a with cond0 := .busy, cond1 := .settling }
    let all := arb s fun a =>
      { a with cpWait := some (.sequence erase1), elWait := some elWord, pollWait := some pollOf,
               maintWait := some erase1, parked := some (burst 7) }
    ¬ all.cpOpen ∧ ¬ all.elOpen ∧ (∀ i c, ¬ all.slotOpen c i) ∧ ¬ all.parkedOpen ∧ ¬ all.pollOpen ∧ ¬ all.maintOpen ∧
    all.class5Turn ∧ halted.live = false := by
  simp only [State.class5Turn, State.class3Turn, State.portFree_iff, State.cpOpen_iff, State.elOpen_iff,
    State.slotOpen_iff, State.parkedOpen_iff, State.pollOpen_iff, State.maintOpen_iff]
  refine ⟨by decide, by decide, fun i c => ?_, by decide, by decide, by decide, by and_intros <;> decide, by decide⟩
  cases c <;> revert i <;> decide

/-- The pointer at the last slot, and at slots 0 and 1 with both waiting. -/
theorem test_met_SlotsOfAClassAreServedRoundRobin :
    let at0 := arb (slotsWait .class5) fun a => { a with rr5 := 0 }
    ((slotsWait .class3).class3Turn ∧ (slotsWait .class5).class5Turn ∧ (slotsWait .class3).arbiter.rr3 = 7) ∧
    (∀ k, (slotsWait .class3).slotOpen .class3 k ↔ k = 0 ∨ k = 1) ∧
    (at0.class5Turn ∧ at0.arbiter.rr5 = 0 ∧ ∀ k, at0.slotOpen .class5 k ↔ k = 0 ∨ k = 1) ∧
    (slotsWait .class3).slotAddr 0 = some (.bank0, 0) := by
  simp only [State.class5Turn, State.class3Turn, State.portFree_iff, State.cpOpen_iff, State.elOpen_iff,
    State.slotOpen_iff, State.parkedOpen_iff, State.pollOpen_iff]
  and_intros <;> decide

theorem test_met_ABurstWordGoesToItsPlaceInTheBuffer :
    let at_ := fun b => arb ((released .boot .checking .good).setSlot 0 (filling .demand 1)) fun a =>
      { a with access := some (.burst b) }
    let s := at_ (burst 62)
    let parks := arb s fun a => { a with cond0 := .busy }
    let pauses := arb s fun a => { a with cpWait := some (.read (cpWord .bank0 true)) }
    (∀ u ∈ [s, parks, pauses], u.arbiter.access = some (.burst (burst 62)) ∧
      (u.flash.bank (bankOfFlash u.bankWords 126)).mode = .array ∧ Memory.wf flashDefault u.flash.cells = true ∧
      ∀ i : Fin 8, Memory.wf bufferDefault (u.slot i).buffer = true) ∧
    (∀ f ∈ [BurstFate.discard, .stop],
      (at_ { burst 62 with fate := f }).arbiter.access = some (.burst { burst 62 with fate := f })) ∧
    (burst 62).read < 63 ∧ (burst 62).fate = .live ∧ parks.bankCond .bank0 ≠ .idle ∧ pauses.bankCond .bank0 = .idle ∧
    pauses.cpOpen ∧ s.bankCond .bank0 = .idle ∧ ¬ s.cpOpen ∧ ¬ s.elOpen := by
  simp only [State.cpOpen_iff, State.elOpen_iff]
  decide

/-- A buffer holding bytes at offsets. -/
def bufferOf (parts : List (Nat × List Byte)) : Memory :=
  parts.foldl (fun m p => (p.2.zipIdx p.1).foldl (fun m b => Memory.write bufferDefault m b.2 b.1) m) []

/-- The fixed part of a manifest of `n` entries, by the low byte of its magic: half-period 1, boot deadline 1. -/
def manifestOf (magic n : Byte) (entries : List (Nat × List Byte)) : Memory :=
  bufferOf ([(0, [magic, 0x0E#8, 0xA3#8, 0x36#8, 0x01#8, 0x00#8, n, 0x01#8]), (16, [0x01#8])] ++ entries)

/-- A BOOT entry with the ENGINE flag: counter 7, version 5, two chunks from chunk 0, its list at word 2048. -/
def imageEntry : List Byte :=
  [0x01#8, 0x01#8, 0x07#8, 0x05#8, 0x01#8, 0x00#8, 0x07#8, 0x00#8, 0x00#8, 0x00#8, 0x02#8, 0x00#8, 0x00#8, 0x08#8]

/-- WALKING on bank 0 with this root frame manifest in slot 0. -/
def walking (m : Memory) (f : Frame) (rest : List Frame) : State :=
  let s := inState .walking (released .boot .checking .unchecked)
  (((s.withTables Tables.reset).withWalk { Walk.reset with
    stack := f :: rest
    keys := [{ digest := [], parent := none, depth := 1, entry := none }] }).withTimer Timer.reset).setSlot 0
    { Slot.reset with state := .held, purpose := some .manifest, order := some 1, buffer := m }

def frame0 : Frame :=
  { slot := 0, signer := 0, next := 0, base := 0, count := 496, mask := { boot := true, print := true, optional := true } }

def delegateJob (st : JudgeStep) : DelegateJob :=
  { slot := 0, at_ := st, base := 0, count := 2, mask := { boot := true, print := false, optional := false },
    keyDigest := sha256 [] }

/-- Slot 0's manifest under judgement: bank 0's or bank 1's root manifest, or a delegate manifest. -/
def judgingBank (k : Bank) (st : JudgeStep) (m : Memory) : State :=
  let s := (inState .selecting settled).setSlot 0
    { Slot.reset with state := .filling, purpose := some .manifest, content := some (.piece k 496), bursts := 31,
                      order := some 1, buffer := m }
  s.withBoot ({ s.boot with root0 := .rejected, root1 := .rejected }.setRoot k (.judging 0 st [1#8]))

def judgingDelegate (st : JudgeStep) (m : Memory) : State :=
  let s := walking m { frame0 with slot := 1 } []
  (s.withWalk { s.walk with job := .delegate (delegateJob st) }).setSlot 0
    { s.slot 0 with state := .filling, content := some (.piece .bank0 0), bursts := 31 }

theorem test_met_ABurstCompletesAFillOfThirtyTwo :
    let on := fun (s : State) => arb s fun a => { a with access := some (.burst (burst 63)) }
    let s := fun n => on ((released .boot .checking .good).setSlot 0 (filling .demand n))
    let busy := (s 31).withVerifier { (s 31).verifier with engine := some 5 }
    let root := fun k m => on (judgingBank k .fill m)
    let dele := fun m => on (judgingDelegate .fill m)
    let last := fun (u : State) => Memory.writeWord bufferDefault (u.slot 0).buffer 127
      (Flash.read u.bankWords u.flash 127).1
    (∀ u ∈ [s 30, s 31, busy], u.arbiter.access = some (.burst (burst 63)) ∧
      (u.slot (burst 63).slot).purpose ≠ some .manifest) ∧
    (burst 63).read = 63 ∧ (burst 63).fate = .live ∧ ((s 30).slot 0).bursts + 1 < 32 ∧
    32 ≤ ((s 31).slot 0).bursts + 1 ∧ (s 31).verifier.engine = none ∧ (s 31).verifier.hashQueue = [] ∧
    busy.verifier.engine.isSome = true ∧
    (∀ p ∈ [Purpose.manifest, .list, .scan, .patrol, .demand], ∀ n ∈ [0, 30],
      let u := on ((released .boot .checking .good).setSlot 0 (filling p n))
      u.arbiter.access = some (.burst (burst 63)) ∧ (u.slot 0).purpose = some p ∧ (u.slot 0).bursts + 1 < 32 ∧
      (u.slot 0).waiter = none ∧ (u.slot 0).flag = false) ∧
    (∀ k ∈ [Bank.bank0, .bank1], ∀ m ∈ [manifestOf 0x51#8 1#8 [(128, imageEntry)], []],
      let u := root k m
      u.boot.root k = .judging 0 .fill [1#8] ∧ u.boot.root k.other = .rejected ∧ 32 ≤ (u.slot 0).bursts + 1 ∧
      (u.slot 0).purpose = some .manifest ∧ u.verifier.pendingDemand = none ∧ u.scan.pass = .none ∧
      rootChecks u.fuse (last u) = !m.isEmpty) ∧
    (∀ m ∈ [manifestOf 0xD7#8 1#8 [(128, imageEntry)], []],
      let u := dele m
      u.walk.job = .delegate (delegateJob .fill) ∧ u.walk.stack = [{ frame0 with slot := 1 }] ∧
      u.boot.root0 = .notJudged ∧ u.boot.root1 = .notJudged ∧ 32 ≤ (u.slot 0).bursts + 1 ∧
      u.verifier.pendingDemand = none ∧ u.scan.pass = .none ∧ delegateChecks (last u) = !m.isEmpty) := by
  decide +kernel

theorem test_met_TheFlashStartsOnAWholeSequence :
    let f := Flash.powerUp
    let g := f.setBank .bank1 { mode := .failed, toggle := true }
    (0xFFFFF < bankWords 0#2) ∧ (∀ u ∈ [f, g], u.following = .none ∧ u.bank0.isRunning = false ∧
      u.bank1.isRunning = false) ∧ (f.bank .bank0).mode = .array ∧ (g.bank .bank1).mode = .failed := by decide

/-- A wipe of bank 1 at a sector, in a state. -/
def wiping (st : WipeState) (k : Nat) : State :=
  (released .boot .checking .good).withWipe { state := st, k := k, bank := some .bank1, last := .none }

/-- A RESET that the main controller forwarded while an erase of the wipe was in flight. -/
def resetWaits (s : State) : State :=
  (tracking s .flashBusy
    [{ addr := 0x101E00#24, offset := 0x1E00, value := 0x5A3C#16 },
     { addr := 0x100E1E#24, offset := 0x0E1E, value := 0xA5C3#16 },
     { addr := 0x101E00#24, offset := 0x1E00, value := 0x00F5#16 }]).withPort .writeHeld

theorem test_met_ASequenceSentMakesItsBankBusyAndIsPolled :
    let o := operation .tracker .erase .sending false
    let s := ((arb settled fun a => { a with access := some (.cpSequence erase1) }).setOp (some o)).withPort .writeHeld
    let parks := arb s fun a => { a with suspended := some { burst 7 with bank := .bank1 } }
    let reset1 : SequenceRequest := { erase1 with kind := .reset }
    let maint := fun q op => (arb (wiping .erasing 3) fun a => { a with access := some (.maintenance q) }).setOp (some op)
    let recovers := fun w => maint reset1 (operation w .erase .recovering false)
    let waits := resetWaits (recovers .wipe)
    let settles := arb settled fun a =>
      { a with access := some (.settleSequence reset1), settle := some { bank := .bank1, step := .sending } }
    (∀ u ∈ [s, parks], u.arbiter.access = some (.cpSequence erase1) ∧ u.filter.op = some o ∧ u.port = .writeHeld ∧
      u.arbiter.cpWait = none) ∧ o.owner = .tracker ∧ s.arbiter.suspended = none ∧
    parks.arbiter.suspended = some { burst 7 with bank := .bank1 } ∧ erase1.kind ≠ .reset ∧
    ((maint erase1 (operation .wipe .erase .sending false)).arbiter.access = some (.maintenance erase1)) ∧
    (∀ w ∈ [OperationOwner.tracker, .wipe], (recovers w).arbiter.access = some (.maintenance reset1) ∧
      (recovers w).filter.op = some (operation w .erase .recovering false) ∧ reset1.kind = .reset ∧
      (recovers w).filter.tracker.state ≠ .flashBusy) ∧
    (waits.arbiter.access = some (.maintenance reset1) ∧ waits.filter.tracker.state = .flashBusy ∧
      waits.filter.tracker.bank = some .bank1 ∧ (waits.filter.tracker.writes[2]?).map (fun x => x.value) = some 0x00F5#16 ∧
      waits.port = .writeHeld ∧ waits.arbiter.cpWait = none) ∧
    settles.arbiter.access = some (.settleSequence reset1) ∧
    settles.arbiter.settle = some { bank := .bank1, step := .sending } := by decide

/-- The flash with an operation running in a bank. -/
def flashing (b : Bank) (m : FlashMode) : State :=
  settled.withFlash (settled.flash.setBank b { mode := m, toggle := false })

theorem test_met_AFlashOperationEndsInTheArray :
    let p := flashing .bank0 (.running (.program 5 0x1234#16))
    let e := flashing .bank1 (.running (.erase 0x100000))
    (p.flash.bank .bank0).mode = .running (.program 5 0x1234#16) ∧
    (e.flash.bank .bank1).mode = .running (.erase 0x100000) ∧
    (∀ u ∈ [p, e], (u.flash.bank0.isRunning && u.flash.bank1.isRunning) = false ∧
      Memory.wf flashDefault u.flash.cells = true ∧ ∀ i : Fin 8, Memory.wf bufferDefault (u.slot i).buffer = true) := by
  decide

theorem test_met_APollPairJudgesTheOperation :
    let s := fun o m first => (arb (flashing .bank1 m) fun a => { a with access := some (.filterPoll pollOf first) }).setOp
      (some o)
    let clean := fun o => s o .array 0xFFFF#16
    let failed := fun o => s o .failed 0x0208#16
    let running := fun o => s o (.running (.program 0x100009 0#16)) 0x1008#16
    (∀ o ∈ [operation .tracker .program .polling false, operation .tracker .reset .polling false,
        operation .wipe .erase .polling false],
      (clean o).filter.op = some o ∧ (failed o).filter.op = some o ∧ (running o).filter.op = some o ∧
      (bankOfFlash (clean o).bankWords pollOf.addr = .bank1 ∧ ((clean o).flash.bank .bank1).mode = .array ∧
        (clean o).flash.arrayWord pollOf.addr = 0xFFFF#16 ∧ (clean o).arbiter.access = some (.filterPoll pollOf 0xFFFF#16)) ∧
      (((failed o).flash.bank .bank1).mode = .failed ∧
        0x0208#16 = 0x0200#16 ||| toggleBit (!((failed o).flash.bank .bank1).toggle) ∧
        (failed o).arbiter.access = some (.filterPoll pollOf 0x0208#16)) ∧
      (((running o).flash.bank .bank1).mode = .running (.program 0x100009 0#16) ∧
        0x1008#16 = 0x1000#16 ||| toggleBit (!((running o).flash.bank .bank1).toggle) ∧
        (running o).arbiter.access = some (.filterPoll pollOf 0x1008#16))) := by decide

theorem test_met_SettlingMakesTheBanksIdleInTurn :
    let p : PollRequest := { bank := .bank1, addr := 0x100000 }
    let at_ := fun m (first : Word) => arb (flashing .bank1 m) fun a =>
      { a with access := some (.settlePoll p first), settle := some { bank := .bank1, step := .polling } }
    let retry := arb settled fun a => { a with settle := some { bank := .bank0, step := .retry } }
    let o := operation .tracker .program .polling true
    let again := settled.setOp (some o)
    (∀ x ∈ [(FlashMode.array, 0xFFFF#16), (.failed, 0x0208#16), (.running (.program 0x100009 0#16), 0x1008#16)],
      let u := at_ x.1 x.2
      u.arbiter.access = some (.settlePoll p x.2) ∧ u.arbiter.settle = some { bank := .bank1, step := .polling } ∧
      (u.flash.bank (bankOfFlash u.bankWords p.addr)).mode = x.1 ∧ u.flash.arrayWord p.addr = 0xFFFF#16 ∧
      0x0208#16 = 0x0200#16 ||| toggleBit (!(u.flash.bank .bank1).toggle) ∧
      0x1008#16 = 0x1000#16 ||| toggleBit (!(u.flash.bank .bank1).toggle)) ∧
    (retry.live = true ∧ retry.arbiter.settle = some { bank := .bank0, step := .retry } ∧ retry.filter.op = none) ∧
    (again.live = true ∧ again.filter.op = some o ∧ o.phase = .polling ∧ o.retry = true ∧
      again.arbiter.settle = none) := by decide

/-- Sectors before the last and the last, with and without a RESET that waits. -/
theorem test_met_TheWipeErasesSectorAfterSector :
    let start := wiping .waiting 31
    let o := operation .wipe .erase .polling false
    let s := fun k => (arb (wiping .erasing k) fun a => { a with access := some (.filterPoll pollOf 0xFFFF#16) }).setOp
      (some o)
    let waits := resetWaits (s 31)
    (start.live = true ∧ start.wipe.state = .waiting ∧ start.wipe.bank = some .bank1 ∧
      start.filter.tracker.state = .idle ∧ start.filter.op = none ∧ start.alerts.supplyLow = false) ∧
    (∀ u ∈ [s 30, s 31, waits], u.arbiter.access = some (.filterPoll pollOf (u.flash.arrayWord pollOf.addr)) ∧
      (u.flash.bank (bankOfFlash u.bankWords pollOf.addr)).mode = .array ∧ u.filter.op = some o) ∧
    o.owner = .wipe ∧ o.kind = .erase ∧ (s 30).filter.tracker.state = .idle ∧
    (s 30).wipe.k + 1 < bankSectors (s 30).lines.fsz ∧ bankSectors (s 31).lines.fsz ≤ (s 31).wipe.k + 1 ∧
    (waits.filter.tracker.state = .flashBusy ∧ waits.filter.tracker.bank = some .bank1 ∧
      (waits.filter.tracker.writes[2]?).map (fun x => x.value) = some 0x00F5#16 ∧ waits.port = .writeHeld ∧
      waits.arbiter.cpWait = none) := by decide

/-! ## Hashing, verdicts, manifests -/

/-- The engine hashing slot 0 with chunk 0 of the image region. -/
def hashing (s : State) : State :=
  let u := with0 s { filling .demand 32 with state := .hashing }
  u.withVerifier { u.verifier with engine := some 0 }

/-- The digest of a slot whose buffer nothing has written. -/
def digest0 : List Byte := (sha256 (Memory.bytes bufferDefault [] 0 4096)).take 16

/-- A chunk whose slot's digest is the expected one, and one that expects what no digest is. -/
def chunk (matches_ : Bool) (st : ChunkState) : ChunkRecord :=
  { expected := some (if matches_ then digest0 else []), owner := 0, state := st }

/-- A hash of the region's chunk 0, by the region, the chunk's state, and whether it matches. -/
def verdictOn (g : ImageRegion) (k : ChunkState) (ok : Bool) : State :=
  (hashing (released .boot .checking .good)).withTables { regions := [.image g], chunks := [chunk ok k, record .unchecked] }

theorem test_verdict_is_good (k : ChunkState) (g : ImageRegion) :
    decide ((sha256 (Memory.bytes bufferDefault ((verdictOn g k true).slot 0).buffer 0 4096)).take 16 = digest0) = true :=
  decide_eq_true rfl

theorem test_verdict_is_bad (k : ChunkState) (g : ImageRegion) :
    decide ((sha256 (Memory.bytes bufferDefault ((verdictOn g k false).slot 0).buffer 0 4096)).take 16 = []) = false := by
  simp [sha256, shaFinish, shaWordBytes]

/-- What the verdict statements (AChunkVerdictMovesTheTables and the three after it) ask of a hash of chunk 0. -/
theorem test_met_verdicts (g : ImageRegion) (k : ChunkState) (ok : Bool) (h : g.first = 0) :
    let s := verdictOn g k ok
    s.boot.state = .released ∧ s.verifier.engine = some 0 ∧ (s.slot 0).content = some (.chunk 0 0) ∧
    s.tables.image 0 = some g ∧ s.tables.chunks[g.first + 0]? = some (chunk ok k) ∧
    (chunk ok k).expected = some (if ok then digest0 else []) ∧ (chunk ok k).state = k := by
  refine ⟨rfl, rfl, rfl, rfl, ?_, rfl, rfl⟩
  rw [h]
  rfl

/-- The region's tables after a GOOD verdict on its last chunk and on one before it; a patrol mismatch with another patrol slot
left and with none; an opening with the active bank the demoted one. -/
theorem test_met_AVerdictMovesTheGate :
    let g := image .print .checking
    let last : ImageRegion := { g with good := 1 }
    let s := verdictOn g .unchecked true
    let moved := fun (g' : ImageRegion) => ({ regions := [.image g'], chunks := [record .good, record .good] } : Tables)
    let patrol := ((opened (verdictOn { g with state := .complete, good := 2 } .good false)).withScan
      { list := [0], pass := .patrol, cursor := some .endMark }).setSlot 2 (filling .patrol 0)
    let demoted := s.withFuse { s.fuse with demoted := some .bank0 }
    (g.cls = .print ∧ g.state = .checking ∧ s.gate.state = .closed ∧ g.first = 0 ∧ last.state = .checking) ∧
    ((moved { last with good := 2, state := .complete }).requiredComplete = true ∧
      (moved { g with good := 1 }).requiredComplete = false) ∧
    (patrol.gate.state = .opened ∧ patrol.scan.pass = .patrol ∧ (patrol.slot 2).state ≠ .free ∧
      (patrol.slot 2).purpose = some .patrol) ∧
    s.boot.params.patrolInterval ≠ 0 ∧ s.fuse.work = [] ∧ s.live = true ∧ s.fuse.op = none ∧
    s.alerts.supplyLow = false ∧ (demoted.boot.active.isSome ∧ demoted.fuse.demoted = demoted.boot.active) := by
  decide

/-- PREVERIFY ends RELEASED with the gate LATCHED by a FAILED PRINT region, OPEN, or CLOSED with one still CHECKING. -/
theorem test_met_AVerdictEndsPreverify :
    let g := image .boot .checking
    let last : ImageRegion := { g with good := 1 }
    let s := inState .preverify (verdictOn last .unchecked true)
    let after := fun (print : RegionState) =>
      ({ regions := [.image { last with good := 2, state := .complete }, .image (image .print print)], chunks := [] } : Tables)
    s.boot.state = .preverify ∧ s.gate.state = .closed ∧ s.port = .free ∧ g.state = .checking ∧ last.count = last.good + 1 ∧
    (∀ p ∈ [RegionState.failed, .complete, .checking], (after p).bootComplete = true) ∧
    ({ regions := [.image { g with good := 1 }], chunks := [] } : Tables).bootComplete = false ∧
    (after .failed).printFailed = true ∧ (after .complete).printFailed = false ∧
    (after .complete).requiredComplete = true ∧ (after .checking).printFailed = false ∧
    (after .checking).requiredComplete = false ∧ g.cls = .boot ∧ g.state ≠ .failed ∧
    (image .print .checking).cls ≠ .boot := by decide

theorem test_met_AHashCompletionAnswersItsReadAndFreesItsSlot :
    let v := verdictOn (image .boot .complete)
    let proof := (v .unchecked true).withPort (.held (heldRead .proof))
    let waited := with0 proof { proof.slot 0 with waiter := some 3 }
    let flash := (v .good false).withPort (.held (heldRead .flash))
    let granted := arb flash fun a => { a with access := some (.cpRead (cpWord .bank0 true) true) }
    let demanded := flash.withVerifier
      { flash.verifier with pendingDemand := some { region := 0, index := 1, waiter := some 5 }, hashQueue := [1] }
    (∀ u ∈ [v .unchecked true, proof, waited, flash, granted, demanded], u.boot.state = .released ∧
      u.verifier.engine = some 0 ∧ (u.slot 0).content = some (.chunk 0 0) ∧
      u.tables.image 0 = some (image .boot .complete) ∧ u.tables.chunks[0]?.isSome = true ∧ u.scan.pass ≠ .patrol) ∧
    (v .unchecked true).port = .free ∧ (proof.slot 0).waiter = none ∧ (waited.slot 0).waiter = some 3 ∧
    waited.port = .held (heldRead .proof) ∧ (heldRead .proof).wait = .proof ∧ (flash.slot 0).waiter = none ∧
    flash.port = .held (heldRead .flash) ∧ (heldRead .flash).wait = .flash ∧ (heldRead .flash).cls = .imageChunk ∧
    (heldRead .flash).chunk.map ChunkRef.record = some (0 + 0) ∧ flash.arbiter.access = none ∧
    granted.arbiter.access = some (.cpRead (cpWord .bank0 true) true) ∧ flash.verifier.pendingDemand = none ∧
    flash.verifier.hashQueue = [] ∧ demanded.verifier.pendingDemand.isSome = true ∧
    demanded.verifier.hashQueue = [1] := by decide

def listJob (left : Nat) (hash : List Byte) : ListJob :=
  { region := 0, hash := hash, loc := 2040, left := left, record := 0, running := shaInit }

/-- The engine hashing a list piece in slot 0. -/
def listing (j : ListJob) : State :=
  let s := hashing (walking [] frame0 [])
  (((with0 s { s.slot 0 with purpose := some .list, content := some (.piece .bank0 0) }).withWalk
    { s.walk with job := .list j }).withTables
    { regions := [.image (image .boot .loading)], chunks := [record .unchecked, record .unchecked] })

/-- One digest of a piece at the end of its chunk, with one more to come and with none; the hash of the 16 bytes the last piece
gives, and another. -/
theorem test_met_AListPieceLoadsItsDigests (left : Nat) (h : left = 1 ∨ left = 2) (hash : List Byte) :
    let u := listing (listJob left hash)
    let running := shaUpdate shaInit (Memory.bytes bufferDefault (u.slot 0).buffer (2 * (2040 % 2048)) (16 * 1))
    u.boot.state = .walking ∧ u.boot.active = some .bank0 ∧ u.walk.job = .list (listJob left hash) ∧
    u.verifier.engine = some 0 ∧ (u.slot 0).purpose = some .list ∧ u.scan.pass = .none ∧
    u.verifier.pendingDemand = none ∧ u.verifier.hashQueue = [] ∧ min ((2048 - 2040 % 2048) / 8) left = 1 ∧
    (u.tables.chunks[0 + 0]?).isSome = true ∧ u.tables.image 0 = some (image .boot .loading) ∧
    u.walk.stack = [frame0] ∧ shaFinish running ≠ [] := by
  refine ⟨rfl, rfl, rfl, rfl, rfl, rfl, rfl, rfl, by rcases h with h | h <;> subst h <;> decide, rfl, rfl, rfl, ?_⟩
  simp [shaFinish, shaWordBytes]

/-- A manifest pass of slot 0, of either bank's root manifest or of a delegate manifest. -/
def passing (s : State) : State :=
  (s.setSlot 0 { s.slot 0 with state := .hashing, bursts := 32 }).withVerifier
    { (s.setSlot 0 { s.slot 0 with state := .hashing, bursts := 32 }).verifier with engine := some 0 }

theorem test_met_manifest_passes : ∀ st ∈ [JudgeStep.key, .span, .check],
    (∀ k ∈ [Bank.bank0, .bank1],
      let s := passing (judgingBank k st [])
      s.boot.root k = .judging 0 st [1#8] ∧ s.boot.root k.other = .rejected ∧ s.verifier.engine = some 0 ∧
      s.verifier.hashQueue = [] ∧ s.verifier.pendingDemand = none ∧ s.scan.pass = .none ∧
      ∀ n : Fin 4, s.fuse.keys[n].state ≠ .active) ∧
    (let s := passing (judgingDelegate st [])
     s.walk.job = .delegate (delegateJob st) ∧ (delegateJob st).slot = 0 ∧ (delegateJob st).at_ = st ∧
     s.walk.stack = [{ frame0 with slot := 1 }] ∧ s.boot.root0 = .notJudged ∧ s.boot.root1 = .notJudged ∧
     s.verifier.engine = some 0 ∧ s.verifier.hashQueue = [] ∧ s.verifier.pendingDemand = none ∧ s.scan.pass = .none ∧
     (s.walk.keys[0]?).isSome = true) := by decide +kernel

/-- The key bytes of an empty buffer hash to the digest of an ACTIVE slot here, and to the delegation's. -/
theorem test_met_TheKeyPassJudgesTheKey :
    let d := sha256 (List.replicate 64 0#8)
    let s := passing (judgingBank .bank1 .key [])
    let u := s.withFuse { s.fuse with keys := s.fuse.keys.set 3 { state := .active, digest := d } }
    let w := passing (judgingDelegate .key [])
    let v := w.withWalk { w.walk with job := .delegate { delegateJob .key with keyDigest := d } }
    u.fuse.keys[(3 : Fin 4)].state = .active ∧
    u.fuse.keys[(3 : Fin 4)].digest = sha256 (Memory.bytes bufferDefault (u.slot 0).buffer 64 64) ∧
    sha256 (Memory.bytes bufferDefault (v.slot 0).buffer 64 64) = d ∧
    v.walk.job = .delegate { delegateJob .key with keyDigest := d } ∧ u.boot.root1 = .judging 0 .key [1#8] := by
  have h : Memory.bytes bufferDefault [] 64 64 = List.replicate 64 0#8 := by decide
  refine ⟨rfl, ?_, ?_, rfl, rfl⟩
  · show sha256 (List.replicate 64 0#8) = sha256 (Memory.bytes bufferDefault [] 64 64)
    rw [h]
  · show sha256 (Memory.bytes bufferDefault [] 64 64) = sha256 (List.replicate 64 0#8)
    rw [h]

theorem test_met_TheSpanPassAsksForTheSignatureCheck :
    let s := passing (judgingBank .bank0 .span [])
    let busy := s.withVerifier { s.verifier with checking := some { slot := 1, spanHash := [] } }
    s.verifier.checking = none ∧ busy.verifier.checking.isSome = true := by decide

/-! ## The signature unit on a known answer (RFC 6979, A.2.5: P-256, SHA-256, message "sample") -/

def answerKey : List Byte :=
  leBytes 32 0x60FED4BA255A9D31C961EB74C6356D68C049B8923B61FA6CE669622E60F29FB6 ++
  leBytes 32 0x7903FE1008B8BC99A41AE9E95628BC64F2F1B20C2D7E9F5177A3C294D4462299

def answerSignature : List Byte :=
  leBytes 32 0xEFD48B2AACB6A8FD1140DD9CD45E81D69D2C877B56AAF991C34D0EA84EAF3716 ++
  leBytes 32 0xF7CB1C942D657C41D436C7A1B6E29F65F3E900DBB9AFF4064DC4AB2F843ACDA8

def answerHash : List Byte :=
  (leBytes 32 0xAF2BDBE1AA9B6EC1E2ADE1D694F41FC71A831D0268E9891562113D8A62ADD1BF).reverse

theorem test_signature_passes : signaturePasses answerKey answerSignature answerHash = true := by decide +kernel

theorem test_signature_fails : signaturePasses answerKey answerSignature (0#8 :: answerHash.tail) = false := by
  decide +kernel

/-- A manifest of no entries with that key and signature. -/
def answerBuffer : Memory := bufferOf [(64, answerKey), (128, answerSignature)]

/-- With that buffer the check of a manifest is the pass above, and with another span hash the fail. -/
theorem test_met_TheSignatureCheckDecidesTheManifest :
    let checking := fun (s : State) => s.withVerifier
      { s.verifier with checking := some { slot := 0, spanHash := answerHash } }
    Memory.bytes bufferDefault answerBuffer 64 64 = answerKey ∧ leNat (Memory.bytes bufferDefault answerBuffer 6 1) = 0 ∧
    Memory.bytes bufferDefault answerBuffer 128 64 = answerSignature ∧
    (∀ s ∈ [judgingBank .bank0 .check answerBuffer, judgingBank .bank1 .check answerBuffer,
        judgingDelegate .check answerBuffer],
      ((checking s).slot 0).buffer = answerBuffer ∧
      (checking s).verifier.checking = some { slot := 0, spanHash := answerHash }) := by
  decide +kernel

/-! ## The walk -/

theorem test_met_SelectionAndFallbackStartAWalk :
    let at_ := fun r0 r1 => (inState .selecting settled).withBoot
      { (inState .selecting settled).boot with root0 := r0, root1 := r1 }
    let two := at_ (.candidate 0 []) (.candidate 1 [])
    let seq := two.setSlot 1 { two.slot 1 with buffer := bufferOf [(8, [1#8])] }
    let cand : Candidate := { bank := .bank1, sequence := 0, keyDigest := [], demoted := false, slot := 1 }
    let s := inState .walking (released .boot .checking .good)
    let first := s.withBoot { s.boot with candidates := [cand, cand], current := some 0, reserve := some 1 }
    (at_ .notJudged .rejected).boot.root0 = .notJudged ∧ (at_ .rejected .rejected).boot.state = .selecting ∧
    two.boot.root0 = .candidate 0 [] ∧ two.boot.root1 = .candidate 1 [] ∧ two.fuse.demoted = none ∧
    leNat (Memory.bytes bufferDefault (two.slot 0).buffer 8 4) = 0 ∧
    leNat (Memory.bytes bufferDefault (seq.slot 1).buffer 8 4) = 1 ∧
    (∀ b ∈ [some Bank.bank0, some Bank.bank1], (two.withFuse { two.fuse with demoted := b }).fuse.demoted = b) ∧
    first.boot.current = some 0 ∧ first.boot.candidates[0 + 1]? = some cand ∧ first.boot.candidates[1 + 1]? = none := by
  decide

/-- Of an IMAGE entry: behind its counter, in no class of the mask, out of its scope, with the table full, the digests full, a
second ENGINE flag, and taken. -/
theorem test_met_TheWalkerTakesImageEntries :
    let m := manifestOf 0x51#8 1#8 [(128, imageEntry)]
    let u := walking m frame0 []
    let fld := fun off n => leNat (Memory.bytes bufferDefault m (128 + 64 * frame0.next + off) n)
    let behind := u.withFuse { u.fuse with counters := u.fuse.counters.set 7 6 }
    (u.boot.state = .walking ∧ u.walk.job = .none ∧ u.walk.outcome = none ∧ u.walk.stack = [frame0] ∧
      (u.slot frame0.slot).buffer = m ∧ frame0.next < leNat (Memory.bytes bufferDefault m 6 1)) ∧
    (fld 0 1 = 0x01 ∧ fld 2 1 = (7 : Fin 8).val ∧ fld 3 1 = 5 ∧ fld 1 1 = 0x01 ∧ fld 8 2 = 0 ∧ fld 10 2 = 2 ∧
      fld 12 4 = 2048 ∧ (fld 4 1).testBit 0 = true) ∧
    (5 < behind.fuse.counters[(7 : Fin 8)] ∧ u.fuse.counters[(7 : Fin 8)] ≤ 5) ∧
    (∀ f ∈ [{ frame0 with base := 1 }, { frame0 with count := 1 }, { frame0 with mask := { frame0.mask with boot := false } }],
      (walking m f []).walk.stack = [f] ∧ ¬ (f.base ≤ 0 ∧ 0 + 2 ≤ f.base + f.count ∧ f.mask.boot = true)) ∧
    (frame0.mask.boot = true ∧ frame0.base ≤ 0 ∧ 0 + 2 ≤ frame0.base + frame0.count ∧
      2048 + 8 * 2 ≤ bankWords u.lines.fsz ∧ u.tables.regions.length < 16 ∧ u.tables.chunks.length + 2 ≤ 4096) ∧
    16 ≤ (List.replicate 16 (Region.data { signer := 0, base := 0, count := 0 })).length ∧
    (u.withWalk { u.walk with engineUsed := true }).walk.engineUsed = true ∧ u.walk.engineUsed = false ∧
    u.boot.active = some .bank0 ∧ u.lowestFree = some 1 := by decide +kernel

/-- A DATA entry inside and outside the scope, and a DELEGATE entry with a fifth frame, with no key record left, out of its
scope, and taken. -/
theorem test_met_TheWalkerTakesDataAndDelegateEntries :
    let data := manifestOf 0x51#8 1#8 [(128, [0x02#8, 0#8, 0#8, 0#8, 1#8, 0#8, 2#8, 0#8])]
    let dele := manifestOf 0x51#8 1#8 [(128, [0x03#8, 0x01#8, 0#8, 0#8, 0#8, 0x08#8, 0#8, 0#8, 0#8, 0#8, 2#8, 0#8])]
    let f := fun m off n => leNat (Memory.bytes bufferDefault m (128 + off) n)
    let key : KeyRecord := { digest := [], parent := none, depth := 1, entry := none }
    let u := walking dele frame0 []
    (∀ m ∈ [data, dele], (walking m frame0 []).boot.state = .walking ∧ (walking m frame0 []).walk.job = .none ∧
      (walking m frame0 []).walk.outcome = none ∧ (walking m frame0 []).walk.stack = [frame0] ∧
      ((walking m frame0 []).slot 0).buffer = m ∧ 0 < leNat (Memory.bytes bufferDefault m 6 1)) ∧
    (f data 0 1 = 0x02 ∧ f data 4 2 = 1 ∧ f data 6 2 = 2 ∧ 16 + 32 ≤ frame0.count ∧
      16 + 32 ≤ bankChunks u.lines.fsz - 16 ∧ ({ frame0 with count := 47 } : Frame).count < 16 + 32) ∧
    (f dele 0 1 = 0x03 ∧ f dele 1 1 = 1 ∧ f dele 4 4 = 2048 ∧ f dele 8 2 = 0 ∧ f dele 10 2 = 2 ∧
      u.walk.keys.length < 8 ∧ u.walk.stack.length < 4 ∧ frame0.mask.boot = true ∧ 2048 % 2048 = 0 ∧ 2048 / 2048 < 0 + 2 ∧
      u.boot.active = some .bank0 ∧ u.lowestFree = some 1) ∧
    8 ≤ (u.withWalk { u.walk with keys := List.replicate 8 key }).walk.keys.length ∧
    4 ≤ (walking dele frame0 [frame0, frame0, frame0]).walk.stack.length ∧
    (walking dele { frame0 with count := 1 } []).walk.stack = [{ frame0 with count := 1 }] := by decide +kernel

/-- The last frame, two regions that meet, one in the manifest sector, a ninth required region, a region to prove, none. -/
theorem test_met_TheWalkerPopsItsFramesAndCloses :
    let frame := walking (manifestOf 0x51#8 0#8 []) frame0 []
    let closing := fun regions => ((walking [] frame0 []).withWalk
      { (walking [] frame0 []).walk with stack := [] }).withTables { regions := regions, chunks := [record .unchecked] }
    let at_ := fun base => Region.image { image .boot .checking with base := base }
    let nine := (List.range 9).map fun k => at_ (2 * k)
    let one := closing [at_ 0]
    let clash := fun (u : State) => (findOverlap (manifestChunk u.lines.fsz) [] 0 u.tables.regions)
    (frame.boot.state = .walking ∧ frame.walk.stack = [frame0] ∧ frame.walk.job = .none ∧ frame.walk.outcome = none ∧
      leNat (Memory.bytes bufferDefault (frame.slot 0).buffer 6 1) ≤ frame0.next ∧ frame.verifier.pendingDemand = none ∧
      frame.scan.pass = .none) ∧
    (∀ r ∈ [[at_ 0, at_ 1], [at_ 495], nine, [at_ 0], []], (closing r).boot.state = .walking ∧
      (closing r).walk.job = .none ∧ (closing r).walk.outcome = none ∧ (closing r).walk.stack = []) ∧
    clash (closing [at_ 0, at_ 1]) = some 1 ∧ clash (closing [at_ 495]) = some 0 ∧ clash (closing nine) = none ∧
    (closing nine).tables.requiredList[8]? = some 8 ∧ clash one = none ∧ one.tables.requiredList = [0] ∧
    one.tables.scanList = [0] ∧ one.tables.image 0 = some (image .boot .checking) ∧
    one.tables.chunkState 0 = .unchecked ∧ one.chunkHolder 0 0 = none ∧ one.lowestFree = some 1 ∧
    (inState .released one).boot.state ≠ .walking ∧
    (one.withWalk { one.walk with outcome := some (.fault .overlap (.region 0)) }).walk.outcome =
      some (.fault .overlap (.region 0)) := by decide +kernel

/-! ## Controller Port -/

theorem test_met_AReadIsAnsweredAtItsArrival :
    let bad := releasedFill .failed .bad
    let busy := arb (releasedFill .checking .good) fun a => { a with cond0 := .busy }
    (∀ u ∈ [settled, inState .halted settled, bad, busy],
      u.port = .free ∧ u.lines.crstIn = false ∧ u.lines.inReset = false) ∧
    (∀ b ∈ [BootState.selecting, .walking, .preverify, .noBank, .halted],
      (inState b settled).boot.state ≠ .released ∧ (inState b settled).boot.state ≠ .transparent) ∧
    bad.boot.active.isSome = true ∧ settled.boot.state = .transparent ∧
    2 * bankWords settled.lines.fsz ≤ (0x200000#24).toNat ∧ (bad.windowMap 0x001000#24).cls = .uncovered ∧
    (bad.windowMap 0#24).state = some .bad ∧ (busy.windowMap 0x7FF#24).state = some .good ∧
    busy.bankCond .bank0 ≠ .idle ∧ busy.boot.params.holdFill = true ∧ (heldState .flash .good).port ≠ .free := by decide

theorem test_met_AReadIsForwardedToTheWordOfItsAddress :
    let good := released .boot .checking .good
    let busy := arb good fun a => { a with cond0 := .busy }
    (∀ u ∈ [good, busy, settled], u.port = .free ∧ u.lines.crstIn = false ∧ u.lines.inReset = false ∧
      u.arbiter.cpWait = none ∧ u.cpBusy = false) ∧
    good.boot.state = .released ∧ good.boot.active = some .bank0 ∧ (good.windowMap 0x8000#24).cls = .data ∧
    (good.windowMap 0x0FFFFF#24).cls = .manifest ∧ (0x0FFFFF#24).toNat < bankWords good.lines.fsz ∧
    (good.windowMap 0#24).state = some .good ∧ good.bankCond .bank0 = .idle ∧ busy.boot.params.holdFill = false ∧
    (∀ st ∈ [BootState.walking, .preverify, .released],
      (inState st good).boot.active = some .bank0 ∧ (inState st good).boot.state = st) ∧
    (good.tables.regions[0]? = some (.image (image .boot .checking)) ∧ good.tables.chunks[0 + (1 - 0)]? = some (record .unchecked) ∧
      good.tables.regions[1]? = some (.data { signer := 0, base := 16, count := 16 }) ∧
      (image .boot .checking).base ≤ (0xFFF#24).toNat / 2048 ∧ (0xFFF#24).toNat / 2048 < 0 + 2 ∧
      16 ≤ (0x8000#24).toNat / 2048 ∧ (0xFFFF#24).toNat / 2048 < 16 + 16 ∧ ¬ (16 ≤ (0x7FFF#24).toNat / 2048) ∧
      (0xF7FFF#24).toNat / 2048 < bankChunks good.lines.fsz - 16 ∧ bankChunks good.lines.fsz - 16 ≤ (0xF8000#24).toNat / 2048 ∧
      2 * bankWords good.lines.fsz ≤ (0x200000#24).toNat) ∧
    busy.bankCond .bank0 = .busy ∧ bankWords good.lines.fsz ≤ (0x100000#24).toNat ∧
    (0x1FFFFF#24).toNat < 2 * bankWords good.lines.fsz ∧ settled.boot.state = .transparent := by decide

theorem test_met_AReadOfAnUncheckedChunkClaimsItsProof :
    let stall := released .boot .checking .unchecked
    let fill := releasedFill .checking .unchecked
    let held := (arb (with0 stall (filling .scan 0)) fun a => { a with slotWait := a.slotWait.set 0 (some .class5) })
    let pending := (full fill).withVerifier
      { (full fill).verifier with pendingDemand := some { region := 9, index := 8, waiter := none } }
    (∀ u ∈ [stall, fill, held, full stall, full fill, pending], u.port = .free ∧ u.lines.crstIn = false ∧
      u.lines.inReset = false ∧ u.boot.state = .released ∧ u.boot.active = some .bank0 ∧
      (u.windowMap 0x7FF#24).chunk = some { region := 0, index := 0, record := 0, offset := 0x7FF } ∧
      (u.windowMap 0x7FF#24).state = some .unchecked) ∧
    stall.boot.params.holdFill = false ∧ fill.boot.params.holdFill = true ∧ held.chunkHolder 0 0 = some 0 ∧
    (∀ u ∈ [stall, fill], u.chunkHolder 0 0 = none ∧ u.lowestFree = some 0) ∧
    (∀ u ∈ [full stall, full fill, pending], u.chunkHolder 0 0 = none ∧ u.lowestFree = none ∧ u.victim = none) ∧
    (full fill).verifier.pendingDemand = none ∧ pending.verifier.pendingDemand.isSome = true := by decide

/-- Every slot in use, three of them Scanner fills, and the cursor at the end mark. -/
def preemptable : State :=
  let v := fun n o c => { filling .scan n with content := some (.chunk 0 c), order := some o }
  ((((full (released .boot .checking .unchecked)).setSlot 2 (v 3 3 1)).setSlot 4 (v 3 2 7)).setSlot 5
    (v 9 4 8)).withScan { list := [0], pass := .first, cursor := some .endMark }

/-- The victim: the fewest bursts, the newer of two. -/
theorem test_victim : preemptable.victimIs 2 := by
  refine ⟨by decide, fun j hj h => ?_⟩
  match j with
  | 0 | 1 | 3 | 6 | 7 => exact absurd h (by decide)
  | 2 => exact absurd rfl hj
  | 4 => exact .inr ⟨by decide, 3, 2, by decide, by decide, by decide⟩
  | 5 => exact .inl (by decide)

/-- A Scanner fill to preempt, its chunk behind the cursor. -/
theorem test_met_AReadOfAnUncheckedChunkClaimsItsProof_preempts :
    let s := preemptable
    s.chunkHolder 0 0 = none ∧ s.lowestFree = none ∧
    (∀ i ∈ [(0 : Fin 8), 1, 3, 6, 7], (s.slot i).state ≠ .filling ∧ (s.slot i).content ≠ some (.chunk 0 1)) ∧
    (s.slot 2).content = some (.chunk 0 1) ∧ s.scan.cursor = some .endMark ∧
    s.tables.image 0 = some (image .boot .checking) ∧ s.scan.list[1 - 1]? = some 0 ∧ s.scan.pass = .first ∧
    s.tables.chunkState (0 + 1) = .unchecked ∧ s.port = .free ∧ s.boot.state = .released := by decide

theorem test_met_AHeldReadIsAnsweredOrEnds :
    let s := arb (heldState .flash .good) fun a => { a with access := some (.cpRead (cpWord .bank0 true) true) }
    let data : HeldRead := { heldRead .flash with cls := .data, chunk := none }
    let u := s.withPort (.held data)
    let dropped := arb settled fun a => { a with access := some (.cpRead (cpWord .bank0 true) false) }
    (s.arbiter.access = some (.cpRead (cpWord .bank0 true) true) ∧ s.port = .held (heldRead .flash) ∧
      (heldRead .flash).chunk.isSome = true ∧ (heldRead .flash).cls = .imageChunk) ∧
    (u.port = .held data ∧ data.wait = .flash ∧ data.chunk = none) ∧
    (dropped.port = .free ∧ dropped.filter.op = none) ∧ (s.flash.bank (bankOfFlash s.bankWords 3)).mode = .array ∧
    (heldState .proof .unchecked).port = .held (heldRead .proof) ∧ s.cpReady = false ∧
    (settled.withPort .writeHeld).cpReady = false := by decide

def enable1 : AbsorbedWrite := { addr := 0x101E00#24, offset := 0x1E00, value := 0x5A3C#16 }
def enable2 : AbsorbedWrite := { addr := 0x100E1E#24, offset := 0x0E1E, value := 0xA5C3#16 }
def word3 (v : Word) : AbsorbedWrite := { addr := 0x101E00#24, offset := 0x1E00, value := v }

theorem test_met_AWriteIsAbsorbedOrRefusedByTheTracker :
    let r := released .boot .checking .good
    (∀ u ∈ [r, settled, tracking r .en1 [enable1], tracking r .enabled [enable1, enable2], tracking r .programWait [],
        tracking r .eraseWait [], tracking r .flashBusy []],
      u.port = .free ∧ u.lines.crstIn = false ∧ u.lines.inReset = false ∧
      (u.boot.state = .released ∨ u.boot.state = .transparent)) ∧
    (inState .halted r).boot.state ≠ .released ∧ (inState .halted r).boot.state ≠ .transparent ∧
    (r.windowMap 0x200000#24).loc = none ∧ (r.windowMap 0x101E00#24).loc = some (.bank1, 0x1E00, 0x101E00) ∧
    (r.windowMap 0x100E1E#24).loc = some (.bank1, 0x0E1E, 0x100E1E) ∧
    (∀ st ∈ [TrackerState.en1, .enabled, .programWait, .eraseWait],
      (tracking r st []).filter.tracker.state = st ∧ (tracking r st []).filter.tracker.bank = some .bank1) ∧
    (r.windowMap 0#24).loc = some (.bank0, 0, 0) ∧ 0x0070#16 ≠ 0x0071#16 ∧ 0x00D8#16 ≠ 0x00D9#16 ∧
    r.filter.tracker.state = .idle := by decide

theorem test_met_AFinalWriteIsForwardedOnlyWhereItMayChangeTheFlash :
    let r := released .boot .checking .good
    let program := tracking r .programWait [enable1, enable2, word3 0x0071#16]
    let erase := tracking r .eraseWait [enable1, enable2, word3 0x0026#16]
    let reset := tracking r .enabled [enable1, enable2]
    let active := r.setTracker { program.filter.tracker with bank := some .bank0 }
    (∀ u ∈ [program, erase, reset, active], u.port = .free ∧ u.lines.crstIn = false ∧ u.lines.inReset = false ∧
      u.boot.state = .released ∧ u.filter.tracker.state ≠ .flashBusy ∧ u.filter.op = none ∧ u.arbiter.cpWait = none ∧
      u.cpBusy = false ∧ u.fuse.lock = false ∧ u.wipe.state = .off ∧ u.alerts.supplyLow = false) ∧
    (program.windowMap 0x1FFFFF#24).cls = .inactive ∧
    (program.windowMap 0x1FFFFF#24).loc = some (.bank1, 0xFFFFF, 0x1FFFFF) ∧
    program.filter.tracker.bank = some .bank1 ∧
    (active.windowMap 0#24).cls = .imageChunk ∧ (active.windowMap 0x0F8000#24).cls = .manifest ∧
    (active.windowMap 0x0F7FFF#24).cls = .uncovered ∧ (active.windowMap 0x8000#24).cls = .data ∧
    active.filter.tracker.bank = some .bank0 ∧
    (program.withFuse { program.fuse with lock := true }).fuse.lock = true ∧
    (wiping .suspended 0).wipe.state ≠ .off ∧ (wiping .suspended 0).wipe.state ≠ .failed := by decide

/-- The same sequences in TRANSPARENT, and a RESET while an operation of the wipe is in flight. -/
theorem test_met_AFinalWriteIsForwardedOnlyWhereItMayChangeTheFlash_more :
    let program := tracking settled .programWait [enable1, enable2, word3 0x0071#16]
    let erase := tracking settled .eraseWait [enable1, enable2, word3 0x0026#16]
    let reset := (tracking (wiping .erasing 3) .enabled [enable1, enable2]).setOp
      (some (operation .wipe .erase .polling false))
    (∀ u ∈ [program, erase], u.boot.state = .transparent ∧ u.port = .free ∧ u.filter.tracker.bank = some .bank1 ∧
      u.filter.op = none ∧ u.arbiter.cpWait = none ∧ u.cpBusy = false ∧
      (u.windowMap 0x100003#24).loc = some (.bank1, 3, 0x100003)) ∧
    (reset.boot.state = .released ∧ reset.port = .free ∧ reset.filter.op.isSome = true ∧
      reset.filter.tracker.state = .enabled ∧ reset.filter.tracker.writes = [enable1, enable2] ∧
      (reset.windowMap 0x101E00#24).loc = some (.bank1, 0x1E00, 0x101E00)) := by decide

/-! ## Engine Link -/

def linked (s : State) (p : ElPhase) : State := s.withEl { EngineLink.reset with selected := true, phase := p }

theorem test_met_AnEngineLinkFrameRuns :
    let s := fun st => linked (released .boot st .good) (.statusOut true)
    settled.el.selected = false ∧ (linked settled .command).el.selected = true ∧ (linked settled .command).live = true ∧
    (linked settled .discard).live = true ∧ (linked settled (.statusOut false)).engineWindow = none ∧
    (linked settled .discard).el.selected = true ∧ (linked settled .command).el.phase = .command ∧
    (∀ st ∈ [RegionState.checking, .complete, .failed], (s st).live = true ∧ (s st).el.selected = true ∧
      (s st).el.phase = .statusOut true ∧ (s st).engineWindow = some (0, image .boot st)) := by decide

/-- Read-ahead where it asks and where it does not; the window's first and last byte, and the first byte after it; a word that is
wanted, one that is stale, and one of an ended frame. -/
theorem test_met_ReadAsksForTheWordAhead :
    let s := linked (released .boot .checking .good) .command
    let g := image .boot .checking
    let w := fun n => arb (linked (released .boot .checking .good) (.readData 3 true)) fun a =>
      { a with access := some (.elRead { elWord with window := n } true) }
    (s.live = true ∧ s.el.phase = .command ∧ s.engineWindow = some (0, g) ∧ s.boot.active = some .bank0 ∧
      s.el.ahead = .empty ∧ s.el.latch = none ∧ s.arbiter.elWait = none ∧ s.arbiter.access = none ∧ g.state ≠ .failed) ∧
    (s.boot.state = .released ∧ s.tables.regions[0]? = some (.image g) ∧ g.engine = true ∧ settled.boot.state ≠ .released ∧
      (let t := released .boot .checking .good
       (t.withTables { t.tables with regions := [.image { g with engine := false }] }).engineWindow = none)) ∧
    (linked settled .command).engineWindow = none ∧ (0xFFF#24).toNat < g.count * 4096 ∧
    s.tables.chunkState (g.first + (0xFFF#24).toNat / 4096) = .good ∧
    s.tables.chunkState (g.first + (0x1000#24).toNat / 4096) ≠ .good ∧ g.count * 4096 ≤ (0x2000#24).toNat ∧
    (∀ n ∈ [1, 0], (w n).arbiter.access = some (.elRead { elWord with window := n } true) ∧
      (w n).el.phase = .readData 3 true ∧ ((w n).flash.bank (bankOfFlash (w n).bankWords elWord.addr)).mode = .array) ∧
    1 = 3 / 2 ∧ 0 ≠ 3 / 2 ∧ 0 ≠ (w 0).el.wanted 3 ∧
    (let u := linked (released .boot .checking .good) (.readData 3 true)
     u.el.phase = .readData 3 true ∧ u.live = true ∧ u.el.ahead = .empty ∧ u.arbiter.elWait = none ∧
     u.arbiter.access = none ∧ 2 * 1 < g.count * 4096 ∧ u.tables.chunkState (g.first + 1 / 2048) = .good) ∧
    (arb settled fun a => { a with access := some (.elRead elWord false) }).arbiter.access = some (.elRead elWord false) := by
  decide

theorem test_met_AReadBoundarySendsTheByteAtP :
    let s := fun (st : RegionState) (k : ChunkState) => linked (released .boot st k) (.readData 4095 true)
    let latched := (s .checking .good).withEl { (s .checking .good).el with latch := some (2047, 0x1234#16) }
    let ahead := (s .checking .good).withEl { (s .checking .good).el with ahead := .held 2047 0x1234#16 }
    (∀ u ∈ [s .checking .good, s .checking .unchecked, s .checking .bad, s .failed .good, latched, ahead],
      u.live = true ∧ u.el.selected = true ∧ u.el.phase = .readData 4095 true ∧ u.engineWindow.isSome = true) ∧
    (linked settled (.readData 0 false)).engineWindow = none ∧ 4095 < (image .boot .checking).count * 4096 ∧
    (s .checking .bad).tables.chunkState 0 = .bad ∧ (s .checking .unchecked).tables.chunkState 0 = .unchecked ∧
    (s .checking .unchecked).chunkHolder 0 (4095 / 4096) = none ∧ (s .checking .unchecked).lowestFree = some 0 ∧
    (s .checking .good).tables.chunkState 0 = .good ∧ latched.el.latch = some (4095 / 2, 0x1234#16) ∧
    ahead.el.ahead = .held (4095 / 2) 0x1234#16 ∧ ahead.el.latch = none ∧
    (s .checking .good).el.ahead = .empty ∧ (with0 (s .checking .unchecked) (filling .scan 3)).chunkHolder 0 0 = some 0 ∧
    (full (s .checking .unchecked)).chunkHolder 0 0 = none ∧ (full (s .checking .unchecked)).lowestFree = none ∧
    (∀ j, ¬ ((full (s .checking .unchecked)).slot j).preemptible) := by decide

/-- A Scanner fill that the link's demand may take. -/
theorem test_met_AReadBoundarySendsTheByteAtP_preempts :
    let s := (full (linked (released .boot .checking .unchecked) (.readData 4095 true))).setSlot 2
      { filling .scan 3 with content := some (.chunk 0 1) }
    s.chunkHolder 0 0 = none ∧ s.lowestFree = none ∧ s.victimIs 2 ∧ s.el.phase = .readData 4095 true ∧ s.live = true ∧
    s.el.selected = true ∧ s.tables.chunkState 0 = .unchecked := by
  refine ⟨by decide, by decide, ⟨by decide, fun j hj h => absurd h ?_⟩, by decide, by decide, by decide, by decide⟩
  clear h
  revert j
  decide

/-- p passes the word of a request that waits and the latch's word: both go, and the next word is asked for. -/
theorem test_link_advances :
    let s := linked (released .boot .checking .good) (.readData 4093 true)
    let u := arb (s.withEl { s.el with latch := some (2045, 0x1234#16), ahead := .pending 2046 }) fun a =>
      { a with elWait := some { elWord with window := 2046 } }
    let v := (u.readBoundary 4093 true).readBoundary 4094 true |>.readBoundary 4095 true
    (u.readBoundary 4093 true).el.latch = none ∧ (u.readBoundary 4093 true).el.out = 0xFF#8 ∧
    v.el.phase = .readData 4096 true ∧ v.el.ahead = .empty ∧ v.arbiter.elWait = none := by decide +kernel

/-! ## Service Link and fuse programmer -/

theorem test_met_TheServiceLinkReports :
    let s := receiving (released .boot .checking .good)
    settled.sl.selected = false ∧ settled.lines.inReset = false ∧ s.sl.selected = true ∧
    (∀ u ∈ [receiving halted, receiving (reset settled)], u.sl.frame = .receiving ∧ u.live = false) ∧
    settled.sl.frame ≠ .receiving ∧ s.sl.frame = .receiving ∧
    (settled.withSl { selected := true, frame := .decided [1#8] }).sl.frame = .decided [1#8] ∧
    s.live = true ∧ s.tables.regions[(1#8).toNat]?.isSome = true ∧ s.tables.regions[(2#8).toNat]? = none ∧
    s.tables.image (0#8).toNat = some (image .boot .checking) ∧ (1#16).toNat < (image .boot .checking).count ∧
    s.tables.image (1#8).toNat = none ∧ (image .boot .checking).count ≤ (2#16).toNat := by decide

theorem test_met_TheRecordsHoldTheirFields :
    let w := settled.walk
    w.lastFault = none ∧ (settled.withWalk { w with lastFault := some (.scope, .entry 1 2) }).walk.lastFault =
      some (.scope, .entry 1 2) ∧ (image .boot .checking).count ≤ 1 + 1 ∧ 0 + 1 < (image .boot .checking).count ∧
    settled.boot.state = .transparent := by decide

theorem test_met_CaptureIsSentAndEmptied :
    let s := receiving (released .boot .checking .good)
    s.sl.frame = .receiving ∧ s.live = true ∧ s.filter.capture = none ∧
    (s.refuse .stray 0#24 0#16).filter.capture.isSome = true := by decide

theorem test_met_TheServiceLinkOrdersFuseWorkAndTheWipe :
    let s := receiving settled
    let key := fun (f : Fuse) (k : KeyState) => f.setKey 3 { state := k, digest := List.replicate 32 0#8 }
    let active := s.withFuse (key s.fuse .active)
    let deployed := s.withFuse { s.fuse with lifecycle := .deployed }
    let locked := s.withFuse { s.fuse with lock := true }
    let busy := s.withFuse { s.fuse with op := some .lockSet }
    let r := receiving (released .boot .complete .good)
    (∀ u ∈ [s, active, deployed, locked, busy, r], u.sl.frame = .receiving ∧ u.live = true) ∧
    4 ≤ (4#8).toNat ∧ busy.fuse.op.isSome = true ∧
    (∀ u ∈ [s, active, deployed, locked, r], ¬ (u.fuse.op.isSome = true ∨ u.fuse.work ≠ [] ∨ u.fuse.lockClear = true ∨
      u.alerts.supplyLow = true)) ∧
    deployed.fuse.lifecycle = .deployed ∧ s.fuse.lifecycle = .factory ∧ s.fuse.keys[(3 : Fin 4)].state = .empty ∧
    active.fuse.keys[(3 : Fin 4)].state = .active ∧ (∀ i : Fin 4, s.fuse.keys[i].state ≠ .active) ∧
    (locked.fuse.lock = true ∧ locked.fuse.lockClear = false ∧ locked.fuse.op ≠ some .lockClear) ∧
    s.boot.state ≠ .released ∧ r.boot.state = .released ∧ r.boot.active = some .bank0 ∧ r.wipe.state = .off := by decide

theorem test_met_TheProgrammerWritesItsCells :
    let s := fun op work => settled.withFuse { settled.fuse with op := some op, work := work }
    (∀ u ∈ [s (.commit [(7, 2)]) [], s (.commit [(7, 1), (0, 1)]) [], s (.commit [(7, 1)]) []],
      u.live = true ∧ u.alerts.supplyLow = false ∧ u.fuse.lockClear = false ∧ u.fuse.counters[(7 : Fin 8)] = 0) ∧
    (∀ w ∈ [[], [FuseItem.demote], [.undemote, .demote]], ∀ op ∈ [FuseOp.demote (some .bank1), .undemote, .lockSet,
        .lockClear, .provision 3 [], .revoke 3, .close],
      (s op w).live = true ∧ (s op w).alerts.supplyLow = false ∧ (s op w).fuse.lockClear = false ∧
      (s op w).fuse.op = some op ∧ (s op w).fuse.work = w) ∧
    (wiping .clearing 31).wipe.state = .clearing ∧ (wiping .clearing 31).live = true ∧
    (let u := inState .halted (s .lockClear [.demote])
     u.live = false ∧ u.fuse.op = some .lockClear) ∧
    ((s .lockSet []).withAlerts { settled.alerts with supplyLow := true }).alerts.supplyLow = true := by decide


end Sys2Proof.Tests
end

section
/-! The beginning of a part reset and the entry to HALTED: what `State.stopBlocks` leaves of the part's work (R3, R18, R75, R96). -/

namespace Sys2Proof.Machine

/-! ## Abandonment -/

/-- Changing the slots of a list one after the other changes each of them once. -/
theorem foldl_set_get (g : Fin 8 → Slot → Slot) (i : Fin 8) (l : List (Fin 8)) (w : Vector Slot 8) (hl : l.Nodup) :
    (l.foldl (fun (w : Vector Slot 8) (k : Fin 8) => w.set k (g k w[k])) w)[i] = if i ∈ l then g i w[i] else w[i] := by
  induction l generalizing w with
  | nil => simp
  | cons j l ih =>
    obtain ⟨hj, hl⟩ := List.nodup_cons.1 hl
    rw [List.foldl_cons, ih _ hl, vector_set_get]
    by_cases e : j = i
    · subst e
      simp [hj]
    · simp [e, Ne.symm e]

theorem mem_allSlots (i : Fin 8) : i ∈ allSlots := by revert i; decide

/-- Abandoning the slots, slot by slot: the one that is kept is the oldest claim, every other is FREE. -/
theorem Verifier.abandon_slots (v : Verifier) (keep : Option (Fin 8)) (i : Fin 8) :
    (v.abandon keep).slots[i] =
      if keep = some i then { v.slots[i] with order := some 1 } else v.slots[i].abandoned := by
  have h := foldl_set_get (fun k u => if keep = some k then { u with order := some 1 } else u.abandoned) i allSlots
    v.slots (by decide)
  rw [if_pos (mem_allSlots i)] at h
  rw [← h]
  refine congrArg (fun f => (List.foldl f v.slots allSlots)[i]) ?_
  funext w k
  split <;> rfl

/-- With no slot kept, abandonment leaves the Chunk Verifier nothing. -/
theorem Verifier.abandon_none_quiet (v : Verifier) : (v.abandon none).quiet := by
  refine ⟨fun i => ?_, rfl, rfl, rfl, rfl, rfl⟩
  rw [Verifier.abandon_slots]
  rfl

theorem State.abandonSlots_slot (s : State) (keep : Option (Fin 8)) (i : Fin 8) :
    (s.abandonSlots keep).slot i =
      if keep = some i then { s.slot i with order := some 1 } else (s.slot i).abandoned :=
  s.verifier.abandon_slots keep i

/-! ## The port stopped -/

/-- The access in progress has ended. -/
theorem State.finishAccess_access (s : State) : s.finishAccess.arbiter.access = none := by
  unfold State.finishAccess
  split
  · assumption
  all_goals rfl

/-- No access and no request is left once the port is stopped. -/
theorem State.stopPort_quiet (s : State) : s.stopPort.arbiter.quiet :=
  ⟨s.finishAccess_access, rfl, rfl, fun i => by simp [State.stopPort, Arbiter.stopped], rfl, rfl, rfl, rfl⟩

/-- The end of the Engine Link's read brings no work to a quiet arbiter. -/
theorem State.endLinkRead_quiet {s : State} (h : s.arbiter.quiet) : s.endLinkRead.arbiter.quiet := by
  obtain ⟨hacc, hcp, _, hslot, hpoll, hmaint, hsus, hpark⟩ := h
  exact ⟨by simp [State.endLinkRead, hacc], hcp, rfl, hslot, hpoll, hmaint, hsus, hpark⟩

/-! ## The stopped part -/

/-- Nothing of the part works but the fuse programmer: the conclusion of State.quietLaw. -/
def State.atRest (s : State) : Prop :=
  s.arbiter.quiet ∧ s.verifier.quiet ∧ s.walk.job = .none ∧ (∀ h, s.port ≠ .held h) ∧ s.timer.running = false ∧
  s.gate.pgate = false

theorem State.quietLaw_iff (s : State) : s.quietLaw ↔ (s.live = false → s.atRest) := Iff.rfl

theorem State.live_iff (s : State) : s.live = true ↔ s.lines.inReset = false ∧ s.boot.state ≠ .halted := by
  simp [State.live]

theorem State.live_eq_false_iff (s : State) : s.live = false ↔ s.lines.inReset = true ∨ s.boot.state = .halted := by
  rw [← Bool.not_eq_true, State.live_iff, not_and_or, not_not, Bool.not_eq_false]

section
variable (s : State)

theorem State.stopBlocks_arbiter_quiet : s.stopBlocks.arbiter.quiet :=
  State.endLinkRead_quiet (State.stopPort_quiet s.stopTimer)

theorem State.stopBlocks_verifier_quiet : s.stopBlocks.verifier.quiet := Verifier.abandon_none_quiet _

@[simp] theorem State.stopBlocks_timer : s.stopBlocks.timer = { s.timer with running := false } := by
  simp [State.stopBlocks, State.stopTimer]
@[simp] theorem State.stopBlocks_lines : s.stopBlocks.lines = { s.lines with crstOut := true, erstOut := true } := by
  simp [State.stopBlocks, State.stopTimer]
@[simp] theorem State.stopBlocks_boot :
    s.stopBlocks.boot = { s.boot with reserve := none, root0 := .notJudged, root1 := .notJudged } := by
  simp [State.stopBlocks, State.stopTimer]
@[simp] theorem State.stopBlocks_sl : s.stopBlocks.sl = s.sl.silenced := by
  simp [State.stopBlocks, State.stopTimer]

/-- HALTED is entered with the part at rest. -/
theorem State.enterHalted_atRest : s.enterHalted.atRest :=
  ⟨s.stopBlocks_arbiter_quiet, s.stopBlocks_verifier_quiet, rfl, nofun, by simp [State.enterHalted], rfl⟩

@[simp] theorem State.enterHalted_lines : s.enterHalted.lines = { s.lines with crstOut := true, erstOut := true } := by
  simp [State.enterHalted]
@[simp] theorem State.enterHalted_boot : s.enterHalted.boot =
    { s.boot with state := .halted, reserve := none, root0 := .notJudged, root1 := .notJudged } := by
  simp [State.enterHalted]
@[simp] theorem State.enterHalted_gate : s.enterHalted.gate = s.gate.halted := by
  simp [State.enterHalted]
@[simp] theorem State.enterHalted_sl : s.enterHalted.sl = s.sl.silenced := by
  simp [State.enterHalted]

end

/-! ## A part reset beginning -/

/-- A source that finds a part reset in progress begins none (R4). -/
theorem State.beginReset_of_inReset {s : State} (h : s.lines.inReset = true) (cause : ResetCause) :
    s.beginReset cause = s := by
  simp [State.beginReset, h]

section
variable {s : State} (h : s.lines.inReset = false) (cause : ResetCause)
include h

theorem State.beginReset_eq : s.beginReset cause =
    (s.stopBlocks.withGate { s.gate with pgate := false, count := 0, fresh := false }).withLines
      { s.lines with crstOut := true, erstOut := true, inReset := true, cause := cause } := by
  simp [State.beginReset, h]

theorem State.beginReset_lines : (s.beginReset cause).lines =
    { s.lines with crstOut := true, erstOut := true, inReset := true, cause := cause } := by
  rw [State.beginReset_eq h, State.withLines_lines]

theorem State.beginReset_boot : (s.beginReset cause).boot =
    { s.boot with reserve := none, root0 := .notJudged, root1 := .notJudged } := by
  rw [State.beginReset_eq h]
  simp

/-- A part reset begins with the part at rest. -/
theorem State.beginReset_atRest : (s.beginReset cause).atRest := by
  rw [State.beginReset_eq h]
  exact ⟨s.stopBlocks_arbiter_quiet, s.stopBlocks_verifier_quiet, rfl, nofun, by simp, rfl⟩

/-- What a part reset's beginning makes of the part (R3), in the terms of Safety.lean. -/
theorem State.beginReset_begun : resetBegun s (s.beginReset cause) cause := by
  obtain ⟨harb, hver, -, -, -, hpg⟩ := State.beginReset_atRest h cause
  have hport : (s.beginReset cause).port = .free := by rw [State.beginReset_eq h]; rfl
  have hlines := State.beginReset_lines h cause
  refine ⟨by rw [hlines], by rw [hlines], by rw [hlines], by rw [hlines], hpg, by simp [State.alert, hlines], hport,
    by simp [State.cpReady, hport], harb, hver, by simp, by simp, by simp, by simp, by simp, ?_, by simp⟩
  rw [State.beginReset_boot h]

end

end Sys2Proof.Machine
end

section
/-! Which way the boot state and the reset outputs go: outside the commands that begin or end a part reset or enter HALTED, a
command keeps the part reset and its cause, and moves the boot state from an intake state onward or not at all (R5, R11 to R17,
R20). -/

namespace Sys2Proof.Machine

/-- The boot state and the reset outputs stay; or an intake state is left for WALKING, PREVERIFY or NO_BANK with the processors as
they were, or for RELEASED with the main controller released. -/
def State.moves (s t : State) : Prop :=
  t.lines.inReset = s.lines.inReset ∧ t.lines.cause = s.lines.cause ∧
  ((t.boot.state = s.boot.state ∧ t.lines.crstOut = s.lines.crstOut ∧ t.lines.erstOut = s.lines.erstOut) ∨
   (s.boot.state.intake = true ∧ (t.boot.state = .walking ∨ t.boot.state = .preverify ∨ t.boot.state = .noBank) ∧
      t.lines.crstOut = s.lines.crstOut ∧ t.lines.erstOut = s.lines.erstOut) ∨
   (s.boot.state.intake = true ∧ t.boot.state = .released ∧ t.lines.crstOut = false))

section
variable {s t u : State}

theorem State.moves_of_same (hl : t.lines = s.lines) (hb : t.boot.state = s.boot.state) : s.moves t := by
  simp [State.moves, hl, hb]

theorem State.moves_of_enters (hi : s.boot.state.intake = true) (hl : t.lines = s.lines)
    (hb : t.boot.state = .walking ∨ t.boot.state = .preverify ∨ t.boot.state = .noBank) : s.moves t := by
  simp [State.moves, hl, hi, hb]

theorem State.moves_trans (h1 : s.moves t) (h2 : t.moves u) : s.moves u := by
  obtain ⟨hr1, hc1, h1⟩ := h1
  obtain ⟨hr2, hc2, h2⟩ := h2
  refine ⟨hr2.trans hr1, hc2.trans hc1, ?_⟩
  rcases h1 with ⟨hb, hc, he⟩ | ⟨hi, hb, hc, he⟩ | ⟨hi, hb, hc⟩
  · rw [hb, hc, he] at h2
    exact h2
  · rcases h2 with ⟨hb2, hc2, he2⟩ | ⟨-, hb2, hc2, he2⟩ | ⟨-, hb2, hc2⟩
    · exact .inr (.inl ⟨hi, by rwa [hb2], hc2.trans hc, he2.trans he⟩)
    · exact .inr (.inl ⟨hi, hb2, hc2.trans hc, he2.trans he⟩)
    · exact .inr (.inr ⟨hi, hb2, hc2⟩)
  · rcases h2 with ⟨hb2, hc2, -⟩ | ⟨hi2, -⟩ | ⟨hi2, -⟩
    · exact .inr (.inr ⟨hi, hb2.trans hb, hc2.trans hc⟩)
    all_goals simp [hb, BootState.intake] at hi2

/-- HALTED is entered by no such move. -/
theorem State.moves_live (h : s.moves t) (hs : s.live = true) : t.live = true := by
  rw [State.live_iff] at hs ⊢
  obtain ⟨hr, -, h⟩ := h
  refine ⟨hr.trans hs.1, ?_⟩
  rcases h with ⟨hb, -⟩ | ⟨-, hb | hb | hb, -⟩ | ⟨-, hb, -⟩ <;> simp [hb, hs.2]

/-- In a live part such a move keeps the processors held where they must be (R20). -/
theorem State.moves_holdLaw (h : s.moves t) (hs : s.live = true) (hl : s.holdLaw) : t.holdLaw := by
  have ht := (State.live_iff t).1 (State.moves_live h hs)
  obtain ⟨hrel, herst⟩ := hl
  obtain ⟨-, -, ⟨hb, hc, he⟩ | ⟨hi, hb, hc, he⟩ | ⟨hi, hb, hc⟩⟩ := h
  · exact ⟨fun h => ⟨ht.1, by rw [hb]; exact (hrel (hc ▸ h)).2⟩, fun h => by rw [hc]; exact herst (he ▸ h)⟩
  · have hcrst : s.lines.crstOut = true := by
      by_contra hn
      obtain ⟨-, h | h⟩ := hrel (by simpa using hn) <;> simp [h, BootState.intake] at hi
    have herst' : s.lines.erstOut = true := by
      by_contra hn
      have := herst (by simpa using hn)
      simp [hcrst] at this
    exact ⟨fun h => by simp [hc, hcrst] at h, fun h => by simp [he, herst'] at h⟩
  · exact ⟨fun _ => ⟨ht.1, .inl hb⟩, fun _ => hc⟩

end

/-! ## The walk and its outcome -/

section
variable (s : State)

theorem State.enterNoBank_moves (hi : s.boot.state.intake = true) : s.moves s.enterNoBank :=
  State.moves_of_enters hi (by simp) (.inr (.inr rfl))

theorem State.fallback_boot_state : s.fallback.boot.state = .walking ∨ s.fallback.boot.state = .noBank := by
  unfold State.fallback
  dsimp only
  split
  · exact .inl rfl
  · exact .inr rfl

theorem State.fallback_moves (hi : s.boot.state.intake = true) : s.moves s.fallback :=
  State.moves_of_enters hi (by simp) (s.fallback_boot_state.imp_right .inr)

@[simp] theorem State.releaseReserve_boot : s.releaseReserve.boot = { s.boot with reserve := none } := by
  unfold State.releaseReserve
  split
  · simp
  · rename_i h
    rw [← h]

theorem State.enterReleased_boot : s.enterReleased.boot = { s.boot with state := .released, reserve := none } := by
  unfold State.enterReleased
  dsimp only
  split <;> simp

theorem State.enterReleased_lines : s.enterReleased.lines =
    { s.lines with crstOut := false, erstOut := (findEngine s.tables.regions 0).isNone } := by
  unfold State.enterReleased
  dsimp only
  split <;> simp

theorem State.enterReleased_moves (hi : s.boot.state.intake = true) : s.moves s.enterReleased := by
  simp [State.moves, State.enterReleased_boot, State.enterReleased_lines, hi]

theorem State.enterPreverify_moves (hi : s.boot.state.intake = true) : s.moves s.enterPreverify := by
  have h : s.moves ((s.withBoot { s.boot with state := .preverify }).startPass .first) :=
    State.moves_of_enters hi (by simp) (by simp)
  unfold State.enterPreverify
  dsimp only
  split
  · exact State.moves_trans h (State.enterReleased_moves _ (by simp [BootState.intake]))
  · exact h

theorem State.walkOn_moves (fuel : Nat) : s.moves (State.walkOn fuel s) := by
  induction fuel generalizing s with
  | zero => exact State.moves_of_same rfl rfl
  | succ n ih =>
    have hr : s.moves (State.walkRun s.walkFuel s) := State.moves_of_same (by simp) (by simp)
    unfold State.walkOn
    dsimp only
    split
    · rename_i hb _
      exact State.moves_trans hr (State.enterPreverify_moves _ (by rw [hb]; rfl))
    · rename_i hb _
      exact State.moves_trans hr (State.moves_trans (State.fallback_moves _ (by rw [hb]; rfl)) (ih _))
    · exact hr

theorem State.walkOnAll_moves : s.moves s.walkOnAll := s.walkOn_moves _

theorem State.fallbackAndWalk_moves (hi : s.boot.state.intake = true) : s.moves s.fallbackAndWalk :=
  State.moves_trans (s.fallback_moves hi) (State.walkOnAll_moves _)

theorem State.endSelecting_moves : s.moves s.endSelecting := by
  unfold State.endSelecting
  split
  · rename_i h
    have hi : s.boot.state.intake = true := by
      simp only [Bool.and_eq_true, decide_eq_true_eq] at h
      rw [h.1.1]; rfl
    dsimp only
    split
    · exact State.moves_of_enters hi (by simp) (.inr (.inr rfl))
    · exact State.moves_trans (State.moves_of_enters hi (by simp) (.inl rfl)) (State.walkOnAll_moves _)
  · exact State.moves_of_same rfl rfl

/-! ## Manifests under judgement -/

@[simp] theorem State.setRoot_boot_state (k : Bank) (r : RootJudgement) :
    (s.setRoot k r).boot.state = s.boot.state := by
  cases k <;> rfl

theorem State.rejectRoot_moves (k : Bank) (i : Fin 8) : s.moves (s.rejectRoot k i) :=
  State.moves_trans (State.moves_of_same (by simp) (by simp)) (State.endSelecting_moves _)

theorem State.askPass_moves (k : Bank) (i : Fin 8) (st : JudgeStep) (d : List Byte) : s.moves (s.askPass k i st d) :=
  State.moves_of_same (by simp) (by simp [State.askPass])

theorem State.dropDelegate_moves (j : DelegateJob) : s.moves (s.dropDelegate j) :=
  State.moves_trans (State.moves_of_same (by simp) (by simp)) (State.walkOnAll_moves _)

theorem State.rootFilled_moves (k : Bank) (i : Fin 8) : s.moves (s.rootFilled k i) := by
  unfold State.rootFilled
  split
  · exact s.askPass_moves _ _ _ _
  · exact s.rejectRoot_moves _ _

theorem State.delegateFilled_moves (j : DelegateJob) : s.moves (s.delegateFilled j) := by
  unfold State.delegateFilled
  split
  · exact State.moves_of_same (by simp) (by simp)
  · exact s.dropDelegate_moves _

theorem State.manifestFilled_moves (i : Fin 8) : s.moves (s.manifestFilled i) := by
  unfold State.manifestFilled
  split
  · exact s.rootFilled_moves _ _
  · split
    · split
      · exact s.delegateFilled_moves _
      · exact State.moves_of_same rfl rfl
    · exact State.moves_of_same rfl rfl

theorem State.rootKeyed_moves (k : Bank) (i : Fin 8) (d : List Byte) : s.moves (s.rootKeyed k i d) := by
  unfold State.rootKeyed
  split
  · exact s.askPass_moves _ _ _ _
  · exact s.rejectRoot_moves _ _

theorem State.delegateKeyed_moves (j : DelegateJob) (d : List Byte) : s.moves (s.delegateKeyed j d) := by
  unfold State.delegateKeyed
  split
  · exact State.moves_of_same (by simp) (by simp)
  · exact s.dropDelegate_moves _

theorem State.checked_moves (q : CheckRequest) (pass : Bool) : s.moves (s.checked q pass) := by
  unfold State.checked
  split
  · split
    · exact State.moves_trans (State.moves_of_same (by simp) (by simp)) (State.endSelecting_moves _)
    · exact s.rejectRoot_moves _ _
  · split
    · split
      · exact State.moves_trans (State.moves_of_same (by simp) (by simp)) (State.walkOnAll_moves _)
      · exact s.dropDelegate_moves _
    · exact State.moves_of_same rfl rfl
  · exact State.moves_of_same rfl rfl

/-! ## Verdicts -/

theorem State.regionChanged_moves (g : ImageRegion) : s.moves (s.regionChanged g) := by
  unfold State.regionChanged
  split
  · rename_i hb _
    split
    · exact s.enterReleased_moves (by rw [hb]; rfl)
    · exact State.moves_of_same rfl rfl
  · rename_i hb _
    split
    · exact s.fallbackAndWalk_moves (by rw [hb]; rfl)
    · exact State.moves_of_same rfl rfl
  · exact State.moves_of_same (by simp) (by simp)
  · split
    · exact State.moves_of_same (by simp) (by simp)
    · exact State.moves_of_same rfl rfl
  · exact State.moves_of_same rfl rfl

theorem State.takeVerdict_moves (r c : Nat) (d : List Byte) : s.moves (s.takeVerdict r c d) := by
  have h : ∀ (v : Tables) (bad : Bool) (record : Nat),
      s.moves (if bad then (s.withTables v).badReport.endHeldOnBad record else s.withTables v) := by
    intro v bad record
    split <;> exact State.moves_of_same (by simp) (by simp)
  unfold State.takeVerdict
  split
  · exact State.moves_of_same rfl rfl
  · dsimp only
    split
    · exact State.moves_trans (h _ _ _) (State.regionChanged_moves _ _)
    · exact h _ _ _

theorem State.finishList_moves (j : ListJob) : s.moves (s.finishList j) := by
  unfold State.finishList
  split <;> exact State.moves_trans (State.moves_of_same (by simp) (by simp)) (State.walkOnAll_moves _)

theorem State.pieceHashed_moves (i : Fin 8) (j : ListJob) : s.moves (s.pieceHashed i j) := by
  unfold State.pieceHashed
  dsimp only
  split
  · exact State.moves_trans (State.moves_of_same (by simp) (by simp)) (State.finishList_moves _ _)
  · exact State.moves_of_same (by simp) (by simp)

/-! ## The commands' own operations -/

theorem State.engineNext_moves {s t : State} (h : s.moves t) : s.moves t.engineNext :=
  State.moves_trans h (State.moves_of_same (by simp) (by simp))

theorem State.intakeExpires_moves : s.moves s.intakeExpires := by
  unfold State.intakeExpires
  split
  · dsimp only
    split
    · rename_i hi
      exact State.moves_trans (State.moves_of_same (by simp) (by simp)) (State.enterNoBank_moves _ hi)
    · exact State.moves_of_same (by simp) (by simp)
  · exact State.moves_of_same rfl rfl

theorem State.chunkHashed_moves : s.moves s.chunkHashed := by
  unfold State.chunkHashed
  split
  · split
    · rename_i i _ _ _ r c _
      exact State.moves_trans (s.takeVerdict_moves r c (s.slotDigest i)) (State.moves_of_same (by simp) (by simp))
    all_goals exact State.moves_of_same rfl rfl
  · exact State.moves_of_same rfl rfl

theorem State.listHashed_moves : s.moves s.listHashed := by
  unfold State.listHashed
  split
  · split
    · exact State.engineNext_moves (s.pieceHashed_moves _ _)
    · exact State.moves_of_same rfl rfl
  · exact State.moves_of_same rfl rfl

theorem State.passDone_moves (i : Fin 8) : s.moves (s.passDone i) := State.moves_of_same (by simp) (by simp)

theorem State.keyHashed_moves : s.moves s.keyHashed := by
  unfold State.keyHashed
  split
  · dsimp only
    split
    · exact State.engineNext_moves (State.moves_trans (s.passDone_moves _) (State.rootKeyed_moves _ _ _ _))
    · split
      · exact State.engineNext_moves (State.moves_trans (s.passDone_moves _) (State.delegateKeyed_moves _ _ _))
      · exact State.moves_of_same rfl rfl
    · exact State.moves_of_same rfl rfl
  · exact State.moves_of_same rfl rfl

theorem State.spanHashed_moves : s.moves s.spanHashed := by
  unfold State.spanHashed
  split
  · dsimp only
    split
    · exact State.moves_of_same (by simp) (by simp)
    · split <;> exact State.moves_of_same (by simp) (by simp)
    · exact State.moves_of_same rfl rfl
  · exact State.moves_of_same rfl rfl

theorem State.checkEnds_moves : s.moves s.checkEnds := by
  unfold State.checkEnds
  split
  · exact State.moves_trans (State.moves_of_same (by simp) (by simp)) (State.checked_moves _ _ _)
  · exact State.moves_of_same rfl rfl

theorem State.burstCounted_moves (i : Fin 8) : s.moves (s.burstCounted i) := by
  unfold State.burstCounted
  dsimp only
  split
  · exact State.moves_of_same (by simp) (by simp)
  · split
    · exact State.moves_trans (State.moves_of_same (by simp) (by simp)) (State.manifestFilled_moves _ _)
    · exact State.moves_of_same (by simp) (by simp)

theorem State.burstEnds_moves : s.moves s.burstEnds := by
  unfold State.burstEnds
  split
  · split
    · dsimp only
      split
      · exact State.moves_trans (State.moves_of_same (by simp) (by simp)) (State.burstCounted_moves _ _)
      · exact State.moves_of_same (by simp) (by simp)
    · exact State.moves_of_same rfl rfl
  · exact State.moves_of_same rfl rfl

theorem State.crstAsserts_moves : s.moves s.crstAsserts := by
  simp [State.moves, State.crstAsserts]

theorem State.answerFrame_moves {act : State × List Byte} (h : s.moves act.1) : s.moves (s.answerFrame act) := by
  unfold State.answerFrame
  split
  · split
    · exact State.moves_trans h (State.moves_of_same rfl rfl)
    · exact State.moves_of_same rfl rfl
  all_goals exact State.moves_of_same rfl rfl

theorem State.tickTimer_moves : s.moves s.tickTimer := by
  unfold State.tickTimer
  split
  · split
    · split
      · exact s.intakeExpires_moves
      all_goals exact State.moves_of_same (by simp) (by simp)
    · exact State.moves_of_same rfl rfl
  · exact State.moves_of_same rfl rfl

theorem State.tick_moves : s.moves s.tick :=
  State.moves_trans s.tickTimer_moves
    (State.moves_of_same (t := s.tickTimer.tickGate.pollRetries) (by simp) (by simp))

end

/-! ## Every command -/

/-- The commands that may begin a part reset, end it or enter HALTED. -/
def resetCommand : Instr → Bool
  | .powerOn _ | .nrstFall | .partResetEnd _ _ _ | .brownOutFall | .brownOutRecovery => true
  | _ => false

theorem next_inj {u t : State} (h : (.next u : Host.Outcome State Fault Refusal) = .next t) : t = u :=
  (Host.Outcome.next.inj h).symm

theorem exec_moves {c : Instr} {s t : State} (hc : resetCommand c = false) (h : exec c s = .next t) : s.moves t := by
  cases c with
  | powerOn _ | nrstFall | partResetEnd _ _ _ | brownOutFall | brownOutRecovery => simp [resetCommand] at hc
  | crstInAssert => rw [next_inj h]; exact s.crstAsserts_moves
  | crstInDeassert => rw [next_inj h]; simp [State.moves]
  | intakeDeadlineExpiry => rw [next_inj h]; exact s.intakeExpires_moves
  | burstComplete => rw [next_inj h]; exact s.burstEnds_moves
  | chunkHashComplete => rw [next_inj h]; exact s.chunkHashed_moves
  | listPieceHashComplete => rw [next_inj h]; exact s.listHashed_moves
  | keyPassComplete => rw [next_inj h]; exact s.keyHashed_moves
  | spanPassComplete => rw [next_inj h]; exact s.spanHashed_moves
  | signatureCheckEnd => rw [next_inj h]; exact s.checkEnds_moves
  | supplyWarningRise | cpReadArrival _ | cpWriteArrival _ _ | elIdent | elUnknownCommand _ =>
    rw [next_inj h]
    split <;> exact State.moves_of_same (by simp) (by simp)
  | slStatus | slRegion _ | slChunks _ _ | slCapture | slCounters | slKeys | slProvision _ _ | slRevoke _ | slClose
  | slLock | slWipe | slPatrol | slUnknown _ =>
    rw [next_inj h]
    exact s.answerFrame_moves (State.moves_of_same (by simp) (by simp))
  | supplyWarningFall | bootDeadlineExpiry | patrolIntervalExpiry | pgateHalfPeriod | flashGrant | burstWordBoundary
  | cpWordReturn | cpReadAbandon | cpAccessEnd | sequenceSent | flashOperationEnd _ _ | pollPairComplete | pollRetryTick
  | wipeSectorStart | elFrameBegin | elRead _ | elStatus | elReadByteBoundary | elStatusByteBoundary | elWordReturn
  | elFrameEnd | slFrameEnd | slFrameBegin | fuseStepEnd | fuseOperationEnd =>
    rw [next_inj h]
    exact State.moves_of_same (by simp) (by simp)

end Sys2Proof.Machine
end

section
/-! A part at rest, in a part reset or in HALTED, stays at rest (R3, R18). -/

namespace Sys2Proof.Machine

/-- The part is at rest with the boot state and the part's lines as they were, but for the level of CRST_IN. -/
def State.restsAs (s t : State) : Prop :=
  t.atRest ∧ t.boot = s.boot ∧ t.lines = { s.lines with crstIn := t.lines.crstIn }

section
variable {s t : State}

/-- Rest depends on these blocks alone. -/
theorem State.restsAs_of_same (hq : s.atRest) (hs : t.arbiter = s.arbiter ∧ t.verifier = s.verifier ∧ t.walk = s.walk ∧
    t.port = s.port ∧ t.timer = s.timer ∧ t.gate = s.gate ∧ t.boot = s.boot ∧ t.lines = s.lines) : s.restsAs t := by
  obtain ⟨ha, hv, hw, hp, ht, hg, hb, hl⟩ := hs
  refine ⟨?_, hb, by rw [hl]⟩
  simpa only [State.atRest, ha, hv, hw, hp, ht, hg] using hq

theorem State.restsAs_of_eq (hq : s.atRest) (h : t = s) : s.restsAs t := by
  subst h
  exact State.restsAs_of_same hq ⟨rfl, rfl, rfl, rfl, rfl, rfl, rfl, rfl⟩

/-- The Controller Port may answer, or go free, as long as it holds no read. -/
theorem State.restsAs_withPort (hq : s.atRest) {p : Port} (hp : ∀ h, p ≠ .held h) : s.restsAs (s.withPort p) := by
  obtain ⟨ha, hv, hw, -, ht, hg⟩ := hq
  exact ⟨⟨ha, hv, hw, hp, ht, hg⟩, rfl, rfl⟩

end

/-! ## What does not happen in a stopped part -/

section
variable {s : State} (hs : s.live = false)
include hs

theorem State.timerFor_of_stopped (p : TimerPurpose) : s.timerFor p = false := by simp [State.timerFor, hs]

theorem State.intakeExpires_of_stopped : s.intakeExpires = s := by
  simp [State.intakeExpires, State.timerFor_of_stopped hs]

theorem State.bootExpires_of_stopped : s.bootExpires = s := by
  simp [State.bootExpires, State.timerFor_of_stopped hs]

theorem State.patrolExpires_of_stopped : s.patrolExpires = s := by
  simp [State.patrolExpires, State.timerFor_of_stopped hs]

theorem State.pgateToggles_of_stopped : s.pgateToggles = s := by simp [State.pgateToggles, hs]

theorem State.grant_of_stopped : s.grant = s := by simp [State.grant, hs]

theorem State.pollRetries_of_stopped : s.pollRetries = s := by simp [State.pollRetries, hs]

theorem State.wipeStarts_of_stopped : s.wipeStarts = s := by simp [State.wipeStarts, State.wipeCanStart, hs]

theorem State.elReads_of_stopped (a : Addr) : s.elReads a = s := by simp [State.elReads, State.elCommanding, hs]

theorem State.elBoundary_of_stopped : s.elBoundary = s ∨ s.elBoundary = s.sendEl 0xFF#8 := by
  unfold State.elBoundary
  cases s.el.selected <;> simp [hs]

theorem State.tick_of_stopped : s.tick = s := by
  simp [State.tick, State.tickTimer, State.tickGate, State.pollRetries, hs]

/-- A frame that completes in a stopped part has no effect outside the Service Link. -/
theorem State.answerFrame_of_stopped (act : State × List Byte) : ∃ l, s.answerFrame act = s.withSl l := by
  unfold State.answerFrame
  split
  · exact ⟨_, by rw [if_neg (by simp [hs])]⟩
  all_goals exact ⟨s.sl, rfl⟩

/-- An arrival that the port takes in a stopped part is taken in HALTED. -/
theorem State.halted_of_portTakes (h : s.portTakes = true) : s.boot.state = .halted := by
  simp only [State.portTakes, Bool.and_eq_true, Bool.not_eq_true'] at h
  rcases (State.live_eq_false_iff s).1 hs with hr | hb
  · rw [h.2] at hr; cases hr
  · exact hb

end

/-! ## What finds nothing to do in a part at rest -/

section
variable {s : State}

theorem State.burstAdvances_of_free (h : s.arbiter.access = none) : s.burstAdvances = s := by
  simp [State.burstAdvances, h]

theorem State.burstEnds_of_free (h : s.arbiter.access = none) : s.burstEnds = s := by simp [State.burstEnds, h]

theorem State.sequenceSent_of_free (h : s.arbiter.access = none) : s.sequenceSent = s := by
  simp [State.sequenceSent, h]

theorem State.pollEnds_of_free (h : s.arbiter.access = none) : s.pollEnds = s := by simp [State.pollEnds, h]

theorem State.cpReturns_of_free (h : s.arbiter.access = none) : s.cpReturns = s := by simp [State.cpReturns, h]

theorem State.elReturns_of_free (h : s.arbiter.access = none) : s.elReturns = s := by simp [State.elReturns, h]

theorem State.hashed_of_idle (h : s.verifier.engine = none) : s.hashed = none := by simp [State.hashed, h]

theorem State.chunkHashed_of_idle (h : s.verifier.engine = none) : s.chunkHashed = s := by
  simp [State.chunkHashed, State.hashed_of_idle h]

theorem State.listHashed_of_idle (h : s.verifier.engine = none) : s.listHashed = s := by
  simp [State.listHashed, State.hashed_of_idle h]

theorem State.keyHashed_of_idle (h : s.verifier.engine = none) : s.keyHashed = s := by
  simp [State.keyHashed, State.hashed_of_idle h]

theorem State.spanHashed_of_idle (h : s.verifier.engine = none) : s.spanHashed = s := by
  simp [State.spanHashed, State.hashed_of_idle h]

theorem State.checkEnds_of_idle (h : s.verifier.checking = none) : s.checkEnds = s := by simp [State.checkEnds, h]

theorem State.endHeldRead_of_not_held (h : ∀ r, s.port ≠ .held r) : s.endHeldRead = s := by
  unfold State.endHeldRead
  split
  · exact absurd ‹_› (h _)
  all_goals rfl

/-- CRST_IN at the tracker withdraws at most the Controller Port's request. -/
theorem State.resetTracker_arbiter :
    s.resetTracker.arbiter = s.arbiter ∨ s.resetTracker.arbiter = { s.arbiter with cpWait := none } := by
  unfold State.resetTracker
  split
  case h_2 => split <;> simp
  all_goals simp

theorem State.crstAsserts_restsAs (hq : s.atRest) : s.restsAs s.crstAsserts := by
  obtain ⟨⟨hacc, hcp, hel, hslot, hpoll, hmaint, hsus, hpark⟩, hv, hw, hp, ht, hg⟩ := hq
  have ha : s.resetTracker.arbiter.quiet := by
    rcases s.resetTracker_arbiter with e | e <;> rw [e]
    · exact ⟨hacc, hcp, hel, hslot, hpoll, hmaint, hsus, hpark⟩
    · exact ⟨hacc, rfl, hel, hslot, hpoll, hmaint, hsus, hpark⟩
  have he : s.crstAsserts = (s.resetTracker.withPort .free).withLines { s.lines with crstIn := true } := by
    simp [State.crstAsserts, State.endHeldRead_of_not_held hp]
  rw [he]
  exact ⟨⟨ha, by simpa using hv, by simpa using hw, nofun, by simpa using ht, by simpa using hg⟩, by simp, rfl⟩

theorem State.readArrives_restsAs (hq : s.atRest) (hb : s.boot.state = .halted) (a : Addr) :
    s.restsAs (s.readArrives a) := by
  simp only [State.readArrives, hb]
  exact State.restsAs_withPort hq nofun

theorem State.writeArrives_restsAs (hq : s.atRest) (hb : s.boot.state = .halted) (a : Addr) (v : Word) :
    s.restsAs (s.writeArrives a v) := by
  have he : s.writeArrives a v = s.withPort .written := by simp [State.writeArrives, hb, BootState.writable]
  rw [he]
  exact State.restsAs_withPort hq nofun

theorem State.accessEnds_restsAs (hq : s.atRest) : s.restsAs s.accessEnds := by
  unfold State.accessEnds
  split
  · exact State.restsAs_withPort hq nofun
  · exact State.restsAs_withPort hq nofun
  all_goals exact State.restsAs_of_eq hq rfl

theorem State.elEnds_restsAs (hq : s.atRest) : s.restsAs s.elEnds := by
  obtain ⟨ha, hv, hw, hp, ht, hg⟩ := hq
  unfold State.elEnds
  split
  · exact ⟨⟨State.endLinkRead_quiet ha, hv, hw, hp, ht, hg⟩, rfl, rfl⟩
  · exact State.restsAs_of_eq ⟨ha, hv, hw, hp, ht, hg⟩ rfl

end

/-! ## Every command -/

/-- A stopped part at rest stays so, whatever command comes that does not end the part reset or begin one. -/
theorem exec_restsAs {c : Instr} {s t : State} (hc : resetCommand c = false) (hs : s.live = false) (hq : s.atRest)
    (h : exec c s = .next t) : s.restsAs t := by
  obtain ⟨⟨hacc, -⟩, ⟨-, -, heng, hchk, -⟩, -, hport, -⟩ := id hq
  cases c with
  | powerOn _ | nrstFall | partResetEnd _ _ _ | brownOutFall | brownOutRecovery => simp [resetCommand] at hc
  | crstInAssert => rw [next_inj h]; exact State.crstAsserts_restsAs hq
  | crstInDeassert => rw [next_inj h]; exact ⟨hq, rfl, rfl⟩
  -- commands of which a stopped part takes no notice
  | intakeDeadlineExpiry => exact State.restsAs_of_eq hq ((next_inj h).trans (State.intakeExpires_of_stopped hs))
  | bootDeadlineExpiry => exact State.restsAs_of_eq hq ((next_inj h).trans (State.bootExpires_of_stopped hs))
  | patrolIntervalExpiry => exact State.restsAs_of_eq hq ((next_inj h).trans (State.patrolExpires_of_stopped hs))
  | pgateHalfPeriod => exact State.restsAs_of_eq hq ((next_inj h).trans (State.pgateToggles_of_stopped hs))
  | flashGrant => exact State.restsAs_of_eq hq ((next_inj h).trans (State.grant_of_stopped hs))
  | pollRetryTick => exact State.restsAs_of_eq hq ((next_inj h).trans (State.pollRetries_of_stopped hs))
  | wipeSectorStart => exact State.restsAs_of_eq hq ((next_inj h).trans (State.wipeStarts_of_stopped hs))
  | elRead a => exact State.restsAs_of_eq hq ((next_inj h).trans (State.elReads_of_stopped hs a))
  -- the ends of accesses, hashes and checks, of which none is in progress
  | burstWordBoundary => exact State.restsAs_of_eq hq ((next_inj h).trans (State.burstAdvances_of_free hacc))
  | burstComplete => exact State.restsAs_of_eq hq ((next_inj h).trans (State.burstEnds_of_free hacc))
  | sequenceSent => exact State.restsAs_of_eq hq ((next_inj h).trans (State.sequenceSent_of_free hacc))
  | pollPairComplete => exact State.restsAs_of_eq hq ((next_inj h).trans (State.pollEnds_of_free hacc))
  | cpWordReturn => exact State.restsAs_of_eq hq ((next_inj h).trans (State.cpReturns_of_free hacc))
  | elWordReturn => exact State.restsAs_of_eq hq ((next_inj h).trans (State.elReturns_of_free hacc))
  | chunkHashComplete => exact State.restsAs_of_eq hq ((next_inj h).trans (State.chunkHashed_of_idle heng))
  | listPieceHashComplete => exact State.restsAs_of_eq hq ((next_inj h).trans (State.listHashed_of_idle heng))
  | keyPassComplete => exact State.restsAs_of_eq hq ((next_inj h).trans (State.keyHashed_of_idle heng))
  | spanPassComplete => exact State.restsAs_of_eq hq ((next_inj h).trans (State.spanHashed_of_idle heng))
  | signatureCheckEnd => exact State.restsAs_of_eq hq ((next_inj h).trans (State.checkEnds_of_idle hchk))
  | cpReadAbandon => exact State.restsAs_of_eq hq ((next_inj h).trans (State.endHeldRead_of_not_held hport))
  -- the Controller Port, which takes accesses in HALTED
  | cpReadArrival a =>
    rw [next_inj h]
    split
    · exact State.readArrives_restsAs hq (State.halted_of_portTakes hs ‹_›) a
    · exact State.restsAs_of_eq hq rfl
  | cpWriteArrival a v =>
    rw [next_inj h]
    split
    · exact State.writeArrives_restsAs hq (State.halted_of_portTakes hs ‹_›) a v
    · exact State.restsAs_of_eq hq rfl
  | cpAccessEnd => rw [next_inj h]; exact State.accessEnds_restsAs hq
  -- the links
  | elFrameEnd => rw [next_inj h]; exact State.elEnds_restsAs hq
  | elReadByteBoundary =>
    rw [next_inj h]
    rcases State.elBoundary_of_stopped hs with e | e <;> rw [e]
    · exact State.restsAs_of_eq hq rfl
    · exact State.restsAs_of_same hq (by simp)
  | slStatus | slRegion _ | slChunks _ _ | slCapture | slCounters | slKeys | slProvision _ _ | slRevoke _ | slClose
  | slLock | slWipe | slPatrol | slUnknown _ =>
    rw [next_inj h]
    obtain ⟨l, e⟩ := State.answerFrame_of_stopped hs _
    exact e ▸ State.restsAs_of_same hq (by simp)
  -- the fuse programmer, the flash, the supply's warning level and the links' frames
  | supplyWarningRise | elIdent | elUnknownCommand _ =>
    rw [next_inj h]
    split <;> exact State.restsAs_of_same hq (by simp)
  | supplyWarningFall | flashOperationEnd _ _ | elFrameBegin | elStatus | elStatusByteBoundary | slFrameEnd
  | slFrameBegin | fuseStepEnd | fuseOperationEnd =>
    rw [next_inj h]
    exact State.restsAs_of_same hq (by simp)

end Sys2Proof.Machine
end

section
/-! The commands of reset and brown-out, and what every step keeps: a stopped part at rest and the processors held (R3 to R5, R18,
R20). -/

namespace Sys2Proof.Machine

/-! ## What the commands make of the lines -/

section
variable (s : State)

@[simp] theorem State.setBrownOut_lines (below : Bool) :
    (s.setBrownOut below).lines = { s.lines with belowBrownOut := below } := rfl

theorem State.powerOn_lines (flash : Option (List Word)) :
    (s.powerOn flash).lines = { (s.beginReset .powerOn).lines with belowBrownOut := false } := by
  cases flash <;> rfl

theorem State.powerOn_atRest {flash : Option (List Word)} (h : (s.beginReset .powerOn).atRest) :
    (s.powerOn flash).atRest := by
  cases flash <;> exact h

/-- The part with SUPPLY_LOW set and the supply known to be below the brown-out level, before HALTED is entered (R169). -/
def State.brownOutSeen (s : State) : State := (if s.alerts.supplyLow then s else s.supplyFalls).setBrownOut true

theorem State.brownOutFalls_eq :
    s.brownOutFalls = if s.brownOutSeen.live then s.brownOutSeen.enterHalted else s.brownOutSeen := rfl

@[simp] theorem State.supplyFalls_alerts : s.supplyFalls.alerts = { s.alerts with supplyLow := true } := by
  unfold State.supplyFalls
  dsimp only
  split <;> simp

@[simp] theorem State.brownOutSeen_lines : s.brownOutSeen.lines = { s.lines with belowBrownOut := true } := by
  unfold State.brownOutSeen
  split <;> simp

@[simp] theorem State.brownOutSeen_alerts : s.brownOutSeen.alerts = { s.alerts with supplyLow := true } := by
  unfold State.brownOutSeen
  split
  · rename_i h
    simp [← h]
  · simp

@[simp] theorem State.brownOutSeen_blocks :
    s.brownOutSeen.boot = s.boot ∧ s.brownOutSeen.gate = s.gate ∧ s.brownOutSeen.timer = s.timer ∧
    s.brownOutSeen.walk = s.walk ∧ s.brownOutSeen.tables = s.tables ∧ s.brownOutSeen.scan = s.scan ∧
    s.brownOutSeen.verifier = s.verifier ∧ s.brownOutSeen.arbiter = s.arbiter ∧ s.brownOutSeen.flash = s.flash ∧
    s.brownOutSeen.port = s.port ∧ s.brownOutSeen.filter = s.filter ∧ s.brownOutSeen.fuse = s.fuse ∧
    s.brownOutSeen.sl = s.sl ∧ s.brownOutSeen.pending = s.pending := by
  unfold State.brownOutSeen
  split <;> simp

@[simp] theorem State.brownOutSeen_live : s.brownOutSeen.live = s.live := by simp [State.live]

theorem State.endReset_lines (fsz swl : BitVec 2) (low : Bool) :
    (s.endReset fsz swl low).lines.inReset = false ∧ (s.endReset fsz swl low).lines.cause = s.lines.cause := by
  unfold State.endReset
  dsimp only
  split
  · exact ⟨rfl, rfl⟩
  · simp [State.volatileReset]

/-- A part reset ends in TRANSPARENT with both processors released, or in SELECTING with both held. -/
theorem State.endReset_outputs (fsz swl : BitVec 2) (low : Bool) :
    ((s.endReset fsz swl low).boot.state = .transparent ∧ (s.endReset fsz swl low).lines.crstOut = false ∧
      (s.endReset fsz swl low).lines.erstOut = false) ∨
    ((s.endReset fsz swl low).boot.state = .selecting ∧ (s.endReset fsz swl low).lines.crstOut = true ∧
      (s.endReset fsz swl low).lines.erstOut = true) := by
  unfold State.endReset
  dsimp only
  split
  · exact .inl ⟨rfl, rfl, rfl⟩
  · right
    simp [State.startSelecting, State.volatileReset, Boot.reset]

theorem State.endReset_live (fsz swl : BitVec 2) (low : Bool) : (s.endReset fsz swl low).live = true := by
  rw [State.live_iff]
  refine ⟨(s.endReset_lines fsz swl low).1, ?_⟩
  rcases s.endReset_outputs fsz swl low with ⟨hb, -⟩ | ⟨hb, -⟩ <;> simp [hb]

end

/-! ## A stopped part at rest -/

section
variable {s : State}

/-- During a part reset a second source finds the part at rest, and outside of one a source brings it to rest. -/
theorem State.beginReset_atRest_of_quietLaw (hq : s.quietLaw) (cause : ResetCause) : (s.beginReset cause).atRest := by
  cases h : s.lines.inReset
  · exact State.beginReset_atRest h cause
  · rw [State.beginReset_of_inReset h]
    exact hq (by simp [State.live, h])

theorem State.brownOutRecovers_quietLaw (hq : s.quietLaw) : s.brownOutRecovers.quietLaw := by
  unfold State.brownOutRecovers
  split
  · exact fun h => hq h
  · split
    · exact fun _ => State.beginReset_atRest_of_quietLaw hq .brownOut
    · exact hq

theorem State.brownOutFalls_quietLaw (hq : s.quietLaw) : s.brownOutFalls.quietLaw := by
  rw [State.brownOutFalls_eq, State.brownOutSeen_live]
  split
  · exact (State.quietLaw_iff _).2 fun _ => State.enterHalted_atRest _
  · rename_i hs
    have ht := hq (by simpa using hs)
    exact (State.quietLaw_iff _).2 fun _ => by simpa [State.atRest] using ht

theorem exec_quietLaw {c : Instr} {t : State} (hq : s.quietLaw) (h : exec c s = .next t) : t.quietLaw := by
  cases hc : resetCommand c
  · intro ht
    cases hs : s.live
    · exact (exec_restsAs hc hs (hq hs) h).1
    · rw [State.moves_live (exec_moves hc h) hs] at ht
      cases ht
  · cases c with
    | powerOn flash =>
      rw [next_inj h]
      exact fun _ => s.powerOn_atRest (State.beginReset_atRest_of_quietLaw hq .powerOn)
    | nrstFall =>
      rw [next_inj h]
      exact fun _ => State.beginReset_atRest_of_quietLaw hq .pin
    | partResetEnd fsz swl low =>
      rw [next_inj h]
      split
      · intro ht
        rw [s.endReset_live] at ht
        cases ht
      · exact hq
    | brownOutFall => rw [next_inj h]; exact State.brownOutFalls_quietLaw hq
    | brownOutRecovery => rw [next_inj h]; exact State.brownOutRecovers_quietLaw hq
    | _ => simp [resetCommand] at hc

end

/-! ## The processors held -/

section
variable {s t : State}

theorem State.holdLaw_of_held (hc : t.lines.crstOut = true) (he : t.lines.erstOut = true) : t.holdLaw := by
  simp [State.holdLaw, hc, he]

/-- The law speaks of the part reset, the two outputs and the boot state. -/
theorem State.holdLaw_of_same (hl : s.holdLaw) (h : t.lines.inReset = s.lines.inReset ∧
    t.lines.crstOut = s.lines.crstOut ∧ t.lines.erstOut = s.lines.erstOut ∧ t.boot.state = s.boot.state) : t.holdLaw := by
  obtain ⟨hr, hc, he, hb⟩ := h
  simpa only [State.holdLaw, hr, hc, he, hb] using hl

theorem State.beginReset_holdLaw (hl : s.holdLaw) (cause : ResetCause) : (s.beginReset cause).holdLaw := by
  cases h : s.lines.inReset
  · exact State.holdLaw_of_held (by rw [State.beginReset_lines h]) (by rw [State.beginReset_lines h])
  · rwa [State.beginReset_of_inReset h]

theorem State.endReset_holdLaw (fsz swl : BitVec 2) (low : Bool) : (s.endReset fsz swl low).holdLaw := by
  rcases s.endReset_outputs fsz swl low with ⟨hb, hc, he⟩ | ⟨-, hc, he⟩
  · exact ⟨fun _ => ⟨(s.endReset_lines fsz swl low).1, .inr hb⟩, fun _ => hc⟩
  · exact State.holdLaw_of_held hc he

theorem State.brownOutFalls_holdLaw (hl : s.holdLaw) : s.brownOutFalls.holdLaw := by
  rw [State.brownOutFalls_eq]
  split
  · exact State.holdLaw_of_held (by simp) (by simp)
  · exact State.holdLaw_of_same hl (by simp)

theorem State.brownOutRecovers_holdLaw (hl : s.holdLaw) : s.brownOutRecovers.holdLaw := by
  unfold State.brownOutRecovers
  split
  · exact hl
  · split
    · exact State.holdLaw_of_same (State.beginReset_holdLaw hl .brownOut) ⟨rfl, rfl, rfl, rfl⟩
    · exact hl

theorem exec_holdLaw {c : Instr} (hq : s.quietLaw) (hl : s.holdLaw) (h : exec c s = .next t) : t.holdLaw := by
  cases hc : resetCommand c
  · cases hs : s.live
    · obtain ⟨-, hb, hlines⟩ := exec_restsAs hc hs (hq hs) h
      exact State.holdLaw_of_same hl (by rw [hlines, hb]; exact ⟨rfl, rfl, rfl, rfl⟩)
    · exact State.moves_holdLaw (exec_moves hc h) hs hl
  · cases c with
    | powerOn flash =>
      rw [next_inj h]
      exact State.holdLaw_of_same (State.beginReset_holdLaw hl .powerOn) (by cases flash <;> exact ⟨rfl, rfl, rfl, rfl⟩)
    | nrstFall =>
      rw [next_inj h]
      exact State.holdLaw_of_same (State.beginReset_holdLaw hl .pin) ⟨rfl, rfl, rfl, rfl⟩
    | partResetEnd fsz swl low =>
      rw [next_inj h]
      split
      · exact State.endReset_holdLaw fsz swl low
      · exact hl
    | brownOutFall => rw [next_inj h]; exact State.brownOutFalls_holdLaw hl
    | brownOutRecovery => rw [next_inj h]; exact State.brownOutRecovers_holdLaw hl
    | _ => simp [resetCommand] at hc

end

/-! ## One step -/

/-- A step is a tick of an empty queue, or the front command's, run with the queue's rest. -/
theorem step_cases {s t : State} (h : step s = .next t) :
    t = s.tick ∨ ∃ c rest, exec c (s.withPending rest) = .next t := by
  unfold step at h
  split at h
  · exact .inr ⟨_, _, h⟩
  · exact .inl (next_inj h)

/-- Settles O8: a command that begins no part reset either leaves a live part live or a stopped part at rest
(`exec_restsAs`), and the sources of a part reset and the entry to HALTED stop every block (`State.stopBlocks`). -/
theorem everyStepKeepsAStoppedPartQuiet : Obligations.EveryStepKeepsAStoppedPartQuiet := by
  intro s t hq h
  obtain rfl | ⟨c, rest, h⟩ := step_cases h
  · intro ht
    cases hs : s.live
    · rw [State.tick_of_stopped hs]
      exact hq hs
    · rw [State.moves_live s.tick_moves hs] at ht
      cases ht
  · exact exec_quietLaw (s := s.withPending rest) hq h

/-- Settles O9: only the entry to RELEASED and the end of a FACTORY part's reset release a processor, and in a stopped part,
which is at rest (O8), no such entry comes. -/
theorem everyStepKeepsTheProcessorsHeld : Obligations.EveryStepKeepsTheProcessorsHeld := by
  intro s t hq hl h
  obtain rfl | ⟨c, rest, h⟩ := step_cases h
  · cases hs : s.live
    · rwa [State.tick_of_stopped hs]
    · exact State.moves_holdLaw s.tick_moves hs hl
  · exact exec_holdLaw (s := s.withPending rest) hq hl h

end Sys2Proof.Machine
end

section
/-! The statements about part resets and HALTED (R3 to R7, R18, R19). -/

namespace Sys2Proof.Machine

/-! ## The beginning of a part reset -/

/-- What has begun does not depend on the level of nRST, on the supply's against its brown-out level, or on the flash. -/
theorem resetBegun_of_levels {s t : State} {cause : ResetCause} (h : resetBegun s t cause) (low below : Bool)
    (f : Flash) :
    resetBegun s ((t.withLines { t.lines with nrstLow := low, belowBrownOut := below }).withFlash f) cause := h

theorem State.powerOn_begun {s : State} (h : s.lines.inReset = false) (flash : Option (List Word)) :
    resetBegun s (s.powerOn flash) .powerOn := by
  have hb := State.beginReset_begun h .powerOn
  cases flash with
  | none => exact resetBegun_of_levels hb (s.beginReset .powerOn).lines.nrstLow false (s.beginReset .powerOn).flash
  | some left => exact resetBegun_of_levels hb (s.beginReset .powerOn).lines.nrstLow false _

theorem State.nrstFalls_begun {s : State} (h : s.lines.inReset = false) : resetBegun s s.nrstFalls .pin :=
  resetBegun_of_levels (State.beginReset_begun h .pin) true (s.beginReset .pin).lines.belowBrownOut
    (s.beginReset .pin).flash

theorem State.brownOutRecovers_of_halted {s : State} (h : s.lines.inReset = false) (hb : s.boot.state = .halted) :
    s.brownOutRecovers = (s.beginReset .brownOut).setBrownOut false := by
  simp [State.brownOutRecovers, h, hb]

theorem State.brownOutRecovers_begun {s : State} (h : s.lines.inReset = false) (hb : s.boot.state = .halted) :
    resetBegun s s.brownOutRecovers .brownOut := by
  rw [State.brownOutRecovers_of_halted h hb]
  exact resetBegun_of_levels (State.beginReset_begun h .brownOut) (s.beginReset .brownOut).lines.nrstLow false
    (s.beginReset .brownOut).flash

/-! ## A second source -/

theorem State.powerOn_of_inReset {s : State} (h : s.lines.inReset = true) (flash : Option (List Word)) :
    s.powerOn flash =
      flash.elim (s.setBrownOut false) fun left => (s.setBrownOut false).withFlash (s.flash.powerCycle left) := by
  unfold State.powerOn
  rw [State.beginReset_of_inReset h]
  cases flash <;> rfl

theorem State.nrstFalls_of_inReset {s : State} (h : s.lines.inReset = true) :
    s.nrstFalls = s.withLines { s.lines with nrstLow := true } := by
  unfold State.nrstFalls
  rw [State.beginReset_of_inReset h]

theorem State.brownOutRecovers_of_inReset {s : State} (h : s.lines.inReset = true) :
    s.brownOutRecovers = s.setBrownOut false := by
  simp [State.brownOutRecovers, h]

/-- A flash whose supply returns keeps its array where no operation was cut off. -/
theorem Flash.powerCycle_cells {f : Flash} (h0 : f.bank0.isRunning = false) (h1 : f.bank1.isRunning = false)
    (left : List Word) : (f.powerCycle left).cells = f.cells := by
  have h : f.runningOp = none := by
    unfold FlashBank.isRunning at h0 h1
    unfold Flash.runningOp
    cases hm0 : f.bank0.mode <;> cases hm1 : f.bank1.mode <;> simp_all
  simp [Flash.powerCycle, h]

/-- Settles O14: outside a part reset each source is `State.beginReset` with its own cause and its line's level; inside one
`State.beginReset` does nothing. -/
theorem threeSourcesBeginAPartReset : Obligations.ThreeSourcesBeginAPartReset := by
  intro s
  refine ⟨fun h => ⟨fun f => ⟨_, rfl, State.powerOn_begun h f⟩, ⟨_, rfl, State.nrstFalls_begun h, by simp⟩,
    fun hb => ⟨_, rfl, State.brownOutRecovers_begun h hb, by simp⟩⟩, fun h => ⟨?_, fun left => ?_, ?_, ?_⟩⟩
  · exact congrArg Host.Outcome.next (State.powerOn_of_inReset h none)
  · refine ⟨_, congrArg Host.Outcome.next (State.powerOn_of_inReset h (some left)), rfl, rfl, rfl, rfl, ?_⟩
    exact fun h0 h1 => Flash.powerCycle_cells h0 h1 left
  · exact congrArg Host.Outcome.next (State.nrstFalls_of_inReset h)
  · exact congrArg Host.Outcome.next (State.brownOutRecovers_of_inReset h)

/-! ## The reset cause -/

section
variable {s t : State}

/-- The part reset and its cause after a command that may begin one: as they were, or a part reset begun. -/
theorem State.beginReset_cause (cause : ResetCause) :
    (s.beginReset cause).lines.cause = s.lines.cause ∨
      (s.lines.inReset = false ∧ (s.beginReset cause).lines.inReset = true) := by
  cases h : s.lines.inReset
  · exact .inr ⟨rfl, by rw [State.beginReset_lines h]⟩
  · exact .inl (by rw [State.beginReset_of_inReset h])

theorem exec_cause {c : Instr} (h : exec c s = .next t) :
    t.lines.cause = s.lines.cause ∨ (s.lines.inReset = false ∧ t.lines.inReset = true) := by
  cases hc : resetCommand c
  · exact .inl (exec_moves hc h).2.1
  · cases c with
    | powerOn flash =>
      rw [next_inj h, State.powerOn_lines]
      exact State.beginReset_cause .powerOn
    | nrstFall => rw [next_inj h]; exact State.beginReset_cause .pin
    | partResetEnd fsz swl low =>
      rw [next_inj h]
      split
      · exact .inl (s.endReset_lines fsz swl low).2
      · exact .inl rfl
    | brownOutFall =>
      rw [next_inj h, State.brownOutFalls_eq]
      split <;> exact .inl (by simp)
    | brownOutRecovery =>
      rw [next_inj h]
      unfold State.brownOutRecovers
      split
      · exact .inl rfl
      · split
        · exact State.beginReset_cause .brownOut
        · exact .inl rfl
    | _ => simp [resetCommand] at hc

theorem step_cause (h : step s = .next t) :
    t.lines.cause = s.lines.cause ∨ (s.lines.inReset = false ∧ t.lines.inReset = true) := by
  obtain rfl | ⟨c, rest, h⟩ := step_cases h
  · exact .inl s.tick_moves.2.1
  · exact exec_cause (s := s.withPending rest) h

end

/-- A command decided in a live part is answered with its result and record. -/
theorem State.answerFrame_of_live {s : State} (hs : s.live = true) (hf : s.sl.frame = .receiving)
    (act : State × List Byte) : s.answerFrame act = act.1.withSl { s.sl with frame := .decided act.2 } := by
  simp [State.answerFrame, hs, hf]

/-- Byte 6 of the summary record is the reset cause (R187). -/
theorem State.summary_cause (s : State) : s.summary[6]? = some s.lines.cause.code := rfl

/-- Settles O15: a source's part reset has its cause by `resetBegun`, a second source leaves it, and no other step changes
it (`step_cause`). -/
theorem theResetCauseIsTheSourceThatBeganTheReset : Obligations.TheResetCauseIsTheSourceThatBeganTheReset := by
  intro s
  refine ⟨fun h => ⟨fun f => ⟨_, rfl, (State.powerOn_begun h f).1, (State.powerOn_begun h f).2.1⟩,
    ⟨_, rfl, (State.nrstFalls_begun h).1, (State.nrstFalls_begun h).2.1⟩,
    fun hb => ⟨_, rfl, (State.brownOutRecovers_begun h hb).1, (State.brownOutRecovers_begun h hb).2.1⟩⟩,
    fun h => ⟨fun f => ?_, ?_, ?_⟩, fun t ht hn => ?_, fun hs hf => ?_⟩
  · refine ⟨_, rfl, ?_⟩
    rw [State.powerOn_lines, State.beginReset_of_inReset h]
    exact ⟨h, rfl⟩
  · exact ⟨_, congrArg Host.Outcome.next (State.nrstFalls_of_inReset h), h, rfl⟩
  · exact ⟨_, congrArg Host.Outcome.next (State.brownOutRecovers_of_inReset h), h, rfl⟩
  · exact (step_cause ht).resolve_left hn
  · refine ⟨_, s.summary, congrArg Host.Outcome.next (State.answerFrame_of_live hs hf _), rfl, ?_⟩
    rw [State.summary_cause]
    cases s.lines.cause <;> rfl

/-! ## The end of a part reset -/

theorem State.resetCanEnd_iff (s : State) :
    s.resetCanEnd = true ↔ s.lines.inReset = true ∧ s.lines.belowBrownOut = false ∧ s.fuse.op = none := by
  simp [State.resetCanEnd, and_assoc]

theorem Verifier.reset_quiet : Verifier.reset.quiet :=
  ⟨fun i => by revert i; decide, rfl, rfl, rfl, rfl, rfl⟩

section
variable {s : State} (fsz swl : BitVec 2) (low : Bool)

theorem exec_partResetEnd_waits (h : s.lines.belowBrownOut = true ∨ s.fuse.op.isSome = true) :
    exec (.partResetEnd fsz swl low) s = .next s := by
  have hn : s.resetCanEnd = false := by
    rcases h with h | h
    · simp [State.resetCanEnd, h]
    · simp [State.resetCanEnd, Option.isNone_eq_false_iff.2 h]
  exact congrArg Host.Outcome.next (by rw [hn]; rfl)

theorem exec_partResetEnd_ends (hr : s.lines.inReset = true) (hb : s.lines.belowBrownOut = false)
    (ho : s.fuse.op = none) : exec (.partResetEnd fsz swl low) s = .next (s.endReset fsz swl low) :=
  congrArg Host.Outcome.next (if_pos ((State.resetCanEnd_iff s).2 ⟨hr, hb, ho⟩))

theorem State.endReset_of_factory (h : s.fuse.lifecycle = .factory) :
    s.endReset fsz swl low = (s.volatileReset fsz swl low).enterTransparent := by
  unfold State.endReset
  simp only [show (s.volatileReset fsz swl low).fuse.lifecycle = .factory from h]

theorem State.endReset_of_deployed (h : s.fuse.lifecycle = .deployed) :
    s.endReset fsz swl low = (s.volatileReset fsz swl low).startSelecting := by
  unfold State.endReset
  simp only [show (s.volatileReset fsz swl low).fuse.lifecycle = .deployed from h]

end

/-- EL_DOUT is high after a part reset, whether the link is selected or not (R147). -/
theorem EngineLink.dout_reset (selected : Bool) {k : Nat} (hk : k < 8) :
    ({ EngineLink.reset with selected := selected } : EngineLink).dout k = true := by
  have h : ∀ k < 8, (0xFF#8).getMsbD k = true := by decide
  simp [EngineLink.dout, EngineLink.reset, h k hk]

/-- Settles O16: TRANSPARENT is entered on the blocks at their reset values, so each clause is read off
`State.volatileReset` and `State.enterTransparent`. -/
theorem aFactoryResetEndsInTransparent : Obligations.AFactoryResetEndsInTransparent := by
  intro s fsz swl low
  refine ⟨exec_partResetEnd_waits fsz swl low, fun hr hb ho hf => ?_⟩
  refine ⟨_, (exec_partResetEnd_ends fsz swl low hr hb ho).trans
    (congrArg Host.Outcome.next (State.endReset_of_factory fsz swl low hf)), ?_⟩
  refine ⟨rfl, rfl, rfl, rfl, rfl, rfl, rfl, rfl, rfl, rfl, rfl, rfl, rfl, rfl, rfl, rfl, rfl, rfl, rfl, rfl, rfl,
    Verifier.reset_quiet, rfl, rfl, rfl, rfl, rfl, rfl, rfl, rfl, rfl, rfl, rfl, ?_, rfl, ?_, rfl, rfl⟩
  · exact ServiceLink.dout_reset s.sl.selected
  · exact fun k hk => EngineLink.dout_reset s.el.selected hk

/-! ## SELECTING begun -/

theorem State.claimIntake_of_free {s : State} {i : Fin 8} (h : s.lowestFree = some i) (p : Purpose) (b : Bank)
    (chunk : Nat) : s.claimIntake p b chunk = (s.takeSlot i p (.piece b chunk) none false, some i) := by
  simp [State.claimIntake, h]

section
variable {s : State} (hv : s.verifier = Verifier.reset)
include hv

theorem State.slot_of_reset (i : Fin 8) : s.slot i = Slot.reset := by
  unfold State.slot
  rw [hv]
  revert i
  decide

theorem State.lowestFree_of_reset : s.lowestFree = some 0 := by
  simp [State.lowestFree, allSlots, State.slot_of_reset hv, Slot.inUse, Slot.reset]

theorem State.inUseCount_of_reset : s.inUseCount = 0 := by
  simp [State.inUseCount, State.slot_of_reset hv, Slot.inUse, Slot.reset]

/-- The claim of bank 0's manifest, the first of a part whose slots are all FREE, leaves slot 1 the lowest FREE one. -/
theorem State.lowestFree_of_first (p : Purpose) (c : Content) :
    (s.takeSlot 0 p c none false).lowestFree = some 1 := by
  simp [State.lowestFree, allSlots, State.takeSlot_slot, State.slot_of_reset hv, Slot.inUse, Slot.reset]

theorem State.inUseCount_of_first (p : Purpose) (c : Content) : (s.takeSlot 0 p c none false).inUseCount = 1 := by
  simp [State.inUseCount, allSlots, State.takeSlot_slot, State.slot_of_reset hv, Slot.inUse, Slot.reset]

/-- The two claims of SELECTING find slots 0 and 1 FREE. -/
theorem State.startSelecting_eq : s.startSelecting =
    ((s.takeSlot 0 .manifest (.piece .bank0 (manifestChunk s.lines.fsz)) none false).takeSlot 1 .manifest
      (.piece .bank1 (manifestChunk s.lines.fsz)) none false).withBoot
    { s.boot with root0 := .judging 0 .fill [], root1 := .judging 1 .fill [] } := by
  simp only [State.startSelecting, State.claimIntake_of_free (State.lowestFree_of_reset hv),
    State.claimIntake_of_free (State.lowestFree_of_first hv _ _), State.takeSlot_blocks]

/-- The slots after the two claims. -/
theorem State.startSelecting_slot (i : Fin 8) : s.startSelecting.slot i =
    if i = 0 then { Slot.reset with state := .filling, purpose := some .manifest, order := some 1,
                                    content := some (.piece .bank0 (manifestChunk s.lines.fsz)) }
    else if i = 1 then { Slot.reset with state := .filling, purpose := some .manifest, order := some 2,
                                         content := some (.piece .bank1 (manifestChunk s.lines.fsz)) }
    else Slot.reset := by
  rw [State.startSelecting_eq hv]
  show (State.takeSlot _ _ _ _ _ _).slot i = _
  simp only [State.takeSlot_slot, State.slot_of_reset hv, State.inUseCount_of_reset hv, State.inUseCount_of_first hv]
  fin_cases i <;> rfl

theorem State.startSelecting_wait : s.startSelecting.arbiter.slotWait =
    (s.arbiter.slotWait.set 0 (some .class3)).set 1 (some .class3) := by
  rw [State.startSelecting_eq hv]
  simp [State.takeSlot_wait]

end

/-- Settles O17: the end of the reset claims a slot for each root manifest in a Chunk Verifier at its reset values. -/
theorem aDeployedResetEndsInSelecting : Obligations.ADeployedResetEndsInSelecting := by
  intro s fsz swl low hr hb ho hd
  have hslot := State.startSelecting_slot (s := s.volatileReset fsz swl low) rfl
  have hwait := State.startSelecting_wait (s := s.volatileReset fsz swl low) rfl
  refine ⟨_, (exec_partResetEnd_ends fsz swl low hr hb ho).trans
    (congrArg Host.Outcome.next (State.endReset_of_deployed fsz swl low hd)), ?_⟩
  have hboot : (s.volatileReset fsz swl low).startSelecting.boot =
      { Boot.reset with root0 := .judging 0 .fill [], root1 := .judging 1 .fill [] } := by
    rw [State.startSelecting_eq rfl]
    rfl
  have hcond : (s.volatileReset fsz swl low).startSelecting.arbiter.cond0 = .settling ∧
      (s.volatileReset fsz swl low).startSelecting.arbiter.cond1 = .settling := by
    rw [State.startSelecting_eq rfl]
    exact ⟨rfl, rfl⟩
  simp only [State.startSelecting_blocks, hslot, hboot, hcond, hwait]
  refine ⟨rfl, rfl, rfl, rfl, rfl, rfl, rfl, rfl, rfl, rfl, rfl, rfl, rfl, rfl, rfl, rfl, rfl, rfl, rfl, rfl, rfl, ?_,
    rfl, rfl, trivial, trivial, rfl, rfl, rfl, rfl, rfl, rfl, rfl⟩
  intro i hi
  have h0 : i ≠ 0 := by rintro rfl; exact absurd hi (by decide)
  have h1 : i ≠ 1 := by rintro rfl; exact absurd hi (by decide)
  rw [if_neg h0, if_neg h1]
  rfl

/-! ## HALTED -/

/-- A response taken away is sent as 0x00 (R18). -/
theorem ServiceLink.silenced_sends {l : ServiceLink} {r : List Byte} (h : l.frame = .decided r) (n : Nat) :
    l.silenced.sends n = 0x00#8 := by
  simp [ServiceLink.silenced, ServiceLink.sends, h]

theorem State.supplyFalls_wipe (s : State) : ∃ st, s.supplyFalls.wipe = { s.wipe with state := st } := by
  unfold State.supplyFalls
  dsimp only
  split
  · exact ⟨_, rfl⟩
  · exact ⟨s.wipe.state, rfl⟩

theorem State.brownOutSeen_wipe (s : State) : ∃ st, s.brownOutSeen.wipe = { s.wipe with state := st } := by
  unfold State.brownOutSeen
  split
  · exact ⟨s.wipe.state, rfl⟩
  · exact s.supplyFalls_wipe

/-- Settles O18: HALTED is entered from the state in which SUPPLY_LOW has been set (`State.brownOutSeen`). -/
theorem brownOutEntersHalted : Obligations.BrownOutEntersHalted := by
  intro s hr hn
  have he : s.brownOutFalls = s.brownOutSeen.enterHalted := by
    rw [State.brownOutFalls_eq, State.brownOutSeen_live, if_pos ((State.live_iff s).2 ⟨hr, hn⟩)]
  obtain ⟨harb, hver, -, -, htim, hpg⟩ := s.brownOutSeen.enterHalted_atRest
  obtain ⟨st, hw⟩ := s.brownOutSeen_wipe
  refine ⟨_, congrArg Host.Outcome.next he, ?_⟩
  refine ⟨by simp, by simp, by simp [hr], by simp, by simp, hpg, by simp [Gate.halted], fun h => by simp [Gate.halted, h],
    fun h => by simp [Gate.halted, h], htim, harb, hver, rfl, by simp, by simp, by simp, by simp, by simp, by simp [hw],
    by simp [hw], by simp [hw], fun r hf n => ?_, by simp, by simp⟩
  rw [State.enterHalted_sl]
  exact ServiceLink.silenced_sends (by simpa using hf) n

/-! ## The laws at reset -/

/-- Settles O5: each law, evaluated at `State.reset`. -/
theorem everyLawHoldsAtReset : Obligations.EveryLawHoldsAtReset := by
  have hslot : ∀ i, State.reset.slot i = Slot.reset := by decide
  refine ⟨⟨rfl, fun i => by rw [hslot]; rfl⟩, fun h => absurd h.1 (by decide), ?_, ?_, ?_, ?_, trivial, ?_⟩
  · intro h; cases h
  · exact ⟨fun _ => ⟨rfl, .inr rfl⟩, fun _ => rfl⟩
  · exact ⟨nofun, by decide, fun _ => .inl rfl⟩
  · exact fun h => absurd rfl h
  · exact ⟨fun i j r c h _ => (by rw [hslot] at h; cases h), fun i _ => by rw [hslot]; rfl, nofun⟩

end Sys2Proof.Machine
end

section
/-! The gate latched, NO_BANK entered, and the choice of the bank to walk (R9 to R17, R160). -/

namespace Sys2Proof.Machine

/-! ## The gate latched (R160) -/

/-- A DEMOTE on the work list stays there, or is what the programmer takes. -/
theorem takesWork_demote {t : Tables} {active : Option Bank} {g : Fuse} {work : List FuseItem} {f : Fuse}
    (h : takesWork t active g work f) (hd : FuseItem.demote ∈ work) :
    FuseItem.demote ∈ g.work ∨ g.op = some (.demote active) := by
  induction work generalizing f with
  | nil => cases hd
  | cons item rest ih =>
    have hrest : item ≠ .demote → FuseItem.demote ∈ rest := fun hn => (List.mem_cons.1 hd).resolve_left (Ne.symm hn)
    cases item with
    | demote => exact .inr (congrArg Fuse.op h)
    | undemote => exact .inl (congrArg Fuse.work h ▸ hrest nofun)
    | commit =>
      obtain ⟨todo, -, hnil, hcons⟩ := h
      by_cases ht : todo = []
      · exact ih (hnil ht) (hrest nofun)
      · exact .inl (congrArg Fuse.work (hcons ht) ▸ hrest nofun)

theorem State.fuseResume_demote {s : State} (hd : FuseItem.demote ∈ s.fuse.work) :
    FuseItem.demote ∈ s.fuseResume.fuse.work ∨ s.fuseResume.fuse.op = some (.demote s.boot.active) := by
  obtain ⟨-, htakes, hstays⟩ := s.fuseResume_spec
  cases hr : s.fuseReady
  · exact .inl (by rwa [hstays hr])
  · exact takesWork_demote (htakes hr) hd

theorem Fuse.mem_raise (f : Fuse) (item : FuseItem) : item ∈ (f.raise item).work := by
  unfold Fuse.raise
  split
  · rename_i h
    simpa using h
  · simp

theorem State.stopPatrol_scan {s : State} (h : s.scan.pass ≠ .patrol) : s.stopPatrol = s := by
  simp [State.stopPatrol, h]

/-- The gate LATCHED, the timer stopped and a DEMOTE on the work list, before the Scanner and the programmer follow. -/
def State.latching (s : State) (cause : GateCause) : State :=
  ((s.withGate { state := .latched, cause := some cause, pgate := false, count := 0, fresh := false }).stopTimer).withFuse
    (s.fuse.raise .demote)

theorem State.latchGate_of_not_latched {s : State} (h : s.gate.state ≠ .latched) (cause : GateCause) :
    s.latchGate cause = (s.latching cause).stopPatrol.fuseResume := by
  simp only [State.latchGate, if_neg h]
  rfl

/-- What latching a gate leaves to be said of the gate, the timer, the Scanner and the programmer; the other blocks stay. -/
theorem State.latchGate_spec {s : State} (h : s.gate.state ≠ .latched) (cause : GateCause) :
    (s.latchGate cause).gate = { state := .latched, cause := some cause, pgate := false, count := 0, fresh := false } ∧
    (s.latchGate cause).timer = { s.timer with running := false } ∧
    (FuseItem.demote ∈ (s.latchGate cause).fuse.work ∨
      (s.latchGate cause).fuse.op = some (.demote s.boot.active)) ∧
    (s.scan.pass ≠ .patrol → (s.latchGate cause).scan = s.scan) := by
  have hd : FuseItem.demote ∈ (s.latching cause).stopPatrol.fuse.work := by
    simp only [State.stopPatrol_blocks]
    exact s.fuse.mem_raise _
  rw [State.latchGate_of_not_latched h]
  refine ⟨by simp [State.latching], by simp [State.latching, State.stopTimer], ?_, fun hp => ?_⟩
  · simpa [State.latching] using State.fuseResume_demote hd
  · have hu : (s.latching cause).stopPatrol = s.latching cause := State.stopPatrol_scan hp
    rw [hu]
    simp [State.latching]

/-! ## NO_BANK (R17) -/

theorem State.enterNoBank_entered (s : State) : noBankEntered s s.enterNoBank := by
  have hboot : s.enterNoBank.boot = { s.boot with
      state := .noBank, active := none, current := none, reserve := none, params := Params.reset,
      root0 := .notJudged, root1 := .notJudged } := by simp [State.enterNoBank, State.stopTimer]
  have hwork : s.enterNoBank.alerts = { s.alerts with noBank := true } ∧
      s.enterNoBank.timer = { s.timer with running := false } ∧ s.enterNoBank.tables = Tables.reset ∧
      s.enterNoBank.walk = s.walk.cleared ∧ s.enterNoBank.scan = Scan.reset := by
    simp [State.enterNoBank, State.stopTimer, State.clearBank]
  have harb : s.enterNoBank.arbiter = s.arbiter.abandonBursts := by simp [State.enterNoBank, State.stopTimer]
  obtain ⟨halerts, htimer, htables, hwalk, hscan⟩ := hwork
  simp only [noBankEntered, hboot, halerts, htimer, htables, hwalk, hscan, harb, State.enterNoBank_blocks,
    true_and, and_true]
  refine ⟨rfl, rfl, rfl, rfl, rfl, rfl, rfl, Verifier.abandon_none_quiet _, rfl, rfl, fun i => ?_⟩
  simp [Arbiter.abandonBursts]

theorem State.timerFor_of_running {s : State} {p : TimerPurpose} (hs : s.live = true) (hr : s.timer.running = true)
    (hp : s.timer.purpose = p) : s.timerFor p = true := by simp [State.timerFor, hs, hr, hp]

/-- Settles O21: the intake deadline's expiry is `State.enterNoBank`, the boot deadline's `State.latchGate`. -/
theorem aDeadlineExpiryActsByItsPurpose : Obligations.ADeadlineExpiryActsByItsPurpose := by
  intro s hs hr
  refine ⟨fun hp hb => ?_, fun hp => ⟨fun hg => ?_, fun hg => ?_⟩⟩
  · have hi : s.boot.state.intake = true := by rcases hb with hb | hb | hb <;> rw [hb] <;> rfl
    have he : s.intakeExpires = s.timerWraps.enterNoBank := by
      simp [State.intakeExpires, State.timerFor_of_running hs hr hp, hi]
    refine ⟨_, congrArg Host.Outcome.next he, ?_, s.timerWraps.enterNoBank_entered⟩
    obtain ⟨-, -, -, -, -, halerts, -⟩ := s.timerWraps.enterNoBank_entered
    simp [State.alert, halerts, ((State.live_iff s).1 hs).1]
  · have he : s.bootExpires = (s.timerWraps.withAlerts { s.alerts with late := true }).latchGate .late := by
      simp [State.bootExpires, State.timerFor_of_running hs hr hp, hg]
    obtain ⟨hgate, htimer, hdemote, hscan⟩ :=
      State.latchGate_spec (s := s.timerWraps.withAlerts { s.alerts with late := true }) (by simp [hg]) .late
    refine ⟨_, congrArg Host.Outcome.next he, ?_, by rw [hgate], by rw [hgate], by rw [hgate], by rw [htimer],
      by simpa using hdemote, by simpa using hscan⟩
    apply State.ext_blocks <;> simp
  · exact congrArg Host.Outcome.next (by
      simp [State.bootExpires, State.timerFor_of_running hs hr hp, hg, State.timerWraps])

/-! ## The candidates (R9, R10) -/

/-- A bank's entry of the candidate list, in the terms of the manifest's bytes. -/
def State.candidate (s : State) (k : Bank) (i : Fin 8) (d : List Byte) : Candidate :=
  { bank := k, sequence := leNat (Memory.bytes bufferDefault (s.slot i).buffer 8 4), keyDigest := d,
    demoted := decide (s.fuse.demoted = some k), slot := i }

section
variable {s : State}

theorem State.candidateOf_candidate {k : Bank} {i : Fin 8} {d : List Byte} (h : s.boot.root k = .candidate i d) :
    s.candidateOf k = some (s.candidate k i d) := by
  simp only [State.candidateOf, h]
  rfl

theorem State.candidateOf_rejected {k : Bank} (h : s.boot.root k = .rejected) : s.candidateOf k = none := by
  simp only [State.candidateOf, h]

/-- A bank that is not demoted comes first, then the higher sequence number, then bank 0 (R9). -/
theorem State.before_iff {i i' : Fin 8} {d d' : List Byte} :
    (s.candidate .bank1 i' d').before (s.candidate .bank0 i d) = true ↔
      s.fuse.demoted = some .bank0 ∨
        (s.fuse.demoted = none ∧ (s.candidate .bank0 i d).sequence < (s.candidate .bank1 i' d').sequence) := by
  unfold Candidate.before
  cases hd : s.fuse.demoted with
  | none => simp [State.candidate, hd]
  | some b => cases b <;> simp [State.candidate, hd]

/-! ## The end of SELECTING (R10, R11) -/

/-- A candidate's walk is begun with the candidate list recorded. -/
theorem State.startWalk_eq (s : State) (list : List Candidate) (position : Nat) (c : Candidate)
    (reserve : Option (Fin 8)) :
    (s.withBoot { s.boot with candidates := list }).startWalk position c reserve = s.walkBegun list position c reserve :=
  rfl

theorem State.endSelecting_of_not {s : State}
    (h : s.boot.state ≠ .selecting ∨ s.boot.root0.judged = false ∨ s.boot.root1.judged = false) :
    s.endSelecting = s := by
  unfold State.endSelecting
  rw [if_neg]
  rcases h with h | h | h <;> simp [h]

section
variable (hb : s.boot.state = .selecting) (h0 : s.boot.root0.judged = true) (h1 : s.boot.root1.judged = true)
include hb h0 h1

/-- Both banks are judged, and neither is a candidate (R10, R17). -/
theorem State.endSelecting_none (ho : s.orderCandidates = []) :
    noBankEntered s s.endSelecting ∧ s.endSelecting.boot.candidates = [] := by
  have he : s.endSelecting = (s.withBoot { s.boot with candidates := [] }).enterNoBank := by
    simp [State.endSelecting, hb, h0, h1, ho]
  rw [he]
  exact ⟨State.enterNoBank_entered (s.withBoot { s.boot with candidates := [] }), rfl⟩

/-- Both banks are judged: the first candidate is walked, and the second one's slot is the reserve root slot (R10, R11). -/
theorem State.endSelecting_some {c : Candidate} {rest : List Candidate} (ho : s.orderCandidates = c :: rest) :
    s.endSelecting = (s.walkBegun (c :: rest) 0 c (rest.head?.map Candidate.slot)).walkOnAll := by
  rw [← State.startWalk_eq]
  simp [State.endSelecting, hb, h0, h1, ho]

end

end

/-! ## The fallback (R13) -/

section
variable {s : State}

theorem State.fallback_of_next {n : Nat} {c : Candidate} (hn : s.boot.current = some n)
    (hc : s.boot.candidates[n + 1]? = some c) :
    s.fallback = s.abandonBank.walkBegun s.boot.candidates (n + 1) c none := by
  simp only [State.fallback, State.nextCandidate, hn, hc]
  rfl

theorem State.fallback_of_last {n : Nat} (hn : s.boot.current = some n) (hc : s.boot.candidates[n + 1]? = none) :
    s.fallback = s.abandonBank.enterNoBank := by
  simp only [State.fallback, State.nextCandidate, hn, hc]
  rfl

theorem State.abandonBank_slot (i : Fin 8) : s.abandonBank.slot i =
    if s.boot.reserve = some i then { s.slot i with order := some 1 } else (s.slot i).abandoned :=
  s.clearBank.abandonSlots_slot s.boot.reserve i

end

/-- Settles O43: the order of `Candidate.before`, the list it makes, and the state in which `State.fallback` leaves the next
candidate (`State.abandonBank`). -/
theorem selectionAndFallbackStartAWalk : Obligations.SelectionAndFallbackStartAWalk := by
  intro s
  refine ⟨fun h => State.endSelecting_of_not ?_, fun hb => ⟨fun h0 h1 => ?_, fun i d h0 h1 => ?_, fun i d h0 h1 => ?_,
    fun i d i' d' h0 h1 => ?_⟩, fun n hn => ⟨fun c hc => ⟨s.abandonBank, State.fallback_of_next hn hc, rfl, fun i => ?_, rfl,
      rfl, rfl, rfl, rfl, rfl, rfl, fun i => ?_, fun u hu => ?_⟩, fun hc => ?_⟩⟩
  · rcases h with h | h | h | ⟨i, st, d, h | h⟩
    · exact .inl h
    all_goals simp [h, RootJudgement.judged]
  · have ho : s.orderCandidates = [] := by
      simp only [State.orderCandidates, State.candidateOf_rejected (k := .bank0) h0,
        State.candidateOf_rejected (k := .bank1) h1]
    exact State.endSelecting_none hb (by rw [h0]; rfl) (by rw [h1]; rfl) ho
  · have ho : s.orderCandidates = [s.candidate .bank0 i d] := by
      simp only [State.orderCandidates, State.candidateOf_candidate (k := .bank0) h0,
        State.candidateOf_rejected (k := .bank1) h1]
    exact State.endSelecting_some hb (by rw [h0]; rfl) (by rw [h1]; rfl) ho
  · have ho : s.orderCandidates = [s.candidate .bank1 i d] := by
      simp only [State.orderCandidates, State.candidateOf_rejected (k := .bank0) h0,
        State.candidateOf_candidate (k := .bank1) h1]
    exact State.endSelecting_some hb (by rw [h0]; rfl) (by rw [h1]; rfl) ho
  · have hj0 : s.boot.root0.judged = true := by rw [h0]; rfl
    have hj1 : s.boot.root1.judged = true := by rw [h1]; rfl
    have ho : s.orderCandidates = if (s.candidate .bank1 i' d').before (s.candidate .bank0 i d) then
        [s.candidate .bank1 i' d', s.candidate .bank0 i d] else [s.candidate .bank0 i d, s.candidate .bank1 i' d'] := by
      simp only [State.orderCandidates, State.candidateOf_candidate (k := .bank0) h0,
        State.candidateOf_candidate (k := .bank1) h1]
    refine ⟨fun h => ?_, fun h => ?_⟩
    · exact State.endSelecting_some hb hj0 hj1 (ho.trans (if_pos (State.before_iff.2 h)))
    · refine State.endSelecting_some hb hj0 hj1 (ho.trans (if_neg fun hbef => ?_))
      rcases State.before_iff.1 hbef with e | ⟨e, hlt⟩ <;> rcases h with h | ⟨h, hle⟩ <;> rw [e] at h
      · cases h
      · cases h
      · cases h
      · exact absurd hlt (Nat.not_lt.2 hle)
  · rw [State.abandonBank_slot]
    rfl
  · simp [State.abandonBank, Arbiter.abandonBursts]
  · simp [State.abandonBank, Arbiter.abandonBursts, hu, Access.stopBurst]
  · rw [State.fallback_of_last hn hc]
    have hfault : s.abandonBank.walk.lastFault = s.walk.lastFault := rfl
    simpa only [noBankEntered, State.abandonBank_blocks, hfault] using s.abandonBank.enterNoBank_entered

end Sys2Proof.Machine
end

section
/-! The passes over a manifest under judgement: the key pass and the signature check (R7, R8, R32, R35, R81, R82). -/

namespace Sys2Proof.Machine

/-! ## A slot given back after its pass -/

/-- The slot given back is told apart by its buffer and its claim order alone. -/
theorem State.slotFreed_of_same {s u t : State} {i : Fin 8} (h : u.slotFreed t i)
    (hb : (u.slot i).buffer = (s.slot i).buffer) (ho : (u.slot i).order = (s.slot i).order)
    (hj : ∀ j, j ≠ i → u.slot j = s.slot j) (ha : u.arbiter = s.arbiter) : s.slotFreed t i := by
  obtain ⟨hi, hrest, harb⟩ := h
  refine ⟨by rw [hi, hb], fun j hn => ?_, by rw [harb, ha]⟩
  rw [hrest j hn, hj j hn, ho]

/-- The manifest's slot is given back with no claim made, as no demand is pending and no pass runs: what is left of `u` after a
release is `u` but for its Chunk Verifier and its arbiter. -/
theorem State.releaseSlot_freed {s u : State} {i : Fin 8} (hp : u.verifier.pendingDemand = none)
    (hs : u.scan.pass = .none) (hb : (u.slot i).buffer = (s.slot i).buffer)
    (ho : (u.slot i).order = (s.slot i).order) (hj : ∀ j, j ≠ i → u.slot j = s.slot j) (ha : u.arbiter = s.arbiter) :
    s.slotFreed (u.releaseSlot i) i ∧ (u.releaseSlot i).verifier.work = u.verifier.work ∧
    u.releaseSlot i = (u.withVerifier (u.releaseSlot i).verifier).withArbiter (u.releaseSlot i).arbiter := by
  rw [State.releaseSlot_quiet hp hs]
  obtain ⟨hfreed, heq, hwork, -⟩ := u.freeSlot_spec i
  exact ⟨State.slotFreed_of_same hfreed hb ho hj ha, hwork, heq⟩

/-! ## A pass begun at once -/

/-- With the engine idle and nothing queued, a slot that is queued is hashed in the same event (R76, R77). -/
theorem State.enqueue_idle {u : State} (he : u.verifier.engine = none) (hq : u.verifier.hashQueue = []) (i : Fin 8) :
    u.enqueue i = u.withVerifier { u.verifier with
      slots := u.verifier.slots.set i { u.slot i with state := .hashing }, engine := some i } := by
  simp [State.enqueue, State.engineNext, State.setSlot, State.slot, he, hq]

/-- The slot's record after it. -/
theorem State.enqueue_idle_slot {u : State} (he : u.verifier.engine = none) (hq : u.verifier.hashQueue = [])
    (i j : Fin 8) : (u.enqueue i).slot j = if i = j then { u.slot i with state := .hashing } else u.slot j := by
  rw [State.enqueue_idle he hq]
  exact vector_set_get _ _ _ _

/-- A pass over slot `i` is under way, in `t`, and every other slot is as it was in `s`. -/
def spanBegun (s t : State) (i : Fin 8) : Prop :=
  (t.slot i).state = .hashing ∧ t.verifier.engine = some i ∧ (t.slot i).buffer = (s.slot i).buffer ∧
  ∀ j : Fin 8, j ≠ i → t.slot j = s.slot j

/-! ## The key pass -/

theorem Fuse.keyActive_iff (f : Fuse) (digest : List Byte) :
    f.keyActive digest = true ↔ ∃ n : Fin 4, f.keys[n].state = .active ∧ f.keys[n].digest = digest := by
  simp only [Fuse.keyActive, List.any_eq_true, Bool.and_eq_true, decide_eq_true_eq, Vector.mem_toList_iff]
  constructor
  · rintro ⟨k, hk, hs, hd⟩
    obtain ⟨n, hn, rfl⟩ := Vector.getElem_of_mem hk
    exact ⟨⟨n, hn⟩, hs, hd⟩
  · rintro ⟨n, hs, hd⟩
    exact ⟨_, Vector.getElem_mem n.isLt, hs, hd⟩

section
variable {s : State} {i : Fin 8}

/-- What the walker asks for once a pass is over: the next pass over the same slot begins in the same event. -/
theorem State.nextPass_begun (hq : s.verifier.hashQueue = []) {u : State} (hu : u.verifier = (s.passDone i).verifier) :
    spanBegun s ((u.enqueue i).engineNext) i ∧
    (u.enqueue i).engineNext = u.withVerifier ((u.enqueue i).engineNext).verifier := by
  have heng : u.verifier.engine = none := by rw [hu]; rfl
  have hque : u.verifier.hashQueue = [] := by rw [hu]; exact hq
  have hnext : (u.enqueue i).engineNext = u.enqueue i := by
    apply State.engineNext_of_empty
    rw [State.enqueue_idle heng hque]
    exact hque
  have hslot : ∀ j, (u.enqueue i).slot j =
      if i = j then { s.slot i with state := .hashing } else s.slot j := by
    intro j
    rw [State.enqueue_idle_slot heng hque]
    simp only [State.slot_eq hu, State.passDone_slot, if_true]
    split <;> rfl
  rw [hnext]
  refine ⟨⟨by rw [hslot, if_pos rfl], by rw [State.enqueue_idle heng hque]; rfl, by rw [hslot, if_pos rfl],
    fun j hj => by rw [hslot, if_neg (Ne.symm hj)]⟩, ?_⟩
  rw [State.enqueue_idle heng hque]
  rfl

/-- What is left of a slot whose pass is over and which is given back. -/
theorem State.passDone_freed (hp : s.verifier.pendingDemand = none) (hs : s.scan.pass = .none)
    (hq : s.verifier.hashQueue = []) {u : State} (hu : u.verifier = (s.passDone i).verifier) (ha : u.arbiter = s.arbiter)
    (hc : u.scan = s.scan) :
    s.slotFreed (u.releaseSlot i) i ∧ (u.releaseSlot i).verifier.engine = none ∧
    (u.releaseSlot i).verifier.hashQueue = [] ∧
    u.releaseSlot i = (u.withVerifier (u.releaseSlot i).verifier).withArbiter (u.releaseSlot i).arbiter := by
  have hslot : ∀ j, u.slot j = if i = j then { s.slot i with state := .held } else s.slot j := fun j => by
    rw [State.slot_eq hu, State.passDone_slot]
  obtain ⟨hfreed, hwork, heq⟩ := State.releaseSlot_freed (s := s) (u := u) (i := i) (by rw [hu]; exact hp)
    (by rw [hc]; exact hs) (by rw [hslot, if_pos rfl]) (by rw [hslot, if_pos rfl])
    (fun j hj => by rw [hslot, if_neg (Ne.symm hj)]) ha
  rw [hu] at hwork
  exact ⟨hfreed, congrArg (·.2.1) hwork, (congrArg (·.1) hwork).trans hq, heq⟩

end

section
variable {s : State} {i : Fin 8} (he : s.verifier.engine = some i)
include he

theorem State.hashed_of_engine : s.hashed = some (i, s.slot i) := by simp [State.hashed, he]

theorem State.keyHashed_root {k : Bank} {d : List Byte} (h : s.boot.root k = .judging i .key d)
    (hn : ∀ st d', s.boot.root k.other ≠ .judging i st d') :
    s.keyHashed = ((s.passDone i).rootKeyed k i (sha256 (manifestKey (s.slot i).buffer))).engineNext := by
  simp only [State.keyHashed, State.hashed_of_engine he, State.rootAt_of_judging h hn]

theorem State.keyHashed_delegate {j : DelegateJob} (hj : s.walk.job = .delegate j) (hi : j.slot = i)
    (ha : j.at_ = .key) (hn : ∀ k st d, s.boot.root k ≠ .judging i st d) :
    s.keyHashed = ((s.passDone i).delegateKeyed j (sha256 (manifestKey (s.slot i).buffer))).engineNext := by
  simp only [State.keyHashed, State.hashed_of_engine he, State.rootAt_eq_none hn, State.delegateAt_of_job hj hi, ha,
    if_true]

end

theorem State.rejectDelegate_eq {s : State} {j : DelegateJob} {f : Frame} {rest : List Frame}
    (hst : s.walk.stack = f :: rest) : s.rejectDelegate j =
      (s.releaseSlot j.slot).withWalk (s.walk.rejected f rest (j.mask.boot || j.mask.print) .delegateBad) := by
  have h : (s.releaseSlot j.slot).walk.stack = f :: rest := by simpa using hst
  unfold State.rejectDelegate
  rw [State.reject_eq h]
  simp [ClassMask.fatal]

/-- Settles O40: a key that is known begins the next pass over the slot at once (`State.nextPass_begun`), any other gives the
slot back (`State.passDone_freed`) and rejects the manifest. -/
theorem theKeyPassJudgesTheKey : Obligations.TheKeyPassJudgesTheKey := by
  intro s i he hq
  refine ⟨fun k d hk hn => ⟨fun hkey => ?_, fun hkey hp hs => ?_⟩,
    fun j f rest hj hi ha hst hn => ⟨fun hd => ?_, fun hd hp hs => ?_⟩⟩
  · obtain ⟨hbegun, heq⟩ := State.nextPass_begun (s := s) (i := i) hq
      (u := (s.passDone i).setRoot k (.judging i .span (sha256 (manifestKey (s.slot i).buffer)))) rfl
    refine ⟨_, congrArg Host.Outcome.next ((State.keyHashed_root he hk hn).trans ?_), hbegun, heq⟩
    have hact : (s.passDone i).fuse.keyActive (sha256 (manifestKey (s.slot i).buffer)) = true :=
      (Fuse.keyActive_iff _ _).2 hkey
    rw [State.rootKeyed, if_pos hact]
    rfl
  · obtain ⟨hfreed, heng, hque, heq⟩ := State.passDone_freed (i := i) hp hs hq
      (u := (s.passDone i).setRoot k .rejected) rfl rfl rfl
    refine ⟨_, congrArg Host.Outcome.next ((State.keyHashed_root he hk hn).trans ?_), hfreed, heng, heq⟩
    rw [State.rootKeyed, if_neg fun hact => ?_]
    · exact State.engineNext_endSelecting hque
    · obtain ⟨n, hs, hd⟩ := (Fuse.keyActive_iff _ _).1 hact
      exact hkey n hs hd
  · subst hi
    obtain ⟨hbegun, heq⟩ := State.nextPass_begun (s := s) (i := j.slot) hq
      (u := (s.passDone j.slot).setDelegate { j with at_ := .span }) rfl
    refine ⟨_, congrArg Host.Outcome.next ((State.keyHashed_delegate he hj rfl ha hn).trans ?_), hbegun, heq⟩
    have hdigest : sha256 (manifestKey (s.slot j.slot).buffer) = j.keyDigest := hd
    rw [State.delegateKeyed, if_pos hdigest]
  · subst hi
    obtain ⟨hfreed, heng, hque, heq⟩ := State.passDone_freed (i := j.slot) hp hs hq (u := s.passDone j.slot) rfl rfl rfl
    have hother : ¬ sha256 (manifestKey (s.slot j.slot).buffer) = j.keyDigest := hd
    have hrej := State.rejectDelegate_eq (s := s.passDone j.slot) (j := j) (f := f) (rest := rest) hst
    refine ⟨(s.passDone j.slot).rejectDelegate j,
      congrArg Host.Outcome.next ((State.keyHashed_delegate he hj rfl ha hn).trans ?_), ?_⟩
    · rw [State.delegateKeyed, if_neg hother]
      exact State.engineNext_walkOnAll (by rw [hrej]; exact hque)
    · rw [hrej]
      refine ⟨hfreed, heng, ?_⟩
      rw [heq]
      rfl

/-! ## The signature check -/

section
variable {s : State} {i : Fin 8} {h : List Byte} (hc : s.verifier.checking = some { slot := i, spanHash := h })
include hc

theorem State.checkEnds_eq : s.checkEnds = (s.withVerifier s.verifier.nextCheck).checked { slot := i, spanHash := h }
    (s.checkPasses { slot := i, spanHash := h }) := by
  simp only [State.checkEnds, hc]

theorem State.checkEnds_root {k : Bank} {d : List Byte} (hk : s.boot.root k = .judging i .check d)
    (hn : ∀ st d', s.boot.root k.other ≠ .judging i st d') :
    s.checkEnds = if s.checkPasses { slot := i, spanHash := h } then
      ((s.withVerifier s.verifier.nextCheck).setRoot k (.candidate i d)).endSelecting
    else (s.withVerifier s.verifier.nextCheck).rejectRoot k i := by
  have hr : (s.withVerifier s.verifier.nextCheck).rootAt i = some (k, .check, d) := State.rootAt_of_judging hk hn
  rw [State.checkEnds_eq hc]
  simp only [State.checked, hr]

theorem State.checkEnds_delegate {j : DelegateJob} (hj : s.walk.job = .delegate j) (hi : j.slot = i)
    (ha : j.at_ = .check) (hn : ∀ k st d, s.boot.root k ≠ .judging i st d) :
    s.checkEnds = if s.checkPasses { slot := i, spanHash := h } then
      ((s.withVerifier s.verifier.nextCheck).acceptDelegate j).walkOnAll
    else (s.withVerifier s.verifier.nextCheck).dropDelegate j := by
  have hr : (s.withVerifier s.verifier.nextCheck).rootAt i = none := State.rootAt_eq_none hn
  have hd : (s.withVerifier s.verifier.nextCheck).delegateAt i = some j := State.delegateAt_of_job hj hi
  rw [State.checkEnds_eq hc]
  simp only [State.checked, hr, hd, ha, if_true]

end

/-- What is left of a slot whose check has failed and which is given back. -/
theorem State.nextCheck_freed {s u : State} {i : Fin 8} (hp : s.verifier.pendingDemand = none)
    (hs : s.scan.pass = .none) (hu : u.verifier = s.verifier.nextCheck) (ha : u.arbiter = s.arbiter)
    (hc : u.scan = s.scan) :
    s.slotFreed (u.releaseSlot i) i ∧ (u.releaseSlot i).verifier.checking = s.verifier.checkWaiting ∧
    (u.releaseSlot i).verifier.checkWaiting = none ∧
    u.releaseSlot i = (u.withVerifier (u.releaseSlot i).verifier).withArbiter (u.releaseSlot i).arbiter := by
  have hslot : ∀ j, u.slot j = s.slot j := fun j => by simp only [State.slot, hu, Verifier.nextCheck]
  obtain ⟨hfreed, hwork, heq⟩ := State.releaseSlot_freed (s := s) (u := u) (i := i) (by rw [hu]; exact hp)
    (by rw [hc]; exact hs) (by rw [hslot]) (by rw [hslot]) (fun j _ => hslot j) ha
  rw [hu] at hwork
  exact ⟨hfreed, congrArg (·.2.2.1) hwork, congrArg (·.2.2.2) hwork, heq⟩

/-- A delegation whose check passes, with the depth of its signer's key record. -/
theorem State.acceptDelegate_eq {s : State} {j : DelegateJob} {f : Frame} {rest : List Frame} {key : KeyRecord}
    (hst : s.walk.stack = f :: rest) (hkey : s.walk.keys[f.signer]? = some key) :
    s.acceptDelegate j = s.withWalk { s.walk with
      keys := s.walk.keys ++ [{ digest := j.keyDigest, parent := some f.signer, depth := key.depth + 1,
                                entry := some f.next }]
      stack := { slot := j.slot, signer := s.walk.keys.length, next := 0, base := j.base, count := j.count,
                 mask := j.mask } :: { f with next := f.next + 1 } :: rest
      job := .none } := by
  simp only [State.acceptDelegate, hst, hkey]
  rfl

/-- Settles O42: a check that passes records the candidate or accepts the delegation (`State.acceptDelegate_eq`), one that
fails gives the slot back (`State.nextCheck_freed`) and rejects the manifest. -/
theorem theSignatureCheckDecidesTheManifest : Obligations.TheSignatureCheckDecidesTheManifest := by
  intro s i h hc
  refine ⟨fun k d hk hn => ⟨fun hpass => ?_, fun hfail hp hs => ?_⟩,
    fun j f rest key hj hi ha hst hkey hn => ⟨fun hpass => ?_, fun hfail hp hs => ?_⟩⟩
  · have hpasses : s.checkPasses { slot := i, spanHash := h } = true := hpass
    exact congrArg Host.Outcome.next ((State.checkEnds_root hc hk hn).trans (if_pos hpasses))
  · have hfails : ¬ s.checkPasses { slot := i, spanHash := h } = true := Bool.eq_false_iff.1 hfail
    obtain ⟨hfreed, hchk, hwait, heq⟩ := State.nextCheck_freed (i := i) hp hs
      (u := (s.withVerifier s.verifier.nextCheck).setRoot k .rejected) rfl rfl rfl
    exact ⟨_, congrArg Host.Outcome.next ((State.checkEnds_root hc hk hn).trans (if_neg hfails)), hfreed, hchk, hwait, heq⟩
  · subst hi
    have hpasses : s.checkPasses { slot := j.slot, spanHash := h } = true := hpass
    refine congrArg Host.Outcome.next ((State.checkEnds_delegate hc hj rfl ha hn).trans ?_)
    rw [if_pos hpasses, State.acceptDelegate_eq (s := s.withVerifier s.verifier.nextCheck) (f := f) (rest := rest) hst hkey]
    rfl
  · subst hi
    have hfails : ¬ s.checkPasses { slot := j.slot, spanHash := h } = true := Bool.eq_false_iff.1 hfail
    obtain ⟨hfreed, hchk, hwait, heq⟩ := State.nextCheck_freed (i := j.slot) hp hs
      (u := s.withVerifier s.verifier.nextCheck) rfl rfl rfl
    refine ⟨(s.withVerifier s.verifier.nextCheck).rejectDelegate j,
      congrArg Host.Outcome.next ((State.checkEnds_delegate hc hj rfl ha hn).trans (if_neg hfails)), ?_⟩
    rw [State.rejectDelegate_eq (s := s.withVerifier s.verifier.nextCheck) (f := f) (rest := rest) hst]
    refine ⟨hfreed, hchk, hwait, ?_⟩
    rw [heq]
    rfl

end Sys2Proof.Machine
end

section
/-! A verdict in PREVERIFY (R12, R13, R15, R53): the tables it leaves, and RELEASED or the fallback that it brings. -/

namespace Sys2Proof.Machine

/-! ## Verdicts on an UNCHECKED chunk -/

section
variable {t : Tables} {g : ImageRegion} {k : ChunkRecord} {e digest : List Byte} {record : Nat} (i : Nat)
  (hk : t.chunks[record]? = some k) (he : k.expected = some e) (hu : k.state = .unchecked)
include hk he hu

theorem Tables.verdict_match (hd : digest = e) : t.verdict i g record digest =
    ((t.setChunkState record .good).setImage i g.afterGood, false, regionChange i g g.afterGood) := by
  simp only [Tables.verdict, hk, he, hu, if_pos hd]

theorem Tables.verdict_mismatch (hd : digest ≠ e) : t.verdict i g record digest =
    ({ regions := t.regions.set i (.image { g with bad := g.bad + 1, state := .failed })
       chunks := t.chunks.set record { k with state := .bad } }, true, regionChange i g (g.afterBad false)) := by
  simp only [Tables.verdict, hk, he, hu, if_neg hd, Tables.setChunkState]
  rfl

end

/-! ## The Boot Controller's reaction in PREVERIFY -/

section
variable {s : State} (hb : s.boot.state = .preverify)
include hb

theorem State.regionChanged_complete {g : ImageRegion} (hg : g.state = .complete) :
    s.regionChanged g = if s.tables.bootComplete then s.enterReleased else s := by
  simp only [State.regionChanged, hb, hg]

theorem State.regionChanged_failed {g : ImageRegion} (hg : g.state = .failed) :
    s.regionChanged g = if g.cls = .boot then s.fallbackAndWalk else s := by
  simp only [State.regionChanged, hb, hg]

end

/-- A BAD verdict ends no read where none is held. -/
theorem State.endHeldOnBad_of_not_held {s : State} (h : ∀ r, s.port ≠ .held r) (record : Nat) :
    s.endHeldOnBad record = s := by
  unfold State.endHeldOnBad
  split
  · exact absurd ‹_› (h _)
  all_goals rfl

/-! ## RELEASED entered (R15) -/

/-- RELEASED entered, before the gate is judged. -/
def State.releasing (s : State) : State :=
  let u := ((s.withBoot { s.boot with state := .released }).withLines { s.lines with
    crstOut := false, erstOut := (findEngine s.tables.regions 0).isNone }).releaseReserve
  u.withTimer (Timer.load u.boot.params.bootDeadline .bootDeadline)

theorem State.enterReleased_eq (s : State) : s.enterReleased =
    if s.releasing.tables.printFailed then s.releasing.latchGate .chunkBad else s.releasing.judgeOpening := rfl

section
variable (s : State)

@[simp] theorem State.releasing_gate : s.releasing.gate = s.gate := by simp [State.releasing]
@[simp] theorem State.releasing_tables : s.releasing.tables = s.tables := by simp [State.releasing]
@[simp] theorem State.releasing_boot : s.releasing.boot = { s.boot with state := .released, reserve := none } := by
  simp [State.releasing]
@[simp] theorem State.releasing_timer : s.releasing.timer = Timer.load s.boot.params.bootDeadline .bootDeadline := by
  simp [State.releasing]

variable {s} (hg : s.gate.state = .closed)
include hg

/-- With a PRINT region FAILED the gate is LATCHED. -/
theorem State.enterReleased_latches (hp : s.tables.printFailed = true) :
    s.enterReleased.gate.state = .latched ∧ s.enterReleased.gate.cause = some .chunkBad ∧
    s.enterReleased.timer.running = false ∧
    (FuseItem.demote ∈ s.enterReleased.fuse.work ∨ s.enterReleased.fuse.op = some (.demote s.boot.active)) := by
  rw [State.enterReleased_eq, if_pos (by simpa using hp)]
  obtain ⟨hgate, htimer, hdemote, -⟩ := State.latchGate_spec (s := s.releasing) (by simp [hg]) .chunkBad
  exact ⟨by rw [hgate], by rw [hgate], by rw [htimer], by simpa using hdemote⟩

/-- With every required region COMPLETE the gate is OPEN. -/
theorem State.enterReleased_opens (hp : s.tables.printFailed = false) (hr : s.tables.requiredComplete = true) :
    s.enterReleased.gate = Gate.open_ := by
  rw [State.enterReleased_eq, if_neg (by simp [hp]), State.judgeOpening, if_pos (by simp [hg, hr])]
  simp [State.openGate]

end

/-- With a required region still to be proved the gate stays as it was, and the boot deadline runs. -/
theorem State.enterReleased_waits {s : State} (hp : s.tables.printFailed = false)
    (hr : s.tables.requiredComplete = false) :
    s.enterReleased.gate = s.gate ∧
    s.enterReleased.timer = Timer.load s.boot.params.bootDeadline .bootDeadline := by
  rw [State.enterReleased_eq, if_neg (by simp [hp]), State.judgeOpening, if_neg (by simp [hr])]
  exact ⟨s.releasing_gate, s.releasing_timer⟩

/-- The table holds no engine region exactly where no IMAGE record has its ENGINE flag (R42). -/
theorem findEngine_isNone_iff (l : List Region) (i : Nat) :
    (findEngine l i).isNone = false ↔ ∃ x, Region.image x ∈ l ∧ x.engine = true := by
  induction l generalizing i with
  | nil => simp [findEngine]
  | cons r l ih =>
    cases r with
    | data d => simp [findEngine, ih]
    | image g =>
      cases hg : g.engine
      · simp only [findEngine, hg, Bool.false_eq_true, if_false, ih, List.mem_cons, Region.image.injEq]
        constructor
        · rintro ⟨x, hx, he⟩
          exact ⟨x, .inr hx, he⟩
        · rintro ⟨x, rfl | hx, he⟩
          · rw [hg] at he; cases he
          · exact ⟨x, hx, he⟩
      · simp only [findEngine, hg, if_true, Option.isNone_some, true_iff]
        exact ⟨g, List.mem_cons_self, hg⟩

/-! ## The completion of the hash -/

/-- The part with a chunk proved GOOD in its region's record. -/
def State.chunkProved (s : State) (r : Nat) (g : ImageRegion) (record : Nat) : State :=
  s.withTables ((s.tables.setChunkState record .good).setImage r g.afterGood)

/-- The part with an UNCHECKED chunk found BAD: its region FAILED, and the bad report made (R48, R49). -/
def State.chunkFailed (s : State) (r : Nat) (g : ImageRegion) (record : Nat) (k : ChunkRecord) : State :=
  (s.withTables { regions := s.tables.regions.set r (.image { g with bad := g.bad + 1, state := .failed })
                  chunks := s.tables.chunks.set record { k with state := .bad } }).withAlerts
    { s.alerts with bad := true }

section
variable {s : State} {i : Fin 8} {r c : Nat}

theorem State.chunkHashed_eq (he : s.verifier.engine = some i) (hc : (s.slot i).content = some (.chunk r c)) :
    s.chunkHashed = ((s.takeVerdict r c (s.slotDigest i)).completeHash i r c).readAhead := by
  simp only [State.chunkHashed, State.hashed_of_engine he, hc]

/-- Where the verdict has ended the engine's work, the slot is not given back again (R75). -/
theorem State.completeHash_of_idle (h : s.verifier.engine = none) : s.completeHash i r c = s := by
  simp [State.completeHash, h]

/-- A fallback ends the engine's work, and the walker that runs on brings none. -/
theorem State.fallbackAndWalk_engine (s : State) : s.fallbackAndWalk.verifier.engine = none := by
  rcases s.fallback.walkOnAll_work with h | h
  · rw [State.fallback_work] at h
    exact congrArg (·.2.1) h
  · exact congrArg (·.2.1) h

section
variable {g : ImageRegion} {k : ChunkRecord} {e digest : List Byte} (hi : s.tables.image r = some g)
  (hk : s.tables.chunks[g.first + c]? = some k) (he : k.expected = some e) (hu : k.state = .unchecked)
include hi hk he hu

/-- A match in PREVERIFY: the chunk is GOOD, and RELEASED is entered where it was its region's last and no other BOOT region is
still to be proved (R12). -/
theorem State.takeVerdict_match (hb : s.boot.state = .preverify) (hg : g.state = .checking) (hd : digest = e) :
    s.takeVerdict r c digest =
      if g.count = g.good + 1 ∧ (s.chunkProved r g (g.first + c)).tables.bootComplete = true then
        (s.chunkProved r g (g.first + c)).enterReleased
      else s.chunkProved r g (g.first + c) := by
  have hreact := State.regionChanged_complete (g := g.afterGood) (s := s.chunkProved r g (g.first + c)) hb
  have hverdict : s.takeVerdict r c digest = (regionChange r g g.afterGood).elim (s.chunkProved r g (g.first + c)) fun x =>
      (s.chunkProved r g (g.first + c)).regionChanged x.2 := by
    simp only [State.takeVerdict, hi, Tables.verdict_match r hk he hu hd, Bool.false_eq_true, if_false]
    cases regionChange r g g.afterGood <;> rfl
  rw [hverdict]
  by_cases hn : g.count = g.good + 1
  · have hstate : g.afterGood.state = .complete := by simp [ImageRegion.afterGood, hg, hn]
    have hchange : regionChange r g g.afterGood = some (r, g.afterGood) := by simp [regionChange, hstate, hg]
    simp [hchange, hreact hstate, hn]
  · have hstate : g.afterGood.state = .checking := by simp [ImageRegion.afterGood, hg, Ne.symm hn]
    have hchange : regionChange r g g.afterGood = none := by simp [regionChange, hstate, hg]
    simp [hchange, hn]

/-- A mismatch in PREVERIFY: the chunk is BAD and its region FAILED, and a BOOT region that was not FAILED before brings the
fallback (R12). -/
theorem State.takeVerdict_mismatch (hb : s.boot.state = .preverify) (hp : ∀ h, s.port ≠ .held h) (hd : digest ≠ e) :
    s.takeVerdict r c digest =
      if g.cls = .boot ∧ g.state ≠ .failed then (s.chunkFailed r g (g.first + c) k).fallbackAndWalk
      else s.chunkFailed r g (g.first + c) k := by
  have hstate : (g.afterBad false).state = .failed := rfl
  have hreact := State.regionChanged_failed (s := s.chunkFailed r g (g.first + c) k) (g := g.afterBad false) hb hstate
  have hheld : (s.chunkFailed r g (g.first + c) k).endHeldOnBad (g.first + c) = s.chunkFailed r g (g.first + c) k :=
    State.endHeldOnBad_of_not_held (s := s.chunkFailed r g (g.first + c) k) hp _
  have hverdict : s.takeVerdict r c digest = (regionChange r g (g.afterBad false)).elim
      ((s.chunkFailed r g (g.first + c) k).endHeldOnBad (g.first + c)) fun x =>
      ((s.chunkFailed r g (g.first + c) k).endHeldOnBad (g.first + c)).regionChanged x.2 := by
    simp only [State.takeVerdict, hi, Tables.verdict_mismatch r hk he hu hd, if_true]
    cases regionChange r g (g.afterBad false) <;> rfl
  rw [hverdict, hheld]
  by_cases hf : g.state = .failed
  · have hchange : regionChange r g (g.afterBad false) = none := by simp [regionChange, hstate, hf]
    rw [hchange]
    simp [hf]
  · have hchange : regionChange r g (g.afterBad false) = some (r, g.afterBad false) := by
      simp [regionChange, hstate, hf]
    rw [hchange, Option.elim_some, hreact]
    simp [hf, ImageRegion.afterBad]

end

end

/-- Settles O37: a match that leaves every BOOT region COMPLETE enters RELEASED (`State.enterReleased_eq`), a mismatch in a BOOT
region brings the fallback, which ends the engine's work, and giving the slot back moves neither the boot state nor the gate. -/
theorem aVerdictEndsPreverify : Obligations.AVerdictEndsPreverify := by
  intro s i r c g k e hb hg hport heng hcont himg hrec hexp hst
  have hexec : exec .chunkHashComplete s =
      .next ((s.takeVerdict r c (s.slotDigest i)).completeHash i r c).readAhead :=
    congrArg Host.Outcome.next (State.chunkHashed_eq heng hcont)
  refine ⟨fun hgood hchk => ?_, fun hbad hcls hf => ?_, fun hbad hcls => ?_⟩
  · have hd : s.slotDigest i = e := of_decide_eq_true hgood
    rw [State.takeVerdict_match himg hrec hexp hst hb hchk hd] at hexec
    by_cases hrel : g.count = g.good + 1 ∧ (s.chunkProved r g (g.first + c)).tables.bootComplete = true
    · rw [if_pos hrel] at hexec
      obtain ⟨-, hboot⟩ := hrel
      have hgate : (s.chunkProved r g (g.first + c)).gate.state = .closed := hg
      refine ⟨_, hexec, fun h => ?_, fun _ _ => ?_⟩
      · simp [hboot] at h
      · simp only [State.readAhead_blocks, State.completeHash_blocks, State.enterReleased_blocks]
        refine ⟨State.enterReleased_boot _, by rw [State.enterReleased_lines],
          by rw [State.enterReleased_lines]; exact findEngine_isNone_iff _ 0, State.enterReleased_latches hgate,
          fun hp hr => ?_, State.enterReleased_waits⟩
        rw [State.enterReleased_opens hgate hp hr]
        exact ⟨rfl, rfl⟩
    · rw [if_neg hrel] at hexec
      refine ⟨_, hexec, fun _ => by simp [State.chunkProved], fun hboot hcount => absurd ⟨hcount, ?_⟩ hrel⟩
      simpa using hboot
  · have hd : s.slotDigest i ≠ e := of_decide_eq_false hbad
    rw [State.takeVerdict_mismatch himg hrec hexp hst hb hport hd, if_pos ⟨hcls, hf⟩,
      State.completeHash_of_idle (State.fallbackAndWalk_engine _)] at hexec
    exact hexec
  · have hd : s.slotDigest i ≠ e := of_decide_eq_false hbad
    rw [State.takeVerdict_mismatch himg hrec hexp hst hb hport hd, if_neg fun h => hcls h.1] at hexec
    exact ⟨_, hexec, by simp [State.chunkFailed], by simp [State.chunkFailed], by simp [State.chunkFailed],
      by simp [State.chunkFailed], by simp [State.chunkFailed]⟩

end Sys2Proof.Machine
end

section
/-! The walker at an entry of its top frame: which entry it takes up, an entry rejected or taken, and the slot it claims for what it
waits for (R26 to R29, R31 to R33, R35). -/

namespace Sys2Proof.Machine

/-! ## The entry the walker takes up -/

section
variable {u : State} {f : Frame} {rest : List Frame} (hb : u.boot.state = .walking) (hj : u.walk.job = .none)
  (ho : u.walk.outcome = none) (hst : u.walk.stack = f :: rest)
include hb hj ho hst

/-- The walker at its top frame runs on after the step that the frame's next entry, or its end, brings. -/
theorem State.walkOnAll_at_frame : u.walkOnAll =
    (if manifestCount (u.slot f.slot).buffer ≤ f.next then u.popFrame f rest
     else if entryKind (u.slot f.slot).buffer f.next = kindImage then
       u.processImage (u.slot f.slot).buffer f.next f
     else if entryKind (u.slot f.slot).buffer f.next = kindData then
       u.processData (u.slot f.slot).buffer f.next f
     else u.processDelegate (u.slot f.slot).buffer f.next f).walkOnAll := by
  rw [State.walkOnAll_step ((State.walkGoes_iff u).2 ⟨hb, hj, ho⟩), State.walkStep, hst]

theorem State.walkOnAll_popFrame (hn : manifestCount (u.slot f.slot).buffer ≤ f.next) :
    u.walkOnAll = (u.popFrame f rest).walkOnAll := by
  rw [State.walkOnAll_at_frame hb hj ho hst, if_pos hn]

section
variable (hn : f.next < manifestCount (u.slot f.slot).buffer)
include hn

theorem State.walkOnAll_image (hk : entryKind (u.slot f.slot).buffer f.next = kindImage) :
    u.walkOnAll = (u.processImage (u.slot f.slot).buffer f.next f).walkOnAll := by
  rw [State.walkOnAll_at_frame hb hj ho hst, if_neg (Nat.not_le.2 hn), if_pos hk]

theorem State.walkOnAll_data (hk : entryKind (u.slot f.slot).buffer f.next = kindData) :
    u.walkOnAll = (u.processData (u.slot f.slot).buffer f.next f).walkOnAll := by
  rw [State.walkOnAll_at_frame hb hj ho hst, if_neg (Nat.not_le.2 hn), if_neg (by rw [hk]; decide), if_pos hk]

theorem State.walkOnAll_delegate (hk : entryKind (u.slot f.slot).buffer f.next = kindDelegate) :
    u.walkOnAll = (u.processDelegate (u.slot f.slot).buffer f.next f).walkOnAll := by
  rw [State.walkOnAll_at_frame hb hj ho hst, if_neg (Nat.not_le.2 hn), if_neg (by rw [hk]; decide),
    if_neg (by rw [hk]; decide)]

end

end

/-- The walker that has begun to wait for the Chunk Verifier goes no further. -/
theorem State.walkOnAll_of_waiting {u : State} (hj : u.walk.job ≠ .none) (ho : u.walk.outcome = none) :
    u.walkOnAll = u := State.walkOnAll_of_stop (.inr ⟨hj, ho⟩)

/-! ## The class of an IMAGE entry (R27, R35, R183) -/

/-- The class byte of an IMAGE entry (R183). -/
def ImageClass.byte : ImageClass → Nat
  | .boot => 0x01
  | .print => 0x02
  | .optional => 0x03

theorem entryClass_eq_some_iff (m : Memory) (i : Nat) (c : ImageClass) :
    entryClass m i = some c ↔ entryField m i 1 1 = c.byte := by
  unfold entryClass
  split <;> cases c <;> simp_all [ImageClass.byte]

/-- The class rule lets an OPTIONAL entry be skipped, and no other (R35, log 27). -/
theorem imageFatal_entryClass (m : Memory) (i : Nat) :
    imageFatal (entryClass m i) = decide (entryField m i 1 1 ≠ 0x03) := by
  unfold entryClass
  split <;> simp_all [imageFatal]

theorem imageRangeOk_iff (words : Nat) (m : Memory) (i : Nat) (f : Frame) : imageRangeOk words m i f = true ↔
    1 ≤ entryCount m i ∧ entryCount m i ≤ 4095 ∧ f.base ≤ entryBase m i ∧
      entryBase m i + entryCount m i ≤ f.base + f.count ∧ entryListLoc m i % 8 = 0 ∧
      entryListLoc m i + 8 * entryCount m i ≤ words := by
  simp only [imageRangeOk, rangeInside, Bool.and_eq_true, decide_eq_true_eq, and_assoc]

/-! ## The five checks on an IMAGE entry (R27) -/

section
variable {s : State} {m : Memory} {i : Nat} {f : Frame}

theorem entryFresh_iff {fuse : Fuse} {k : Fin 8} (hk : entryCounter m i = k.val) :
    entryFresh fuse m i = true ↔ fuse.counters[k] ≤ entryVersion m i := by
  rw [entryFresh, decide_eq_true_eq, hk, Fuse.counter_eq]

theorem State.processImage_rollback (h : entryFresh s.fuse m i = false) :
    s.processImage m i f = s.reject (imageFatal (entryClass m i)) .rollback := by
  simp [State.processImage, h]

variable (hfresh : entryFresh s.fuse m i = true)
include hfresh

/-- No class that the frame's mask has, or a range outside the frame's scope. -/
theorem State.processImage_scope
    (h : (∀ c, ¬ (entryClass m i = some c ∧ f.mask.has c = true)) ∨ imageRangeOk s.bankWords m i f = false) :
    s.processImage m i f = s.reject (imageFatal (entryClass m i)) .scope := by
  unfold State.processImage
  simp only [hfresh, Bool.not_true, Bool.false_eq_true, if_false]
  split
  · next hc => rw [hc]
  · next c hc =>
    have hbad : (f.mask.has c && imageRangeOk s.bankWords m i f) = false := by
      rcases h with h | h
      · have := h c
        simp_all
      · rw [h, Bool.and_false]
    simp only [hbad, Bool.not_false, if_true, hc]

variable {c : ImageClass} (hc : entryClass m i = some c) (hmask : f.mask.has c = true)
  (hrange : imageRangeOk s.bankWords m i f = true)
include hc hmask hrange

/-- An entry of a class of the mask, inside the scope, comes to the last two checks. -/
theorem State.processImage_inScope : s.processImage m i f =
    if 16 ≤ s.tables.regions.length ∨ 4096 - s.tables.chunks.length < entryCount m i then
      s.reject (imageFatal (entryClass m i)) .capacity
    else if entryEngine m i && s.walk.engineUsed then s.reject (imageFatal (entryClass m i)) .engineTwice
    else s.takeImage m i f c := by
  simp only [State.processImage, hfresh, hc, hmask, hrange, Bool.and_self, Bool.not_true, Bool.false_eq_true, if_false,
    ite_or]

end

/-! ## An IMAGE entry taken (R28, R29) -/

/-- The region record of an IMAGE entry whose digest records begin at `first` (R28). -/
def entryRegion (m : Memory) (i : Nat) (f : Frame) (c : ImageClass) (first : Nat) : ImageRegion :=
  { imageId := entryImageId m i, cls := c, signer := f.signer, base := entryBase m i, count := entryCount m i
    first := first, counter := Fin.ofNat 8 (entryCounter m i), version := entryVersion m i
    engine := entryEngine m i, state := .loading, good := 0, bad := 0 }

/-- The list of an IMAGE entry before its first piece (R29). -/
def entryList (m : Memory) (i region first : Nat) : ListJob :=
  { region := region, hash := entryDigest m i, loc := entryListLoc m i, left := entryCount m i, record := first
    running := shaInit }

/-- The part with an IMAGE entry in its tables and its list to be streamed (R28). -/
def State.imageEntered (s : State) (m : Memory) (i : Nat) (f : Frame) (c : ImageClass) : State :=
  (s.withTables
    { regions := s.tables.regions ++ [.image (entryRegion m i f c s.tables.chunks.length)]
      chunks := s.tables.chunks ++ List.replicate (entryCount m i)
        { expected := none, owner := s.tables.regions.length, state := .unchecked } }).withWalk
    { s.walk with
      engineUsed := s.walk.engineUsed || entryEngine m i
      job := .list (entryList m i s.tables.regions.length s.tables.chunks.length) }

/-- A claim for a list piece takes the lowest-numbered FREE slot (R29, R69). -/
theorem State.claimPiece_of_free {s : State} {b : Bank} {n : Fin 8} (ha : s.boot.active = some b)
    (hn : s.lowestFree = some n) (j : ListJob) :
    s.claimPiece j = s.takeSlot n .list (.piece b (j.loc / chunkWords)) none false := by
  simp only [State.claimPiece, ha, State.claimIntake_of_free hn]

/-- The walker waits for the first piece of the list of an entry it has taken. -/
theorem State.takeImage_walkOnAll {s : State} {m : Memory} {i : Nat} {f : Frame} {c : ImageClass} {b : Bank} {n : Fin 8}
    (ho : s.walk.outcome = none) (ha : s.boot.active = some b) (hn : s.lowestFree = some n) :
    (s.takeImage m i f c).walkOnAll =
      (s.imageEntered m i f c).takeSlot n .list (.piece b (entryListLoc m i / chunkWords)) none false := by
  have htake : s.takeImage m i f c =
      (s.imageEntered m i f c).takeSlot n .list (.piece b (entryListLoc m i / chunkWords)) none false :=
    State.claimPiece_of_free (s := s.imageEntered m i f c) ha hn _
  rw [htake]
  refine State.walkOnAll_of_waiting ?_ ?_
  · simp [State.imageEntered]
  · simpa [State.imageEntered] using ho

/-- What an intake claim leaves of the part: the slot it takes, the others as they were, and the slot's request at class 3. -/
theorem State.takeSlot_intake (s : State) {p : Purpose} (hp : p = .list ∨ p = .manifest) (c : Content) (n : Fin 8) :
    (s.takeSlot n p c none false).slot n =
      { state := .filling, purpose := some p, content := some c, bursts := 0, order := some (s.inUseCount + 1)
        waiter := none, flag := false, buffer := (s.slot n).buffer } ∧
    (∀ j, j ≠ n → (s.takeSlot n p c none false).slot j = s.slot j) ∧
    (s.takeSlot n p c none false).arbiter.slotWait[n] = some .class3 := by
  refine ⟨?_, fun j hj => ?_, ?_⟩
  · rw [State.takeSlot_slot, if_pos rfl]
  · rw [State.takeSlot_slot, if_neg (Ne.symm hj)]
  · rw [State.takeSlot_wait, vector_set_get, if_pos rfl]
    rcases hp with rfl | rfl <;> rfl

/-- Settles O44: `State.walkOnAll_image` takes up the entry, the checks of R27 come one after the other
(`State.processImage_rollback`, `State.processImage_scope`, `State.processImage_inScope`), and an entry that passes leaves the
walker waiting for its list (`State.takeImage_walkOnAll`). -/
theorem theWalkerTakesImageEntries : Obligations.TheWalkerTakesImageEntries := by
  intro u f rest k hb hj ho hst m fld hn hkind hcounter rejected base count loc engine ofClass inRange
  have hstep : ∀ {t : State}, u.processImage m f.next f = t → u.walkOnAll = t.walkOnAll := fun h => by
    rw [State.walkOnAll_image hb hj ho hst hn hkind]
    exact congrArg State.walkOnAll h
  have hreject : ∀ {kind : WalkFault}, u.processImage m f.next f = u.reject (imageFatal (entryClass m f.next)) kind →
      u.walkOnAll = rejected kind := fun h => by
    rw [hstep h, State.reject_eq hst, imageFatal_entryClass]
    rfl
  have hfreshIff : entryFresh u.fuse m f.next = true ↔ u.fuse.counters[k] ≤ fld 3 1 := entryFresh_iff hcounter
  have hclassIff : ∀ c, ofClass c ↔ entryClass m f.next = some c ∧ f.mask.has c = true := fun c => by
    rw [entryClass_eq_some_iff]
    cases c <;> rfl
  have hrangeIff : imageRangeOk u.bankWords m f.next f = true ↔ inRange := imageRangeOk_iff _ _ _ _
  refine ⟨fun hbehind => ?_, fun hfresh => ⟨fun hout => ?_, fun c hc hrange => ⟨fun hfull => ?_, fun hregions hchunks =>
    ⟨fun heng hused => ?_, fun heng b i ha hi => ?_⟩⟩⟩⟩
  · refine hreject (State.processImage_rollback ?_)
    rw [Bool.eq_false_iff, ne_eq, hfreshIff]
    exact Nat.not_le.2 hbehind
  · refine hreject (State.processImage_scope (hfreshIff.2 hfresh) (hout.imp (fun h c hc => h c ((hclassIff c).2 hc)) ?_))
    rw [Bool.eq_false_iff, ne_eq, hrangeIff]
    exact id
  all_goals
    obtain ⟨hcls, hmask⟩ := (hclassIff c).1 hc
    have hin := State.processImage_inScope (hfreshIff.2 hfresh) hcls hmask (hrangeIff.2 hrange)
    have hcount : 1 ≤ entryCount m f.next := hrange.1
  · refine hreject (hin.trans (if_pos (hfull.imp_right fun h => ?_)))
    have hover : 4096 < u.tables.chunks.length + entryCount m f.next := h
    omega
  all_goals
    have hfits : ¬ (16 ≤ u.tables.regions.length ∨ 4096 - u.tables.chunks.length < entryCount m f.next) := by
      have hroom : u.tables.chunks.length + entryCount m f.next ≤ 4096 := hchunks
      omega
    rw [if_neg hfits] at hin
  · have hflag : entryEngine m f.next = true := heng
    exact hreject (hin.trans (if_pos (by rw [hflag, hused]; rfl)))
  · have honce : ¬ (entryEngine m f.next && u.walk.engineUsed) = true := by
      have hflag : entryEngine m f.next = false ∨ u.walk.engineUsed = false := heng
      rcases hflag with h | h <;> simp [h]
    rw [if_neg honce] at hin
    obtain ⟨hslot, hothers, hwait⟩ := State.takeSlot_intake (u.imageEntered m f.next f c) (.inl rfl)
      (.piece b (entryListLoc m f.next / chunkWords)) i
    have hnumber : Fin.ofNat 8 (entryCounter m f.next) = k := by
      have : entryCounter m f.next = k.val := hcounter
      rw [this]
      exact Fin.ofNat_val_eq_self k
    refine ⟨_, (hstep hin).trans (State.takeImage_walkOnAll ho ha hi), State.takeSlot_eq _ _ _ _ _ _, ?_, rfl, rfl, hslot,
      hothers, hwait⟩
    show u.tables.regions ++ [.image (entryRegion m f.next f c u.tables.chunks.length)] = _
    rw [entryRegion, hnumber]
    rfl

/-! ## DATA entries (R31) -/

theorem State.processData_eq (s : State) (m : Memory) (i : Nat) (f : Frame) : s.processData m i f =
    if 1 ≤ entrySectorCount m i ∧ f.base ≤ 16 * entryBaseSector m i ∧
        16 * entryBaseSector m i + 16 * entrySectorCount m i ≤ f.base + f.count ∧
        16 * entryBaseSector m i + 16 * entrySectorCount m i ≤ manifestChunk s.lines.fsz ∧ s.tables.regions.length < 16 then
      (s.withTables { s.tables with
        regions := s.tables.regions ++ [.data { signer := f.signer, base := 16 * entryBaseSector m i
                                                count := 16 * entrySectorCount m i }] }).entryDone
    else s.entryDone := by
  simp only [State.processData, rangeInside, Bool.and_eq_true, decide_eq_true_eq, and_assoc]

/-- The entry in process ends, with the walker ready for the next of the frame. -/
theorem State.entryDone_eq {s : State} {f : Frame} {rest : List Frame} (hst : s.walk.stack = f :: rest) :
    s.entryDone = s.withWalk { s.walk with stack := { f with next := f.next + 1 } :: rest, job := .none } := by
  simp only [State.entryDone, Walk.advance, hst]

/-! ## DELEGATE entries (R32, R33) -/

/-- Every class of a mask is in another. -/
theorem ClassMask.inside_iff (k l : ClassMask) : k.inside l = true ↔
    (k.boot = true → l.boot = true) ∧ (k.print = true → l.print = true) ∧ (k.optional = true → l.optional = true) := by
  simp only [ClassMask.inside, Bool.and_eq_true, Bool.or_eq_true, Bool.not_eq_true', ← Bool.not_eq_true, imp_iff_not_or,
    and_assoc]

theorem delegateScopeOk_iff (m : Memory) (i : Nat) (f : Frame) : delegateScopeOk m i f = true ↔
    ((entryMask m i).boot = true → f.mask.boot = true) ∧ ((entryMask m i).print = true → f.mask.print = true) ∧
    ((entryMask m i).optional = true → f.mask.optional = true) ∧ 1 ≤ entryCount m i ∧ f.base ≤ entryBase m i ∧
    entryBase m i + entryCount m i ≤ f.base + f.count ∧ entryManifestLoc m i % 2048 = 0 ∧
    entryBase m i ≤ entryManifestLoc m i / 2048 ∧
    entryManifestLoc m i / 2048 < entryBase m i + entryCount m i := by
  simp only [delegateScopeOk, rangeInside, Bool.and_eq_true, decide_eq_true_eq, ClassMask.inside_iff, and_assoc]
  rfl

/-- The delegation whose manifest is claimed in slot `n` (R32). -/
def entryDelegate (m : Memory) (i : Nat) (n : Fin 8) : DelegateJob :=
  { slot := n, at_ := .fill, base := entryBase m i, count := entryCount m i, mask := entryMask m i
    keyDigest := entryDigest m i }

/-- The walker waits for the manifest of a delegation that has passed the first phase. -/
theorem State.claimDelegate_walkOnAll {s : State} {m : Memory} {i : Nat} {b : Bank} {n : Fin 8}
    (ho : s.walk.outcome = none) (ha : s.boot.active = some b) (hn : s.lowestFree = some n) :
    (s.claimDelegate m i).walkOnAll =
      (s.takeSlot n .manifest (.piece b (entryManifestLoc m i / chunkWords)) none false).withWalk
        { s.walk with job := .delegate (entryDelegate m i n) } := by
  have hclaim : s.claimDelegate m i =
      (s.takeSlot n .manifest (.piece b (entryManifestLoc m i / chunkWords)) none false).withWalk
        { s.walk with job := .delegate (entryDelegate m i n) } := by
    simp only [State.claimDelegate, ha, State.claimIntake_of_free hn, State.takeSlot_blocks]
    rfl
  rw [hclaim]
  exact State.walkOnAll_of_waiting (by simp) ho

/-- Settles O45: `State.processData_eq` says where a DATA entry is recorded; `State.processDelegate` tries a DELEGATE entry for
CAPACITY, OVERFLOW and SCOPE, and one that passes leaves the walker waiting for its manifest
(`State.claimDelegate_walkOnAll`). -/
theorem theWalkerTakesDataAndDelegateEntries : Obligations.TheWalkerTakesDataAndDelegateEntries := by
  intro u f rest hb hj ho hst m fld hn
  refine ⟨?_, ?_⟩
  · intro hkind base count skipped fits
    have hdone : ∀ t : Tables, (u.withTables t).entryDone = skipped.withTables t := fun t => by
      rw [State.entryDone_eq (s := u.withTables t) hst, State.withTables_walk, ← hj]
      rfl
    have hstep : u.walkOnAll = (u.processData m f.next f).walkOnAll := State.walkOnAll_data hb hj ho hst hn hkind
    have hdata := u.processData_eq m f.next f
    refine ⟨fun hfits => ?_, fun hout => ?_⟩
    · rw [hstep, hdata.trans (if_pos hfits), hdone]
      rfl
    · rw [hstep, hdata.trans (if_neg hout)]
      exact congrArg State.walkOnAll (hdone u.tables)
  · intro hkind bit fatal rejected loc base count inScope
    have hstep : u.walkOnAll = (u.processDelegate m f.next f).walkOnAll :=
      State.walkOnAll_delegate hb hj ho hst hn hkind
    have hreject : ∀ fatal kind, (u.reject fatal kind).walkOnAll = rejected fatal kind := fun fatal kind => by
      rw [State.reject_eq hst]
    rw [State.processDelegate] at hstep
    refine ⟨fun hkeys => ?_, fun hkeys hframes => ?_, fun hkeys hframes => ⟨fun hout => ?_, fun hin b i ha hi => ?_⟩⟩
    · rw [hstep, if_pos hkeys]
      exact hreject fatal _
    all_goals rw [if_neg (Nat.not_le.2 hkeys)] at hstep
    · rw [hstep, if_pos hframes]
      exact hreject _ _
    all_goals rw [if_neg (Nat.not_le.2 hframes)] at hstep
    · have hscope : delegateScopeOk m f.next f = false :=
        Bool.eq_false_iff.2 fun h => hout ((delegateScopeOk_iff _ _ _).1 h)
      rw [hstep, hscope]
      exact hreject fatal _
    · have hscope : delegateScopeOk m f.next f = true := (delegateScopeOk_iff _ _ _).2 hin
      rw [hscope] at hstep
      obtain ⟨hslot, hothers, hwait⟩ := u.takeSlot_intake (.inr rfl)
        (.piece b (entryManifestLoc m f.next / chunkWords)) i
      exact ⟨_, hstep.trans (State.claimDelegate_walkOnAll ho ha hi), rfl, rfl, hslot, hothers, hwait⟩

end Sys2Proof.Machine
end

section
/-! The walker at the end of a frame and of the walk: a frame popped, the overlap check, the scan list, and PREVERIFY entered with
its first pass (R11, R12, R34, R36 to R39, R150). -/

namespace Sys2Proof.Machine

/-! ## The overlap check (R37) -/

/-- The record at an index reaches the manifest sector, or overlaps an earlier record (R37). -/
def regionClash (limit : Nat) (l : List Region) (i : Nat) : Prop :=
  ∃ r, l[i]? = some r ∧ (limit < r.base + r.count ∨
    ∃ j q, j < i ∧ l[j]? = some q ∧ q.base < r.base + r.count ∧ r.base < q.base + q.count)

theorem lt_length_of_regionClash {limit : Nat} {l : List Region} {i : Nat} (h : regionClash limit l i) : i < l.length := by
  obtain ⟨r, hr, -⟩ := h
  exact (List.getElem?_eq_some_iff.1 hr).1

/-- The test of `findOverlap` on the record after the earlier ones. -/
theorem regionClash_append_iff (limit : Nat) (earlier : List Region) (r : Region) (rs : List Region) :
    regionClash limit (earlier ++ r :: rs) earlier.length ↔
      (decide (limit < r.base + r.count) || earlier.any (r.overlaps ·)) = true := by
  have hget : (earlier ++ r :: rs)[earlier.length]? = some r := by simp
  have hearlier : (∃ j q, j < earlier.length ∧ (earlier ++ r :: rs)[j]? = some q ∧ q.base < r.base + r.count ∧
      r.base < q.base + q.count) ↔ earlier.any (r.overlaps ·) = true := by
    simp only [List.any_eq_true, Region.overlaps, Bool.and_eq_true, decide_eq_true_eq]
    constructor
    · rintro ⟨j, q, hj, hq, h1, h2⟩
      rw [List.getElem?_append_left hj] at hq
      exact ⟨q, List.mem_of_getElem? hq, h2, h1⟩
    · rintro ⟨q, hq, h2, h1⟩
      obtain ⟨j, hj, rfl⟩ := List.getElem_of_mem hq
      exact ⟨j, _, hj, by rw [List.getElem?_append_left hj, List.getElem?_eq_getElem hj], h1, h2⟩
  simp only [regionClash, hget, Option.some.injEq, exists_eq_left', hearlier, Bool.or_eq_true, decide_eq_true_eq]

section
variable {limit : Nat} {l : List Region}

/-- What remains to be tested after a record that does not clash. -/
theorem findOverlap_of_clear {earlier : List Region} {r : Region} {rs : List Region}
    (h : ¬ regionClash limit (earlier ++ r :: rs) earlier.length) :
    findOverlap limit earlier earlier.length (r :: rs) =
      findOverlap limit (earlier ++ [r]) (earlier ++ [r]).length rs := by
  rw [regionClash_append_iff] at h
  rw [findOverlap, if_neg h, List.length_append, List.length_singleton]

theorem findOverlap_after_some {i : Nat} {earlier rs : List Region} (hi : regionClash limit (earlier ++ rs) i)
    (hle : earlier.length ≤ i) (hfirst : ∀ j, j < i → ¬ regionClash limit (earlier ++ rs) j) :
    findOverlap limit earlier earlier.length rs = some i := by
  induction rs generalizing earlier with
  | nil =>
    have := lt_length_of_regionClash hi
    simp only [List.append_nil] at this
    omega
  | cons r rs ih =>
    by_cases hr : regionClash limit (earlier ++ r :: rs) earlier.length
    · have heq : i = earlier.length := by
        by_contra hne
        exact hfirst _ (by omega) hr
      rw [regionClash_append_iff] at hr
      rw [findOverlap, if_pos hr, heq]
    · have hne : i ≠ earlier.length := fun h => hr (h ▸ hi)
      have hassoc : earlier ++ r :: rs = (earlier ++ [r]) ++ rs := by simp
      rw [findOverlap_of_clear hr]
      rw [hassoc] at hi hfirst
      refine ih hi ?_ hfirst
      rw [List.length_append, List.length_singleton]
      omega

theorem findOverlap_after_none {earlier rs : List Region} (h : ∀ j, ¬ regionClash limit (earlier ++ rs) j) :
    findOverlap limit earlier earlier.length rs = none := by
  induction rs generalizing earlier with
  | nil => rfl
  | cons r rs ih =>
    rw [findOverlap_of_clear (h _)]
    exact ih (by simpa using h)

/-- The first record that clashes is the one the overlap check finds. -/
theorem findOverlap_first {i : Nat} (hi : regionClash limit l i) (hfirst : ∀ j, j < i → ¬ regionClash limit l j) :
    findOverlap limit [] 0 l = some i := findOverlap_after_some (earlier := []) hi (Nat.zero_le _) hfirst

theorem findOverlap_none (h : ∀ j, ¬ regionClash limit l j) : findOverlap limit [] 0 l = none :=
  findOverlap_after_none (earlier := []) h

end

/-! ## The scan list (R38) -/

/-- A record that the scan list takes under a class: an IMAGE record of it that is not FAILED. -/
def listedAs (c : ImageClass) : Option Region → Bool
  | some (.image g) => decide (g.cls = c) && decide (g.state ≠ .failed)
  | _ => false

theorem listClass_cons (c : ImageClass) (r : Region) (rs : List Region) (n : Nat) :
    listClass c (r :: rs) n = if listedAs c (some r) then n :: listClass c rs (n + 1) else listClass c rs (n + 1) := by
  cases r <;> simp [listClass, listedAs]

/-- The entries of a class are the indices of its records, in table order. -/
theorem listClass_eq_filter (c : ImageClass) (l : List Region) (n : Nat) :
    listClass c l n = ((List.range l.length).filter fun i => listedAs c l[i]?).map (· + n) := by
  induction l generalizing n with
  | nil => rfl
  | cons r rs ih =>
    have hshift : (fun i => i + (n + 1)) = (fun i => i + n) ∘ Nat.succ := by
      funext i
      simp only [Function.comp_apply]
      omega
    rw [listClass_cons, ih, List.length_cons, List.range_succ_eq_map, List.filter_cons, List.filter_map, hshift,
      ← List.map_map]
    simp only [List.getElem?_cons_zero, Function.comp_def, Nat.succ_eq_add_one, List.getElem?_cons_succ]
    split <;> simp

theorem listClass_zero (c : ImageClass) (l : List Region) :
    listClass c l 0 = (List.range l.length).filter fun i => listedAs c l[i]? := by
  simp [listClass_eq_filter]

theorem Tables.image_eq_some_iff (t : Tables) (i : Nat) (g : ImageRegion) :
    t.image i = some g ↔ t.regions[i]? = some (.image g) := by
  unfold Tables.image
  split <;> simp_all

/-- No region of the scan list is FAILED. -/
theorem Tables.not_failed_of_mem_scanList {t : Tables} {r : Nat} {g : ImageRegion} (hr : r ∈ t.scanList)
    (hg : t.image r = some g) : g.state ≠ .failed := by
  have hmem : ∃ c, r ∈ listClass c t.regions 0 := by
    have h := List.mem_of_mem_take hr
    simp only [Tables.requiredList, List.mem_append] at h
    obtain (h | h) | h := h <;> exact ⟨_, h⟩
  obtain ⟨c, hc⟩ := hmem
  rw [listClass_zero, List.mem_filter, (t.image_eq_some_iff r g).1 hg] at hc
  obtain ⟨-, hlisted⟩ := hc
  simp only [listedAs, Bool.and_eq_true, decide_eq_true_eq] at hlisted
  exact hlisted.2

theorem Tables.bootComplete_iff (t : Tables) :
    t.bootComplete = true ↔ ∀ g, Region.image g ∈ t.regions → g.cls = .boot → g.state = .complete := by
  simp only [Tables.bootComplete, List.all_eq_true]
  constructor
  · intro h g hg hc
    simpa [hc] using h _ hg
  · intro h r hr
    cases r with
    | data d => rfl
    | image g => simpa [Classical.or_iff_not_imp_left] using h g hr

/-! ## The Scanner's steps leave the slots in use, its list and its pass (R149, R150) -/

section
variable {s u : State} {j : Fin 8}

theorem State.claimScan_slot (p : Purpose) (r k : Nat) (hj : (s.slot j).state ≠ .free) :
    (s.claimScan p r k).1.slot j = s.slot j := by
  unfold State.claimScan
  split
  · rfl
  · split
    · rfl
    · split
      · next i hi => rw [State.takeSlot_slot, if_neg fun h : i = j => hj (h ▸ State.lowestFree_free hi)]
      · rfl

theorem State.scanStep_slot {pos k : Nat} (hu : s.scanStep pos k = some u) (hj : (s.slot j).state ≠ .free) :
    u.slot j = s.slot j := by
  unfold State.scanStep at hu
  dsimp only at hu
  split at hu
  · cases hu; rfl
  · cases hu; rfl
  · next p r _ =>
    have hclaim := State.claimScan_slot p r k hj
    split at hu
    · next heq => cases hu; rw [heq] at hclaim; exact hclaim
    · next heq => cases hu; rw [heq] at hclaim; exact hclaim
    · cases hu

/-- Stepping moves the cursor and takes FREE slots. -/
theorem State.scanSteps_keeps (fuel : Nat) (s : State) :
    (State.scanSteps fuel s).scan.list = s.scan.list ∧ (State.scanSteps fuel s).scan.pass = s.scan.pass ∧
    ∀ j, (s.slot j).state ≠ .free → (State.scanSteps fuel s).slot j = s.slot j := by
  induction fuel generalizing s with
  | zero => exact ⟨rfl, rfl, fun _ _ => rfl⟩
  | succ n ih =>
    match hc : s.scan.cursor with
    | none => simp [State.scanSteps, hc]
    | some .endMark => simp [State.scanSteps, hc]
    | some (.at_ pos k) =>
      rw [State.scanSteps_succ hc]
      cases hu : s.scanStep pos k with
      | none => exact ⟨rfl, rfl, fun _ _ => rfl⟩
      | some u =>
        obtain ⟨-, c, hscan, -⟩ := State.scanStep_spec hu
        obtain ⟨hlist, hpass, hslot⟩ := ih u
        refine ⟨by rw [hlist, hscan], by rw [hpass, hscan], fun j hj => ?_⟩
        have hsame := State.scanStep_slot hu hj
        rw [hslot j (by rwa [hsame]), hsame]

end

@[simp] theorem State.endPass_list (s : State) : s.endPass.scan.list = s.scan.list := by
  unfold State.endPass
  split <;> rfl

@[simp] theorem State.scanResume_list (s : State) : s.scanResume.scan.list = s.scan.list := by
  rw [State.scanResume, State.endPass_list]
  split
  · exact (State.scanSteps_keeps _ s).1
  · rfl

/-- While a slot of the first pass is in use the pass goes on, and the Scanner leaves that slot to it. -/
theorem State.scanResume_of_outstanding {s : State} {i : Fin 8} (hp : s.scan.pass = .first)
    (hi : (s.slot i).state ≠ .free) (hpurpose : (s.slot i).purpose = some .scan) :
    s.scanResume.scan.pass = .first ∧ s.scanResume.slot i = s.slot i := by
  obtain ⟨-, hpass, hslot⟩ := State.scanSteps_keeps s.scanFuel s
  rw [hp] at hpass
  have hsame := hslot i hi
  have hany : (State.scanSteps s.scanFuel s).anySlot .scan = true :=
    (State.anySlot_iff _ _).2 ⟨i, by rwa [hsame], by rwa [hsame]⟩
  have hover : (State.scanSteps s.scanFuel s).passOver = false := by
    simp [State.passOver, State.outstanding, hpass, hany]
  have heq : s.scanResume = State.scanSteps s.scanFuel s := by
    simp [State.scanResume, hp, Pass.claims, State.endPass, hover]
  rw [heq]
  exact ⟨hpass, hsame⟩

/-- The first pass begins with a fill of the first chunk of its first region, where that is UNCHECKED, not held, and a slot is
FREE (R150). -/
theorem State.firstPass_claims {s : State} {r : Nat} {g : ImageRegion} {i : Fin 8} (hr : s.scan.list.head? = some r)
    (hg : s.tables.image r = some g) (hf : g.state ≠ .failed) (hu : s.tables.chunkState g.first = .unchecked)
    (hn : s.chunkHolder r 0 = none) (hi : s.lowestFree = some i) :
    (s.passBegun .first).scanResume.scan.pass = .first ∧
    (s.passBegun .first).scanResume.slot i = claimedSlot .scan r 0 (s.inUseCount + 1) none false (s.slot i).buffer := by
  have hne : s.scan.list ≠ [] := by
    intro h
    simp [h] at hr
  have hentry : s.scan.list[0]? = some r := by rwa [← List.head?_eq_getElem?]
  have hcursor : (s.passBegun .first).scan.cursor = some (.at_ 1 0) := by simp [State.passBegun, scanBegin, hne]
  have haction : (s.passBegun .first).scanAction 1 0 = .claim .scan r := by
    simp [State.scanAction, State.scanRegion, Scan.entry, State.passBegun, hentry, hg, hf, hu]
  have hclaim : (s.passBegun .first).claimScan .scan r 0 =
      ((s.passBegun .first).takeSlot i .scan (.chunk r 0) none false, .taken i) := by
    have hstate : (s.passBegun .first).chunkStateOf r 0 = .unchecked := by
      simp [State.chunkStateOf, State.passBegun, hg, hu]
    have hholder : (s.passBegun .first).chunkHolder r 0 = none := hn
    have hfree : (s.passBegun .first).lowestFree = some i := hi
    simp [State.claimScan, hstate, hholder, hfree]
  have hstep : (s.passBegun .first).scanStep 1 0 = some (((s.passBegun .first).takeSlot i .scan (.chunk r 0) none
      false).setCursor ((s.passBegun .first).scan.advance 1 0 ((s.passBegun .first).scanCount 1))) := by
    simp [State.scanStep, haction, hclaim]
  rw [State.scanResume_step (pos := 1) (k := 0) (r := r) rfl hcursor (Nat.le_refl 1) hentry, hstep]
  have htaken : (((s.passBegun .first).takeSlot i .scan (.chunk r 0) none false).setCursor
      ((s.passBegun .first).scan.advance 1 0 ((s.passBegun .first).scanCount 1))).slot i =
      claimedSlot .scan r 0 (s.inUseCount + 1) none false (s.slot i).buffer :=
    (State.takeSlot_slot _ _ _ _ _ _ _).trans (if_pos rfl)
  obtain ⟨hpass, hslot⟩ := State.scanResume_of_outstanding (i := i) (s := ((s.passBegun .first).takeSlot i .scan
    (.chunk r 0) none false).setCursor ((s.passBegun .first).scan.advance 1 0 ((s.passBegun .first).scanCount 1)))
    (by simp [State.setCursor, State.passBegun]) (by rw [htaken]; simp [claimedSlot]) (by rw [htaken]; rfl)
  exact ⟨hpass, hslot.trans htaken⟩

/-! ## The scan list in RELEASED (R15, R157) -/

@[simp] theorem State.releaseSlot_list (s : State) (i : Fin 8) : (s.releaseSlot i).scan.list = s.scan.list := by
  unfold State.releaseSlot
  dsimp only
  split <;> simp

@[simp] theorem State.releaseReserve_list (s : State) : s.releaseReserve.scan.list = s.scan.list := by
  unfold State.releaseReserve
  split <;> simp

@[simp] theorem State.latchGate_list (s : State) (cause : GateCause) : (s.latchGate cause).scan.list = s.scan.list := by
  unfold State.latchGate State.stopPatrol
  dsimp only
  split
  · rfl
  · split <;> simp

@[simp] theorem State.enterReleased_list (s : State) : s.enterReleased.scan.list = s.scan.list := by
  rw [State.enterReleased_eq]
  split <;> simp [State.releasing]

/-! ## The walk closed (R37 to R39) -/

/-- The part that has entered PREVERIFY with its scan list, before its first pass begins (R12, R38). -/
def State.walkClosed (s : State) (list : List Nat) : State :=
  ((s.withWalk { s.walk with outcome := some .success }).withBoot { s.boot with state := .preverify }).withScan
    { s.scan with list := list }

section
variable {u : State} (hb : u.boot.state = .walking) (hj : u.walk.job = .none) (ho : u.walk.outcome = none)
  (hst : u.walk.stack = [])
include hb hj ho hst

theorem State.walkOnAll_close : u.walkOnAll = u.closeWalk.walkOnAll := by
  rw [State.walkOnAll_step ((State.walkGoes_iff u).2 ⟨hb, hj, ho⟩), State.walkStep, hst]

theorem State.walkOnAll_overlap {i : Nat} (h : findOverlap (manifestChunk u.lines.fsz) [] 0 u.tables.regions = some i) :
    u.walkOnAll = (u.walkFault .overlap (.region i)).walkOnAll := by
  rw [State.walkOnAll_close hb hj ho hst, State.closeWalk, h]

variable (hclear : findOverlap (manifestChunk u.lines.fsz) [] 0 u.tables.regions = none)
include hclear

theorem State.walkOnAll_capacity {i : Nat} (h : u.tables.requiredList[8]? = some i) :
    u.walkOnAll = (u.walkFault .capacity (.region i)).walkOnAll := by
  rw [State.walkOnAll_close hb hj ho hst, State.closeWalk, hclear]
  simp only [h]

/-- The walk that closes with no fault brings PREVERIFY and its first pass, or RELEASED after it. -/
theorem State.walkOnAll_closes (h : u.tables.requiredList[8]? = none) : u.walkOnAll =
    if u.tables.bootComplete then ((u.walkClosed u.tables.scanList).passBegun .first).scanResume.enterReleased
    else ((u.walkClosed u.tables.scanList).passBegun .first).scanResume := by
  have hclose : u.closeWalk = (u.withScan { u.scan with list := u.tables.scanList }).withWalk
      { u.walk with outcome := some .success } := by
    rw [State.closeWalk, hclear]
    simp only [h]
  have hsuccess : u.closeWalk.walkOnAll = u.closeWalk.enterPreverify :=
    State.walkOnAll_success (by rw [hclose]; exact hb) (by rw [hclose]; rfl)
  rw [State.walkOnAll_close hb hj ho hst, hsuccess, hclose, State.enterPreverify, State.startPass_eq]
  simp only [State.scanResume_blocks]
  rfl

end

/-- Settles O46: a frame is popped (`State.walkOnAll_popFrame`), the close finds the first clash (`findOverlap_first`) or a ninth
required region, and else PREVERIFY begins its first pass (`State.walkOnAll_closes`, `State.firstPass_claims`). -/
theorem theWalkerPopsItsFramesAndCloses : Obligations.TheWalkerPopsItsFramesAndCloses := by
  intro u
  refine ⟨State.walkOnAll_of_stop, fun kind ref => State.walkOnAll_fault, fun hb hj ho => ⟨?_, ?_⟩⟩
  · intro f rest hst hn hp hs
    obtain ⟨hfreed, -, heq⟩ := State.releaseSlot_freed (s := u) (u := u.withWalk { u.walk with stack := rest })
      (i := f.slot) hp hs rfl rfl (fun _ _ => rfl) rfl
    exact ⟨u.popFrame f rest, State.walkOnAll_popFrame hb hj ho hst hn, hfreed, heq⟩
  · intro hst reach clash faulted listed required list
    have hfaulted : ∀ kind i, (u.walkFault kind (.region i)).walkOnAll = faulted kind i := fun kind i => by
      rw [State.walkFault, ← hj]
    have hlisted : ∀ c, listClass c u.tables.regions 0 = listed c := fun c => listClass_zero c _
    have hrequired : u.tables.requiredList = required := by rw [Tables.requiredList, hlisted, hlisted]
    have hlist : u.tables.scanList = list := by rw [Tables.scanList, hrequired, hlisted]
    refine ⟨fun i hi hfirst => ?_, fun hclash => ⟨fun i hi => ?_, fun hnine => ?_⟩⟩
    · rw [State.walkOnAll_overlap hb hj ho hst (findOverlap_first hi hfirst)]
      exact hfaulted _ _
    · rw [State.walkOnAll_capacity hb hj ho hst (findOverlap_none hclash) (by rw [hrequired]; exact hi)]
      exact hfaulted _ _
    · intro t
      have ht : t = _ := State.walkOnAll_closes hb hj ho hst (findOverlap_none hclash) (by rw [hrequired]; exact hnine)
      rw [hlist] at ht
      have hcomplete := u.tables.bootComplete_iff
      by_cases hboot : u.tables.bootComplete = true
      · rw [if_pos hboot] at ht
        have hnone : ¬ ∃ g, Region.image g ∈ u.tables.regions ∧ g.cls = .boot ∧ g.state ≠ .complete :=
          fun ⟨g, hg, hc, hs⟩ => hs (hcomplete.1 hboot g hg hc)
        rw [ht]
        refine ⟨?_, ?_, ?_, ?_, ?_, fun h => absurd h hnone, fun _ => ?_⟩ <;>
          simp [State.enterReleased_boot, State.enterReleased_lines, State.walkClosed, State.passBegun]
      · rw [if_neg hboot] at ht
        rw [ht]
        refine ⟨?_, ?_, ?_, ?_, ?_, fun _ => ⟨rfl, ?_, ?_, ?_, ?claims⟩, fun h => absurd (hcomplete.2 h) hboot⟩
        case claims =>
          intro r g i hr hg hu hn hi
          have hin : r ∈ u.tables.scanList := by
            rw [hlist]
            exact List.mem_of_mem_head? hr
          obtain ⟨hpass, hslot⟩ := State.firstPass_claims (s := u.walkClosed list) hr hg
            (Tables.not_failed_of_mem_scanList hin hg) hu hn hi
          exact ⟨hpass, by rw [hslot]; rfl, by rw [hslot]; rfl, by rw [hslot]; rfl⟩
        all_goals simp [State.walkClosed, State.passBegun]

end Sys2Proof.Machine
end

section
/-! The pieces of a digest list: the digests loaded, the next piece claimed, and the list confirmed or rejected (R29, R30, R35, R52,
R81). -/

namespace Sys2Proof.Machine

/-! ## Digests loaded (R52) -/

@[simp] theorem Tables.loadDigests_regions (t : Tables) (record n : Nat) (bytes : List Byte) :
    (t.loadDigests record n bytes).regions = t.regions := by
  induction n generalizing t record bytes with
  | zero => rfl
  | succ n ih =>
    rw [Tables.loadDigests, ih]
    split <;> rfl

/-- The first of the digests goes into its record, the others into the records after it. -/
theorem Tables.loadDigests_succ (t : Tables) (record n : Nat) (bytes : List Byte) :
    t.loadDigests record (n + 1) bytes =
      Tables.loadDigests { t with chunks := t.chunks.modify record fun c => { c with expected := some (bytes.take 16) } }
        (record + 1) n (bytes.drop 16) := by
  rw [Tables.loadDigests, List.modify_eq_set_getElem?]
  cases t.chunks[record]? <;> rfl

/-- A record in the range takes its 16 bytes, with its owner and state as they were; any other record stays. -/
theorem Tables.loadDigests_chunk (t : Tables) (record n : Nat) (bytes : List Byte) (m : Nat) :
    (t.loadDigests record n bytes).chunks[m]? = (t.chunks[m]?).map fun c =>
      if record ≤ m ∧ m < record + n then { c with expected := some ((bytes.drop (16 * (m - record))).take 16) }
      else c := by
  induction n generalizing t record bytes with
  | zero =>
    have hno : ¬ (record ≤ m ∧ m < record + 0) := by omega
    simp only [Tables.loadDigests, if_neg hno, Option.map_id']
  | succ n ih =>
    rw [Tables.loadDigests_succ, ih, List.getElem?_modify, Option.map_eq_map, Option.map_map]
    congr 1
    funext c
    rw [Function.comp_apply]
    by_cases hm : record = m
    · have hafter : ¬ (record + 1 ≤ m ∧ m < record + 1 + n) := by omega
      have hin : record ≤ m ∧ m < record + (n + 1) := by omega
      rw [if_neg hafter, if_pos hm, if_pos hin, hm, Nat.sub_self, Nat.mul_zero, List.drop_zero]
    · have hiff : (record + 1 ≤ m ∧ m < record + 1 + n) ↔ (record ≤ m ∧ m < record + (n + 1)) := by omega
      simp only [if_neg hm, hiff, List.drop_drop]
      split
      · next hin =>
        have hoffset : 16 + 16 * (m - (record + 1)) = 16 * (m - record) := by omega
        rw [hoffset]
      · rfl

/-- The digests of a piece go into records that exist, and the expected digests of the others stay. -/
theorem Tables.loadDigests_expected {t : Tables} {record n : Nat} (bytes : List Byte)
    (h : ∀ m, m < n → (t.chunks[record + m]?).isSome = true) :
    (∀ m, m < n → ((t.loadDigests record n bytes).chunks[record + m]?).map ChunkRecord.expected =
      some (some ((bytes.drop (16 * m)).take 16))) ∧
    ∀ m, m < record ∨ record + n ≤ m →
      ((t.loadDigests record n bytes).chunks[m]?).map ChunkRecord.expected =
        (t.chunks[m]?).map ChunkRecord.expected := by
  refine ⟨fun m hm => ?_, fun m hm => ?_⟩
  · obtain ⟨c, hc⟩ := Option.isSome_iff_exists.1 (h m hm)
    have hin : record ≤ record + m ∧ record + m < record + n := by omega
    rw [Tables.loadDigests_chunk, hc, Option.map_some, if_pos hin, Nat.add_sub_cancel_left]
    rfl
  · have hout : ¬ (record ≤ m ∧ m < record + n) := by omega
    simp [Tables.loadDigests_chunk, hout]

theorem Tables.loadDigests_outside (t : Tables) {record n m : Nat} (bytes : List Byte)
    (h : m < record ∨ record + n ≤ m) : (t.loadDigests record n bytes).chunks[m]? = t.chunks[m]? := by
  have hout : ¬ (record ≤ m ∧ m < record + n) := by omega
  simp [Tables.loadDigests_chunk, hout]

/-- Whatever of a record does not depend on its expected digest, as its owner and its state, stays. -/
theorem Tables.loadDigests_unseen {α : Type} (read : ChunkRecord → α)
    (h : ∀ c e, read { c with expected := e } = read c) (t : Tables) (record n : Nat) (bytes : List Byte) (m : Nat) :
    ((t.loadDigests record n bytes).chunks[m]?).map read = (t.chunks[m]?).map read := by
  rw [Tables.loadDigests_chunk, Option.map_map]
  congr 1
  funext c
  rw [Function.comp_apply]
  split
  · exact h c _
  · rfl

/-! ## A list piece hashed (R29, R81) -/

/-- The bytes of a list piece in its slot (R29). -/
def State.pieceBytes (s : State) (i : Fin 8) (j : ListJob) : List Byte :=
  Memory.bytes bufferDefault (s.slot i).buffer (2 * (j.loc % chunkWords)) (16 * j.pieceDigests)

/-- The list after a piece (R29). -/
def ListJob.afterPiece (j : ListJob) (bytes : List Byte) : ListJob :=
  { j with loc := j.loc + 8 * j.pieceDigests, left := j.left - j.pieceDigests, record := j.record + j.pieceDigests
           running := shaUpdate j.running bytes }

/-- The tables after a piece. -/
def State.pieceTables (s : State) (i : Fin 8) (j : ListJob) : Tables :=
  s.tables.loadDigests j.record j.pieceDigests (s.pieceBytes i j)

/-- The part with a piece in its tables and its list at the next (R29). -/
def State.pieceEntered (s : State) (i : Fin 8) (j : ListJob) : State :=
  (s.withTables (s.pieceTables i j)).withWalk { s.walk with job := .list (j.afterPiece (s.pieceBytes i j)) }

/-- The part with a piece entered, before the walker claims the next one or judges the list; the piece's slot is given back in the
Chunk Verifier `v` and the arbiter `a`. -/
def State.pieceLoaded (s : State) (i : Fin 8) (j : ListJob) (v : Verifier) (a : Arbiter) : State :=
  ((s.pieceEntered i j).withVerifier v).withArbiter a

/-- No claim is made as the slot of a piece is given back, so that the engine rests and nothing more is queued. -/
theorem State.pieceHashed_eq {s : State} (hs : s.scan.pass = .none) (hd : s.verifier.pendingDemand = none) (i : Fin 8)
    (j : ListJob) : ∃ v a, v.slots[i].state = .free ∧ v.engine = none ∧ v.hashQueue = s.verifier.hashQueue ∧
      s.pieceHashed i j = if j.left - j.pieceDigests = 0 then
          (s.pieceLoaded i j v a).finishList (j.afterPiece (s.pieceBytes i j))
        else (s.pieceLoaded i j v a).claimPiece (j.afterPiece (s.pieceBytes i j)) := by
  obtain ⟨⟨hslot, -, -⟩, hwork, heq⟩ := State.releaseSlot_freed (s := s) (i := i) (u := (s.pieceEntered i j).engineIdle)
    hd hs rfl rfl (fun _ _ => rfl) rfl
  refine ⟨((s.pieceEntered i j).engineIdle.releaseSlot i).verifier, ((s.pieceEntered i j).engineIdle.releaseSlot i).arbiter,
    congrArg Slot.state hslot, congrArg (·.2.1) hwork, congrArg (·.1) hwork, ?_⟩
  exact congrArg (fun u : State => if j.left - j.pieceDigests = 0 then
    u.finishList (j.afterPiece (s.pieceBytes i j)) else u.claimPiece (j.afterPiece (s.pieceBytes i j))) heq

theorem State.lowestFree_of_free {s : State} {i : Fin 8} (h : (s.slot i).state = .free) : ∃ n, s.lowestFree = some n := by
  rw [State.lowestFree, ← Option.isSome_iff_exists, List.find?_isSome]
  exact ⟨i, mem_allSlots i, by simp [Slot.inUse, h]⟩

/-- LIST_PIECE_HASH_COMPLETE for a piece of the list the walker waits for. -/
theorem exec_listPieceHashComplete {s : State} {i : Fin 8} {j : ListJob} (hj : s.walk.job = .list j)
    (he : s.verifier.engine = some i) (hp : (s.slot i).purpose = some .list) :
    exec .listPieceHashComplete s = .next (s.pieceHashed i j).engineNext := by
  have hhashed : s.listHashed = (s.pieceHashed i j).engineNext := by
    simp only [State.listHashed, State.hashed_of_engine he, hj, hp, if_true]
  exact congrArg Host.Outcome.next hhashed

/-! ## The list judged (R30, R35) -/

section
variable {s : State} {j : ListJob} {g : ImageRegion} {f : Frame} {rest : List Frame}
  (hg : s.tables.image j.region = some g) (hst : s.walk.stack = f :: rest)
include hg hst

/-- A list whose hash is the entry's: its region is CHECKING, and its entry taken. -/
theorem State.finishList_confirms (h : shaFinish j.running = j.hash) : s.finishList j =
    ((s.withTables (s.tables.setImage j.region { g with state := .checking })).withWalk
      { s.walk with stack := { f with next := f.next + 1 } :: rest, job := .none }).walkOnAll := by
  rw [State.finishList, if_pos h, Tables.confirmList, hg]
  exact congrArg State.walkOnAll (State.entryDone_eq hst)

/-- A list whose hash is another: its region is FAILED with its chunks, BAD is set, and the class rule judges the entry. -/
theorem State.finishList_rejects (h : shaFinish j.running ≠ j.hash) : s.finishList j =
    (((s.withTables (s.tables.rejectList j.region)).badReport).withWalk
      (if g.cls = .optional then { s.walk with stack := { f with next := f.next + 1 } :: rest, job := .none }
       else s.walk.rejected f rest true .listBad)).walkOnAll := by
  have hstack : (s.withTables (s.tables.rejectList j.region)).badReport.walk.stack = f :: rest := hst
  rw [State.finishList, if_neg h]
  simp only [hg, State.reject_eq hstack]
  cases g.cls <;> rfl

end

section
variable {t : Tables} {i : Nat} {g : ImageRegion} (hg : t.image i = some g)
include hg

/-- A rejected list fails its region and every record of it. -/
theorem Tables.rejectList_eq : t.rejectList i =
    { regions := t.regions.set i (.image { g with state := .failed, bad := g.count })
      chunks := t.chunks.map fun c => if c.owner = i then { c with state := .bad } else c } := by
  rw [Tables.rejectList, hg]
  rfl

/-- A rejected list leaves the expected digests of its records. -/
theorem Tables.rejectList_expected (m : Nat) :
    ((t.rejectList i).chunks[m]?).map ChunkRecord.expected = (t.chunks[m]?).map ChunkRecord.expected := by
  rw [Tables.rejectList_eq hg, List.getElem?_map, Option.map_map]
  congr 1
  funext c
  rw [Function.comp_apply]
  split <;> rfl

theorem Tables.rejectList_state (m : Nat) : ((t.rejectList i).chunks[m]?).map ChunkRecord.state =
    (t.chunks[m]?).map fun c => if c.owner = i then .bad else c.state := by
  rw [Tables.rejectList_eq hg, List.getElem?_map, Option.map_map]
  congr 1
  funext c
  rw [Function.comp_apply]
  split <;> rfl

end

/-- Settles O39: `State.pieceLoaded` is what the event leaves of the tables and the piece's slot; a piece that is not the last finds
that slot, or a lower one, FREE for the next (`State.claimPiece_of_free`), and the last brings the list's judgement
(`State.finishList_confirms`, `State.finishList_rejects`). -/
theorem aListPieceLoadsItsDigests : Obligations.AListPieceLoadsItsDigests := by
  intro s i j b hb ha hj he hp hs hd hq n hrecords bytes running loaded
  have hloaded : loaded (s.pieceTables i j) := Tables.loadDigests_expected _ hrecords
  have hregions : (s.pieceTables i j).regions = s.tables.regions := Tables.loadDigests_regions _ _ _ _
  obtain ⟨v, a, hfree, heng, hque, hpiece⟩ := State.pieceHashed_eq hs hd i j
  rw [hq] at hque
  have hexec := exec_listPieceHashComplete hj he hp
  rw [hpiece] at hexec
  refine ⟨fun hmore => ?_, ?_⟩
  · obtain ⟨q, hfirst⟩ := State.lowestFree_of_free (s := s.pieceLoaded i j v a) (i := i) hfree
    obtain ⟨hslot, -, -⟩ := (s.pieceLoaded i j v a).takeSlot_intake (.inl rfl)
      (.piece b ((j.afterPiece (s.pieceBytes i j)).loc / chunkWords)) q
    have hleft : ¬ j.left - j.pieceDigests = 0 := Nat.sub_ne_zero_of_lt hmore
    rw [if_neg hleft, State.claimPiece_of_free (s := s.pieceLoaded i j v a) ha hfirst,
      State.engineNext_of_empty (by exact hque)] at hexec
    refine ⟨_, hexec, State.takeSlot_eq _ _ _ _ _ _, rfl, hregions, hloaded,
      fun m hm => Tables.loadDigests_outside _ _ hm, heng, q, ?_⟩
    rw [hslot]
    exact ⟨rfl, rfl, rfl⟩
  · intro g f rest hlast hg hst entryDone
    have hleft : j.left - j.pieceDigests = 0 := Nat.sub_eq_zero_of_le hlast
    rw [if_pos hleft] at hexec
    have himage : (s.pieceTables i j).image j.region = some g := by
      rwa [Tables.image_eq_some_iff, hregions, ← Tables.image_eq_some_iff]
    refine ⟨fun hmatch => ?_, fun hother => ?_⟩
    · rw [State.finishList_confirms (s := s.pieceLoaded i j v a) (j := j.afterPiece (s.pieceBytes i j)) himage
        hst hmatch, State.engineNext_walkOnAll (by exact hque)] at hexec
      refine ⟨_, hexec, rfl, ?_, hloaded, fun m => ?_, heng, hfree⟩
      · exact congrArg (·.set j.region (.image { g with state := .checking })) hregions
      · exact Tables.loadDigests_unseen _ (fun _ _ => rfl) _ _ _ _ _
    · rw [State.finishList_rejects (s := s.pieceLoaded i j v a) (j := j.afterPiece (s.pieceBytes i j)) himage
        hst hother, State.engineNext_walkOnAll (by exact hque)] at hexec
      have hexpected := Tables.rejectList_expected himage
      obtain ⟨hin, hout⟩ := hloaded
      refine ⟨_, hexec, rfl, rfl, ?_, ⟨fun m hm => (hexpected _).trans (hin m hm),
        fun m hm => (hexpected m).trans (hout m hm)⟩, fun m k hk => ?_, heng, hfree⟩
      · exact (congrArg Tables.regions (Tables.rejectList_eq himage)).trans
          (congrArg (·.set j.region (.image { g with state := .failed, bad := g.count })) hregions)
      · refine (Tables.rejectList_state himage m).trans ((Tables.loadDigests_unseen _ (fun _ _ => rfl) _ _ _ _ m).trans ?_)
        rw [hk]
        rfl

end Sys2Proof.Machine
end

section
/-! The chunk records: the verdict on a chunk by its state, what it leaves of the part in RELEASED, and what no command undoes there
(R47 to R49, R52 to R54). -/

namespace Sys2Proof.Machine

/-! ## Verdicts (R53) -/

section
variable (t : Tables) (i : Nat) (g : ImageRegion) (record : Nat) (digest : List Byte)

/-- A verdict writes at most the record of a chunk that is not BAD, and the record of its region. -/
theorem Tables.verdict_tables : (t.verdict i g record digest).1 = t ∨
    ∃ (k : ChunkRecord) (st : ChunkState) (g' : ImageRegion), t.chunks[record]? = some k ∧ k.state ≠ .bad ∧
      (t.verdict i g record digest).1 = (t.setChunkState record st).setImage i g' := by
  cases hk : t.chunks[record]? with
  | none => exact .inl (by simp only [Tables.verdict, hk])
  | some k =>
    cases he : k.expected with
    | none => exact .inl (by simp only [Tables.verdict, hk, he])
    | some e =>
      cases hst : k.state with
      | bad => exact .inl (by simp only [Tables.verdict, hk, he, hst])
      | unchecked =>
        refine .inr ⟨k, if digest = e then .good else .bad, if digest = e then g.afterGood else g.afterBad false, rfl,
          by simp [hst], ?_⟩
        simp only [Tables.verdict, hk, he, hst]
        split <;> rfl
      | good =>
        by_cases hd : digest = e
        · exact .inl (by simp only [Tables.verdict, hk, he, hst, if_pos hd])
        · exact .inr ⟨k, .bad, g.afterBad true, rfl, by simp [hst], by simp only [Tables.verdict, hk, he, hst, if_neg hd]⟩

end

section
variable {t : Tables} {g : ImageRegion} {k : ChunkRecord} {e digest : List Byte} {record : Nat} (i : Nat)
  (hk : t.chunks[record]? = some k) (he : k.expected = some e)
include hk

theorem Tables.setChunkState_of_record (st : ChunkState) :
    t.setChunkState record st = { t with chunks := t.chunks.set record { k with state := st } } := by
  simp only [Tables.setChunkState, hk]

include he

/-- A GOOD chunk proven again (R53). -/
theorem Tables.verdict_reproven (hg : k.state = .good) (hd : digest = e) :
    t.verdict i g record digest = (t, false, none) := by
  simp only [Tables.verdict, hk, he, hg, if_pos hd]

/-- A GOOD chunk found BAD on patrol (R48, R53). -/
theorem Tables.verdict_patrol_mismatch (hg : k.state = .good) (hd : digest ≠ e) : t.verdict i g record digest =
    ((t.setChunkState record .bad).setImage i (g.afterBad true), true, regionChange i g (g.afterBad true)) := by
  simp only [Tables.verdict, hk, he, hg, if_neg hd]

/-- A verdict on a BAD chunk is discarded (R53). -/
theorem Tables.verdict_of_bad (hb : k.state = .bad) : t.verdict i g record digest = (t, false, none) := by
  simp only [Tables.verdict, hk, he, hb]

end

/-! ## BAD records kept (R54) -/

/-- Every record that reads as BAD in `t` does so in `u`. -/
def Tables.keepsBad (t u : Tables) : Prop := ∀ k, t.chunkState k = .bad → u.chunkState k = .bad

theorem Tables.chunkState_eq (t : Tables) (k : Nat) :
    t.chunkState k = ((t.chunks[k]?).map ChunkRecord.state).getD .bad := by
  unfold Tables.chunkState
  cases t.chunks[k]? <;> rfl

section
variable {t u v : Tables}

theorem Tables.keepsBad_of_eq (h : u = t) : t.keepsBad u := fun _ hk => h ▸ hk

theorem Tables.keepsBad_trans (h1 : t.keepsBad u) (h2 : u.keepsBad v) : t.keepsBad v := fun k hk => h2 k (h1 k hk)

/-- Tables whose records have the same states keep the BAD ones. -/
theorem Tables.keepsBad_of_states
    (h : ∀ k : Nat, (u.chunks[k]?).map ChunkRecord.state = (t.chunks[k]?).map ChunkRecord.state) : t.keepsBad u := by
  intro k hk
  rwa [Tables.chunkState_eq, h k, ← Tables.chunkState_eq]

/-- A record that is not BAD may be moved to any state. -/
theorem Tables.setChunkState_keepsBad {record : Nat} {c : ChunkRecord} (hc : t.chunks[record]? = some c)
    (hn : c.state ≠ .bad) (st : ChunkState) : t.keepsBad (t.setChunkState record st) := by
  intro k hk
  by_cases e : record = k
  · subst e
    simp [Tables.chunkState_eq, hc, hn] at hk
  · simpa [Tables.chunkState_eq, Tables.setChunkState_of_record hc, List.getElem?_set_ne e] using hk

theorem Tables.verdict_keepsBad (t : Tables) (i : Nat) (g : ImageRegion) (record : Nat) (digest : List Byte) :
    t.keepsBad (t.verdict i g record digest).1 := by
  rcases t.verdict_tables i g record digest with h | ⟨k, st, g', hk, hn, h⟩ <;> rw [h]
  · exact Tables.keepsBad_of_eq rfl
  · exact Tables.setChunkState_keepsBad hk hn st

theorem Tables.loadDigests_keepsBad (t : Tables) (record n : Nat) (bytes : List Byte) :
    t.keepsBad (t.loadDigests record n bytes) :=
  Tables.keepsBad_of_states (t.loadDigests_unseen ChunkRecord.state (fun _ _ => rfl) record n bytes)

theorem Tables.confirmList_keepsBad (t : Tables) (i : Nat) : t.keepsBad (t.confirmList i) := by
  unfold Tables.confirmList
  split
  · exact Tables.keepsBad_of_states fun _ => rfl
  · exact Tables.keepsBad_of_eq rfl

theorem Tables.rejectList_keepsBad (t : Tables) (i : Nat) : t.keepsBad (t.rejectList i) := by
  cases hi : t.image i with
  | none => exact Tables.keepsBad_of_eq (by simp only [Tables.rejectList, hi])
  | some g =>
    intro k hk
    rw [Tables.chunkState_eq] at hk ⊢
    rw [Tables.rejectList_state hi k]
    cases hc : t.chunks[k]? with
    | none => rfl
    | some c =>
      have hbad : c.state = .bad := by simpa [hc] using hk
      simp [hbad]

end

/-! ## RELEASED: no walk and no selection -/

section
variable {s : State} (hb : s.boot.state = .released)
include hb

theorem State.walkOnAll_of_released : s.walkOnAll = s := State.walkOnAll_of_stop (.inl (by simp [hb]))

theorem State.endSelecting_of_released : s.endSelecting = s := State.endSelecting_of_not (.inl (by simp [hb]))

theorem State.rejectRoot_tables_of_released (k : Bank) (i : Fin 8) : (s.rejectRoot k i).tables = s.tables := by
  rw [State.rejectRoot, State.endSelecting_of_released (by simpa using hb)]
  simp

theorem State.dropDelegate_tables_of_released (j : DelegateJob) : (s.dropDelegate j).tables = s.tables := by
  rw [State.dropDelegate, State.walkOnAll_of_released (by simpa using hb)]
  simp

theorem State.rootFilled_tables_of_released (k : Bank) (i : Fin 8) : (s.rootFilled k i).tables = s.tables := by
  unfold State.rootFilled
  split
  · simp
  · exact State.rejectRoot_tables_of_released hb k i

theorem State.delegateFilled_tables_of_released (j : DelegateJob) : (s.delegateFilled j).tables = s.tables := by
  unfold State.delegateFilled
  split
  · simp
  · exact State.dropDelegate_tables_of_released hb j

theorem State.manifestFilled_tables_of_released (i : Fin 8) : (s.manifestFilled i).tables = s.tables := by
  unfold State.manifestFilled
  split
  · exact State.rootFilled_tables_of_released hb _ i
  · split
    · split
      · exact State.delegateFilled_tables_of_released hb _
      · rfl
    · rfl

theorem State.burstCounted_tables_of_released (i : Fin 8) : (s.burstCounted i).tables = s.tables := by
  unfold State.burstCounted
  dsimp only
  split
  · simp
  · split
    · rw [State.manifestFilled_tables_of_released (by simpa using hb)]
      simp
    · simp

theorem State.burstEnds_tables_of_released : s.burstEnds.tables = s.tables := by
  unfold State.burstEnds
  split
  · split
    · dsimp only
      split
      · rw [State.burstCounted_tables_of_released (by simpa using hb)]
        simp
      · simp
    · rfl
  · rfl

theorem State.rootKeyed_tables_of_released (k : Bank) (i : Fin 8) (d : List Byte) :
    (s.rootKeyed k i d).tables = s.tables := by
  unfold State.rootKeyed
  split
  · simp
  · exact State.rejectRoot_tables_of_released hb k i

theorem State.delegateKeyed_tables_of_released (j : DelegateJob) (d : List Byte) :
    (s.delegateKeyed j d).tables = s.tables := by
  unfold State.delegateKeyed
  split
  · simp
  · exact State.dropDelegate_tables_of_released hb j

theorem State.keyHashed_tables_of_released : s.keyHashed.tables = s.tables := by
  have hpass (i : Fin 8) : (s.passDone i).boot.state = .released := by simpa using hb
  unfold State.keyHashed
  split
  · dsimp only
    split
    · simp [State.rootKeyed_tables_of_released (hpass _)]
    · split
      · simp [State.delegateKeyed_tables_of_released (hpass _)]
      · rfl
    · rfl
  · rfl

theorem State.checked_tables_of_released (q : CheckRequest) (pass : Bool) : (s.checked q pass).tables = s.tables := by
  unfold State.checked
  split
  · split
    · rw [State.endSelecting_of_released (by simpa using hb)]
      simp
    · exact State.rejectRoot_tables_of_released hb _ _
  · split
    · split
      · rw [State.walkOnAll_of_released (by simpa using hb)]
        simp
      · exact State.dropDelegate_tables_of_released hb _
    · rfl
  · rfl

theorem State.checkEnds_tables_of_released : s.checkEnds.tables = s.tables := by
  unfold State.checkEnds
  split
  · rw [State.checked_tables_of_released (by simpa using hb)]
    simp
  · rfl

theorem State.intakeExpires_tables_of_released : s.intakeExpires.tables = s.tables := by
  have hi : ¬ s.timerWraps.boot.state.intake = true := by simp [hb, BootState.intake]
  unfold State.intakeExpires
  dsimp only
  rw [if_neg hi]
  split
  · simp
  · rfl

theorem State.tickTimer_tables_of_released : s.tickTimer.tables = s.tables := by
  unfold State.tickTimer
  split
  · split
    · split
      · exact State.intakeExpires_tables_of_released hb
      · simp
      · simp
    · simp
  · rfl

theorem State.tick_tables_of_released : s.tick.tables = s.tables := by
  simp [State.tick, State.tickTimer_tables_of_released hb]

end

/-! ## RELEASED: the hash engine's completions -/

/-- A verdict's tables with its bad report, before the Boot Controller acts on a region change (R49). -/
def State.verdictRecorded (s : State) (t : Tables) (bad : Bool) (record : Nat) : State :=
  if bad then (s.withTables t).badReport.endHeldOnBad record else s.withTables t

@[simp] theorem State.verdictRecorded_blocks (s : State) (t : Tables) (bad : Bool) (record : Nat) :
    (s.verdictRecorded t bad record).lines = s.lines ∧ (s.verdictRecorded t bad record).boot = s.boot ∧
    (s.verdictRecorded t bad record).alerts = (if bad then { s.alerts with bad := true } else s.alerts) ∧
    (s.verdictRecorded t bad record).walk = s.walk ∧ (s.verdictRecorded t bad record).tables = t := by
  cases bad <;> simp [State.verdictRecorded, State.badReport]

theorem State.takeVerdict_eq {s : State} {r c : Nat} {g : ImageRegion} (hi : s.tables.image r = some g)
    (digest : List Byte) :
    let v := s.tables.verdict r g (g.first + c) digest
    let u := s.verdictRecorded v.1 v.2.1 (g.first + c)
    s.takeVerdict r c digest = v.2.2.elim u fun x => u.regionChanged x.2 := by
  simp only [State.takeVerdict, hi, State.verdictRecorded]
  cases (s.tables.verdict r g (g.first + c) digest).2.2 <;> rfl

section
variable {s : State} (hb : s.boot.state = .released)
include hb

/-- A region change in RELEASED moves the gate, and neither the boot state nor the tables (R16). -/
theorem State.regionChanged_of_released (g : ImageRegion) :
    (s.regionChanged g).lines = s.lines ∧ (s.regionChanged g).boot = s.boot ∧ (s.regionChanged g).alerts = s.alerts ∧
    (s.regionChanged g).walk = s.walk ∧ (s.regionChanged g).tables = s.tables := by
  cases hg : g.state with
  | loading | checking | complete => simp [State.regionChanged, hb, hg]
  | failed =>
    simp only [State.regionChanged, hb, hg]
    split <;> simp

/-- A verdict in RELEASED: the tables are those of R47, R48 and R53, and a bad report sets BAD (R49). -/
theorem State.takeVerdict_of_released {r c : Nat} {g : ImageRegion} (hi : s.tables.image r = some g) (digest : List Byte) :
    let v := s.tables.verdict r g (g.first + c) digest
    let t := s.takeVerdict r c digest
    t.lines = s.lines ∧ t.boot = s.boot ∧ t.alerts = (if v.2.1 then { s.alerts with bad := true } else s.alerts) ∧
    t.walk = s.walk ∧ t.tables = v.1 := by
  intro v t
  obtain ⟨hlines, hboot, halerts, hwalk, htables⟩ := s.verdictRecorded_blocks v.1 v.2.1 (g.first + c)
  have ht : t = v.2.2.elim _ _ := State.takeVerdict_eq hi digest
  rw [ht]
  cases v.2.2 with
  | none => exact ⟨hlines, hboot, halerts, hwalk, htables⟩
  | some x =>
    obtain ⟨hl, hbt, ha, hw, htb⟩ :=
      State.regionChanged_of_released (s := s.verdictRecorded v.1 v.2.1 (g.first + c)) (by simpa using hb) x.2
    exact ⟨hl.trans hlines, hbt.trans hboot, ha.trans halerts, hw.trans hwalk, htb.trans htables⟩

theorem State.takeVerdict_keepsBad (r c : Nat) (digest : List Byte) :
    s.tables.keepsBad (s.takeVerdict r c digest).tables := by
  cases hi : s.tables.image r with
  | none => exact Tables.keepsBad_of_eq (by simp only [State.takeVerdict, hi])
  | some g =>
    obtain ⟨-, -, -, -, htables⟩ := State.takeVerdict_of_released hb (c := c) hi digest
    rw [htables]
    exact s.tables.verdict_keepsBad r g (g.first + c) digest

theorem State.chunkHashed_keepsBad : s.tables.keepsBad s.chunkHashed.tables := by
  unfold State.chunkHashed
  split
  · split
    · simpa using State.takeVerdict_keepsBad hb _ _ _
    all_goals exact Tables.keepsBad_of_eq rfl
  · exact Tables.keepsBad_of_eq rfl

theorem State.finishList_keepsBad (j : ListJob) : s.tables.keepsBad (s.finishList j).tables := by
  unfold State.finishList
  split
  · rw [State.walkOnAll_of_released (by simpa using hb)]
    simpa using s.tables.confirmList_keepsBad j.region
  · rw [State.walkOnAll_of_released (by simpa using hb)]
    simpa using s.tables.rejectList_keepsBad j.region

theorem State.pieceHashed_keepsBad (i : Fin 8) (j : ListJob) : s.tables.keepsBad (s.pieceHashed i j).tables := by
  have hload := s.tables.loadDigests_keepsBad j.record j.pieceDigests
    (Memory.bytes bufferDefault (s.slot i).buffer (2 * (j.loc % chunkWords)) (16 * j.pieceDigests))
  unfold State.pieceHashed
  dsimp only
  split
  · exact Tables.keepsBad_trans (by simpa using hload) (State.finishList_keepsBad (by simpa using hb) _)
  · simpa using hload

theorem State.listHashed_keepsBad : s.tables.keepsBad s.listHashed.tables := by
  unfold State.listHashed
  split
  · split
    · simpa using State.pieceHashed_keepsBad hb _ _
    · exact Tables.keepsBad_of_eq rfl
  · exact Tables.keepsBad_of_eq rfl

end

/-! ## Every command -/

/-- A command's answer on the Service Link reaches the tables only by the command's own effect. -/
theorem State.answerFrame_tables {s : State} {act : State × List Byte} (h : act.1.tables = s.tables) :
    (s.answerFrame act).tables = s.tables := by
  unfold State.answerFrame
  split
  · split
    · exact h
    · rfl
  all_goals rfl

section
variable {s : State} (hb : s.boot.state = .released)
include hb

/-- A command that finds RELEASED and leaves it so keeps the BAD records: one that ends a part reset clears the tables, and does
not leave RELEASED (`State.endReset_outputs`). -/
theorem exec_keepsBad {c : Instr} {t : State} (ht : t.boot.state = .released) (h : exec c s = .next t) :
    s.tables.keepsBad t.tables := by
  have htables {u : State} (hu : .next u = (.next t : Host.Outcome State Fault Refusal)) (he : u.tables = s.tables) :
      s.tables.keepsBad t.tables := Tables.keepsBad_of_eq (by rw [next_inj hu, he])
  cases c with
  -- the commands that reach the tables
  | partResetEnd fsz swl low =>
    have hu := next_inj h
    split at hu
    · rcases s.endReset_outputs fsz swl low with ⟨hs, -⟩ | ⟨hs, -⟩ <;> simp [hu, hs] at ht
    · exact Tables.keepsBad_of_eq (by rw [hu])
  | chunkHashComplete => rw [next_inj h]; exact State.chunkHashed_keepsBad hb
  | listPieceHashComplete => rw [next_inj h]; exact State.listHashed_keepsBad hb
  -- the commands that move the walk, which goes only in the intake states
  | intakeDeadlineExpiry => exact htables h (State.intakeExpires_tables_of_released hb)
  | burstComplete => exact htables h (State.burstEnds_tables_of_released hb)
  | keyPassComplete => exact htables h (State.keyHashed_tables_of_released hb)
  | signatureCheckEnd => exact htables h (State.checkEnds_tables_of_released hb)
  -- the others
  | supplyWarningRise | cpReadArrival _ | cpWriteArrival _ _ | elIdent | elUnknownCommand _ =>
    exact htables h (by split <;> simp)
  | slStatus | slRegion _ | slChunks _ _ | slCapture | slCounters | slKeys | slProvision _ _ | slRevoke _ | slClose
  | slLock | slWipe | slPatrol | slUnknown _ =>
    exact htables h (State.answerFrame_tables (by simp))
  | powerOn _ | nrstFall | brownOutFall | brownOutRecovery | supplyWarningFall | crstInAssert | crstInDeassert
  | bootDeadlineExpiry | patrolIntervalExpiry | pgateHalfPeriod | flashGrant | burstWordBoundary | spanPassComplete
  | cpWordReturn | cpReadAbandon | cpAccessEnd | sequenceSent | flashOperationEnd _ _ | pollPairComplete | pollRetryTick
  | wipeSectorStart | elFrameBegin | elRead _ | elStatus | elReadByteBoundary | elStatusByteBoundary | elWordReturn
  | elFrameEnd | slFrameEnd | slFrameBegin | fuseStepEnd | fuseOperationEnd =>
    exact htables h (by simp)

end

/-- Settles O13: of the commands, only a verdict and a digest list reach the records in RELEASED, and neither takes BAD away
(`Tables.verdict_keepsBad`, `Tables.rejectList_keepsBad`); the walker and the fallback do not run there. -/
theorem aBadChunkStaysBad : Obligations.ABadChunkStaysBad := by
  intro s t k hs ht h
  suffices hkeeps : s.tables.keepsBad t.tables from hkeeps k
  obtain rfl | ⟨c, rest, h⟩ := step_cases h
  · exact Tables.keepsBad_of_eq (State.tick_tables_of_released hs)
  · exact exec_keepsBad (s := s.withPending rest) hs ht h

/-- Settles O35: giving the slot back moves none of the blocks of the claim, so that the tables and the alert conditions are those of
the verdict in RELEASED (`State.takeVerdict_of_released`), by the record's state and the digest. -/
theorem aChunkVerdictMovesTheTables : Obligations.AChunkVerdictMovesTheTables := by
  intro s i r c g k e hb heng hcont himg hrec hexp good move
  have hexec : exec .chunkHashComplete s =
      .next ((s.takeVerdict r c (s.slotDigest i)).completeHash i r c).readAhead :=
    congrArg Host.Outcome.next (State.chunkHashed_eq heng hcont)
  have hmove (st : ChunkState) (g' : ImageRegion) :
      (s.tables.setChunkState (g.first + c) st).setImage r g' = move st g' := by
    rw [Tables.setChunkState_of_record hrec]
    rfl
  obtain ⟨hlines, hboot, halerts, hwalk, htables⟩ := State.takeVerdict_of_released hb (c := c) himg (s.slotDigest i)
  refine ⟨_, hexec, ?_⟩
  simp only [State.readAhead_blocks, State.completeHash_blocks, State.takeVerdict_blocks, hlines, hboot, halerts, hwalk,
    htables, hb, true_and]
  refine ⟨fun hst hgood => ?_, fun hst hbad => ?_, fun hst hgood => ?_, fun hst hbad => ?_, fun hst => ?_⟩
  · have hd : s.slotDigest i = e := of_decide_eq_true hgood
    rw [Tables.verdict_match r hrec hexp hst hd, hmove]
    exact ⟨rfl, rfl⟩
  · have hd : s.slotDigest i ≠ e := of_decide_eq_false hbad
    rw [Tables.verdict_mismatch r hrec hexp hst hd]
    exact ⟨rfl, rfl⟩
  · have hd : s.slotDigest i = e := of_decide_eq_true hgood
    rw [Tables.verdict_reproven r hrec hexp hst hd]
    exact ⟨rfl, rfl⟩
  · have hd : s.slotDigest i ≠ e := of_decide_eq_false hbad
    rw [Tables.verdict_patrol_mismatch r hrec hexp hst hd, hmove]
    exact ⟨rfl, rfl⟩
  · rw [Tables.verdict_of_bad r hrec hexp hst]
    exact ⟨rfl, rfl⟩

end Sys2Proof.Machine
end

section
/-! The slots and the chunks they hold: no claim puts a region chunk into a second slot, and while a demand is pending no slot is FREE
or can be preempted (R64, R67 to R71, R75). -/

namespace Sys2Proof.Machine

/-! ## What the law asks of the Chunk Verifier -/

/-- No two slots hold one region chunk, and a FREE slot holds nothing: the law but for the pending demand. -/
def State.chunksApart (s : State) : Prop :=
  (∀ i j : Fin 8, ∀ r c, (s.slot i).content = some (.chunk r c) → (s.slot j).content = some (.chunk r c) → i = j) ∧
  ∀ i : Fin 8, (s.slot i).state = .free → (s.slot i).content = none

/-- A slot's record after a change that is no claim: it holds what it held, and it has become neither FREE nor a possible victim. -/
def Slot.claimKept (v w : Slot) : Prop :=
  w.content = v.content ∧ (w.state = .free → v.state = .free) ∧ (w.eligible = true → v.eligible = true)

/-- The Chunk Verifier after a change that makes no claim and gives back no slot. -/
def Verifier.claimsKept (v w : Verifier) : Prop :=
  (∀ i : Fin 8, v.slots[i].claimKept w.slots[i]) ∧
  ∀ d, w.pendingDemand = some d → ∃ d', v.pendingDemand = some d' ∧ d'.region = d.region ∧ d'.index = d.index

theorem Slot.claimKept_refl (v : Slot) : v.claimKept v := ⟨rfl, id, id⟩

/-- A record with the claim's content in a state in which no fill runs (R64, R70). -/
theorem Slot.claimKept_of_state {v w : Slot} (hc : w.content = v.content) (hf : w.state ≠ .free)
    (hn : w.state ≠ .filling) : v.claimKept w :=
  ⟨hc, fun h => absurd h hf, fun h => absurd ((Slot.eligible_iff w).1 h).1 hn⟩

section
variable {s t : State}

theorem State.slotLaw_iff (s : State) : s.slotLaw ↔ s.chunksApart ∧ ∀ d, s.verifier.pendingDemand = some d →
    ∀ i, (s.slot i).state ≠ .free ∧ (s.slot i).eligible = false ∧ (s.slot i).content ≠ some (.chunk d.region d.index) :=
  and_assoc.symm

theorem State.slotLaw_of_none_pending (h : s.chunksApart) (hp : s.verifier.pendingDemand = none) : s.slotLaw :=
  (State.slotLaw_iff s).2 ⟨h, fun d hd => by rw [hp] at hd; cases hd⟩

/-- The law depends on the Chunk Verifier alone. -/
theorem State.slotLaw_of_same (hv : t.verifier = s.verifier) (h : s.slotLaw) : t.slotLaw := by
  simpa only [State.slotLaw, State.slot, hv] using h

theorem State.slotLaw_of_claimsKept (hk : s.verifier.claimsKept t.verifier) (h : s.slotLaw) : t.slotLaw := by
  obtain ⟨hslots, hpending⟩ := hk
  have hslot (i : Fin 8) : (s.slot i).claimKept (t.slot i) := hslots i
  obtain ⟨⟨hapart, hfree⟩, hblocked⟩ := (State.slotLaw_iff s).1 h
  refine (State.slotLaw_iff t).2 ⟨⟨fun i j r c hi hj => ?_, fun i hi => ?_⟩, fun d hd i => ?_⟩
  · exact hapart i j r c ((hslot i).1 ▸ hi) ((hslot j).1 ▸ hj)
  · rw [(hslot i).1]
    exact hfree i ((hslot i).2.1 hi)
  · obtain ⟨d', hd', hr, hc⟩ := hpending d hd
    obtain ⟨hnf, hne, hnc⟩ := hblocked d' hd' i
    obtain ⟨hcontent, hstate, helig⟩ := hslot i
    rw [hr, hc] at hnc
    exact ⟨fun e => hnf (hstate e), by simpa [hne] using helig, by rwa [hcontent]⟩

/-! ## Changes that are no claim -/

theorem State.setSlot_slotLaw {i : Fin 8} {v : Slot} (hv : (s.slot i).claimKept v) (h : s.slotLaw) :
    (s.setSlot i v).slotLaw := by
  refine State.slotLaw_of_claimsKept (s := s) ⟨fun j => ?_, fun d hd => ⟨d, hd, rfl, rfl⟩⟩ h
  show (s.slot j).claimKept ((s.setSlot i v).slot j)
  rw [State.setSlot_slot]
  split
  · next e => exact e ▸ hv
  · exact Slot.claimKept_refl _

theorem State.engineNext_slotLaw (h : s.slotLaw) : s.engineNext.slotLaw := by
  unfold State.engineNext
  split
  · exact State.setSlot_slotLaw (Slot.claimKept_of_state rfl nofun nofun) h
  · exact h

theorem State.enqueue_slotLaw (h : s.slotLaw) (i : Fin 8) : (s.enqueue i).slotLaw :=
  State.engineNext_slotLaw (State.setSlot_slotLaw (Slot.claimKept_of_state rfl nofun nofun) h)

theorem State.holdSlot_slotLaw (h : s.slotLaw) (i : Fin 8) : (s.holdSlot i).slotLaw :=
  State.setSlot_slotLaw (Slot.claimKept_of_state rfl nofun nofun) h

theorem State.passDone_slotLaw (h : s.slotLaw) (i : Fin 8) : (s.passDone i).slotLaw :=
  State.holdSlot_slotLaw (s := s.engineIdle) h i

/-- A demand that joins a slot shields it from preemption (R68). -/
theorem State.joinSlot_slotLaw (h : s.slotLaw) (i : Fin 8) (w : Option Nat) : (s.joinSlot i w).slotLaw := by
  refine State.slotLaw_of_same (State.refile_blocks _ i).2.2.2.2.2.2.2.2.1 (State.setSlot_slotLaw ?_ h)
  cases w <;> exact ⟨rfl, id, fun he => by simp [Slot.eligible] at he⟩

theorem State.burstWord_slotLaw (h : s.slotLaw) (b : Burst) : (s.burstWord b).slotLaw := by
  have hread : (s.readFlash (b.base + b.read)).2.slotLaw := State.slotLaw_of_same (by simp) h
  unfold State.burstWord
  dsimp only
  split
  · exact State.setSlot_slotLaw (Slot.claimKept_refl _) hread
  · exact hread
  · exact hread

theorem Slot.dropWaiter_claimKept (v : Slot) : v.claimKept v.dropWaiter := by
  unfold Slot.dropWaiter
  split
  · exact ⟨rfl, id, fun he => by simp [Slot.eligible] at he⟩
  · exact Slot.claimKept_refl v

/-- The held read's waiter leaves its slot or the pending demand, whose chunk stays the same (R80). -/
theorem State.endHeldRead_slotLaw (h : s.slotLaw) : s.endHeldRead.slotLaw := by
  unfold State.endHeldRead
  split
  · dsimp only
    split
    · exact h
    · refine State.slotLaw_of_claimsKept (s := s) ⟨fun i => ?_, fun d hd => ?_⟩ h
      · show (s.slot i).claimKept (mapSlots Slot.dropWaiter s.verifier.slots)[i]
        rw [mapSlots_get]
        exact Slot.dropWaiter_claimKept _
      · obtain ⟨d', hd', rfl⟩ := Option.map_eq_some_iff.1 hd
        exact ⟨d', hd', rfl, rfl⟩
  all_goals exact h

theorem State.askCheck_slotLaw (h : s.slotLaw) (i : Fin 8) (spanHash : List Byte) : (s.askCheck i spanHash).slotLaw := by
  unfold State.askCheck Verifier.requestCheck
  split <;> exact h

/-! ## Slots abandoned (R75) -/

theorem State.abandonSlots_slotLaw (h : s.slotLaw) (keep : Option (Fin 8)) : (s.abandonSlots keep).slotLaw := by
  obtain ⟨⟨hapart, hfree⟩, -⟩ := (State.slotLaw_iff s).1 h
  have hcontent (i : Fin 8) : ((s.abandonSlots keep).slot i).content =
      if keep = some i then (s.slot i).content else none := by
    rw [State.abandonSlots_slot]
    split <;> rfl
  refine State.slotLaw_of_none_pending ⟨fun i j r c hi hj => ?_, fun i hi => ?_⟩ rfl
  · rw [hcontent, Option.ite_none_right_eq_some] at hi hj
    exact hapart i j r c hi.2 hj.2
  · rw [hcontent]
    split
    · next e =>
      rw [State.abandonSlots_slot, if_pos e] at hi
      exact hfree i hi
    · rfl

/-! ## Slots given back and taken (R64, R67, R69, R71) -/

/-- A slot given back holds nothing, and the others hold what they held. -/
theorem State.freeSlot_chunksApart (h : s.chunksApart) (i : Fin 8) : (s.freeSlot i).chunksApart := by
  obtain ⟨⟨hi, hothers, -⟩, -⟩ := s.freeSlot_spec i
  obtain ⟨hapart, hfree⟩ := h
  have hslot (j : Fin 8) : ((s.freeSlot i).slot j).content = (if j = i then none else (s.slot j).content) ∧
      ((s.freeSlot i).slot j).state = (if j = i then .free else (s.slot j).state) := by
    split
    · next e => rw [e, hi]; exact ⟨rfl, rfl⟩
    · next e => rw [hothers j e]; exact ⟨rfl, rfl⟩
  refine ⟨fun j k r c hj hk => ?_, fun j hj => ?_⟩
  · rw [(hslot _).1, Option.ite_none_left_eq_some] at hj hk
    exact hapart j k r c hj.2 hk.2
  · rw [(hslot j).1]
    rw [(hslot j).2] at hj
    split
    · rfl
    · next e =>
      rw [if_neg e] at hj
      exact hfree j hj

/-- A slot taken for content that no slot holds: an intake piece, or a region chunk that no slot in use holds. -/
theorem State.takeSlot_chunksApart (h : s.chunksApart) (i : Fin 8) (p : Purpose) {content : Content} (w : Option Nat)
    (flag : Bool) (hnew : ∀ r c, content = .chunk r c → ∀ j, (s.slot j).content ≠ some (.chunk r c)) :
    (s.takeSlot i p content w flag).chunksApart := by
  obtain ⟨hapart, hfree⟩ := h
  refine ⟨fun j k r c hj hk => ?_, fun j hj => ?_⟩
  · rw [State.takeSlot_slot] at hj hk
    split at hj <;> split at hk
    · next ej ek => exact ej.symm.trans ek
    · exact absurd hk (hnew r c (Option.some.inj hj) k)
    · exact absurd hj (hnew r c (Option.some.inj hk) j)
    · exact hapart j k r c hj hk
  · rw [State.takeSlot_slot] at hj ⊢
    split at hj
    · cases hj
    · next e =>
      rw [if_neg e]
      exact hfree j hj

/-- While a demand is pending no slot is FREE (R71). -/
theorem State.none_pending_of_free (h : s.slotLaw) {i : Fin 8} (hi : (s.slot i).state = .free) :
    s.verifier.pendingDemand = none := by
  cases hd : s.verifier.pendingDemand with
  | none => rfl
  | some d => exact absurd hi (((State.slotLaw_iff s).1 h).2 d hd i).1

/-- A claim that takes a FREE slot for content that no slot holds. -/
theorem State.takeSlot_slotLaw (h : s.slotLaw) {i : Fin 8} (hi : s.lowestFree = some i) (p : Purpose) {content : Content}
    (w : Option Nat) (flag : Bool) (hnew : ∀ r c, content = .chunk r c → ∀ j, (s.slot j).content ≠ some (.chunk r c)) :
    (s.takeSlot i p content w flag).slotLaw :=
  State.slotLaw_of_none_pending (State.takeSlot_chunksApart ((State.slotLaw_iff s).1 h).1 i p w flag hnew)
    (State.none_pending_of_free (s := s) h (State.lowestFree_free hi))

theorem State.claimIntake_slotLaw (h : s.slotLaw) (p : Purpose) (b : Bank) (chunk : Nat) :
    (s.claimIntake p b chunk).1.slotLaw := by
  unfold State.claimIntake
  split
  · next i hi => exact State.takeSlot_slotLaw h hi p none false nofun
  · exact h

/-- A chunk with no holder is in no slot, in use or FREE. -/
theorem State.content_ne_of_chunkHolder (h : s.chunksApart) {r c : Nat} (hn : s.chunkHolder r c = none) (j : Fin 8) :
    (s.slot j).content ≠ some (.chunk r c) := by
  intro hc
  have huse : (s.slot j).state ≠ .free := fun hf => by rw [h.2 j hf] at hc; cases hc
  have hj := List.find?_eq_none.1 hn j (mem_allSlots j)
  simp [Slot.inUse, huse, hc] at hj

theorem State.takeSlot_chunk_new (h : s.slotLaw) {r c : Nat} (hn : s.chunkHolder r c = none) :
    ∀ r' c', Content.chunk r c = .chunk r' c' → ∀ j, (s.slot j).content ≠ some (.chunk r' c') := by
  rintro r' c' ⟨⟩
  exact State.content_ne_of_chunkHolder ((State.slotLaw_iff s).1 h).1 hn

/-! ## The Scanner (R150, R153, R155) -/

theorem State.claimScan_slotLaw (h : s.slotLaw) (p : Purpose) (r k : Nat) : (s.claimScan p r k).1.slotLaw := by
  unfold State.claimScan
  split
  · exact h
  · split
    · exact h
    · next hn =>
      split
      · next i hi => exact State.takeSlot_slotLaw h hi p none false (State.takeSlot_chunk_new h hn)
      · exact h

theorem State.scanStep_slotLaw (h : s.slotLaw) {pos k : Nat} (ht : s.scanStep pos k = some t) : t.slotLaw := by
  unfold State.scanStep at ht
  dsimp only at ht
  split at ht
  · cases ht; exact h
  · cases ht; exact h
  · next p r _ =>
    have hclaim := State.claimScan_slotLaw h p r k
    split at ht
    · next heq => cases ht; rw [heq] at hclaim; exact hclaim
    · next heq => cases ht; rw [heq] at hclaim; exact hclaim
    · cases ht

theorem State.scanSteps_slotLaw (h : s.slotLaw) (fuel : Nat) : (State.scanSteps fuel s).slotLaw := by
  induction fuel generalizing s with
  | zero => exact h
  | succ n ih =>
    match hc : s.scan.cursor with
    | none | some .endMark => simpa only [State.scanSteps, hc] using h
    | some (.at_ pos k) =>
      rw [State.scanSteps_succ hc]
      cases hu : s.scanStep pos k with
      | none => exact h
      | some u => exact ih (State.scanStep_slotLaw h hu)

theorem State.endPass_slotLaw (h : s.slotLaw) : s.endPass.slotLaw := State.slotLaw_of_same (by simp) h

theorem State.scanResume_slotLaw (h : s.slotLaw) : s.scanResume.slotLaw := by
  unfold State.scanResume
  split
  · exact State.endPass_slotLaw (State.scanSteps_slotLaw h _)
  · exact State.endPass_slotLaw h

theorem State.startPass_slotLaw (h : s.slotLaw) (p : Pass) : (s.startPass p).slotLaw :=
  State.scanResume_slotLaw (s := s.withScan { s.scan with pass := p, cursor := some s.scan.start }) h

/-- A slot that goes FREE is the pending demand's at once, whose chunk no slot holds; else the Scanner may take it (R71, R72). -/
theorem State.releaseSlot_slotLaw (h : s.slotLaw) (i : Fin 8) : (s.releaseSlot i).slotLaw := by
  obtain ⟨hapart, hblocked⟩ := (State.slotLaw_iff s).1 h
  obtain ⟨⟨hi, hothers, -⟩, -, -, hpending⟩ := s.freeSlot_spec i
  have hfreed := State.freeSlot_chunksApart hapart i
  unfold State.releaseSlot
  dsimp only
  split
  · next d hd =>
    refine State.endPass_slotLaw (State.slotLaw_of_none_pending (State.takeSlot_chunksApart
      (s := (s.freeSlot i).withVerifier { (s.freeSlot i).verifier with pendingDemand := none }) hfreed i _ _ _ ?_) rfl)
    rintro r c ⟨⟩ j
    show ((s.freeSlot i).slot j).content ≠ _
    by_cases e : j = i
    · rw [e, hi]
      nofun
    · rw [hothers j e]
      exact (hblocked d (hpending ▸ hd) j).2.2
  · next hd => exact State.scanResume_slotLaw (State.slotLaw_of_none_pending hfreed hd)

/-! ## Demands (R67 to R72) -/

theorem State.rewind_slotLaw (h : s.slotLaw) (purpose : Option Purpose) (content : Option Content) :
    (s.rewind purpose content).slotLaw := by
  unfold State.rewind
  split
  · split
    · split
      · refine State.scanResume_slotLaw ?_
        split <;> exact h
      · exact State.scanResume_slotLaw h
    · exact State.scanResume_slotLaw h
  · exact State.endPass_slotLaw h

/-- A preemption leaves the demand's chunk in the victim's slot alone. -/
theorem State.preempt_slotLaw (h : s.slotLaw) {r c : Nat} (hn : s.chunkHolder r c = none)
    (hp : s.verifier.pendingDemand = none) (i : Fin 8) (w : Option Nat) : (s.preempt i r c w).slotLaw := by
  have hapart : (s.preemptBurst i).chunksApart := ((State.slotLaw_iff s).1 h).1
  obtain ⟨⟨hi, hothers, -⟩, -⟩ := (s.preemptBurst i).freeSlot_spec i
  have htaken : (((s.preemptBurst i).freeSlot i).takeSlot i .demand (.chunk r c) w w.isNone).chunksApart := by
    refine State.takeSlot_chunksApart (State.freeSlot_chunksApart hapart i) i _ _ _ ?_
    rintro r' c' ⟨⟩ j
    by_cases e : j = i
    · rw [e, hi]
      nofun
    · rw [hothers j e]
      exact State.content_ne_of_chunkHolder hapart hn j
  exact State.rewind_slotLaw (State.slotLaw_of_none_pending htaken hp) _ _

/-- Once a fold has found something it does not lose it. -/
theorem foldl_isSome {α β : Type} {f : Option α → β → Option α} (hf : ∀ a b, (f (some a) b).isSome = true) (l : List β)
    (a : α) : (l.foldl f (some a)).isSome = true := by
  induction l generalizing a with
  | nil => rfl
  | cons b l ih =>
    obtain ⟨a', ha'⟩ := Option.isSome_iff_exists.1 (hf a b)
    rw [List.foldl_cons, ha']
    exact ih a'

/-- Where no victim is found no slot can be preempted. -/
theorem State.not_eligible_of_victim_none (hv : s.victim = none) (j : Fin 8) : (s.slot j).eligible = false := by
  unfold State.victim at hv
  match hl : allSlots.filter fun i => (s.slot i).eligible with
  | [] => simpa using List.filter_eq_nil_iff.1 hl j (mem_allSlots j)
  | x :: l =>
    rw [hl, List.foldl_cons] at hv
    refine absurd hv (Option.isSome_iff_ne_none.1 (foldl_isSome (fun a b => ?_) l x))
    dsimp only
    split <;> rfl

/-- While a demand is pending no victim is found (R71). -/
theorem State.none_pending_of_victim (h : s.slotLaw) {i : Fin 8} (hi : s.victim = some i) :
    s.verifier.pendingDemand = none := by
  cases hd : s.verifier.pendingDemand with
  | none => rfl
  | some d =>
    have hnone : s.victim = none := State.victim_none fun j hj => by
      have hne := (((State.slotLaw_iff s).1 h).2 d hd j).2.1
      rw [(Slot.eligible_iff _).2 hj] at hne
      cases hne
    rw [hnone] at hi
    cases hi

/-- A demand is made pending where its chunk has no holder, no slot is FREE and none can be preempted. -/
theorem State.claimPending_slotLaw (h : s.slotLaw) {r c : Nat} (hn : s.chunkHolder r c = none) (hf : s.lowestFree = none)
    (hv : s.victim = none) (w : Option Nat) : (s.claimPending r c w).1.slotLaw := by
  have hapart := ((State.slotLaw_iff s).1 h).1
  have hset (d : PendingDemand) (hr : d.region = r) (hc : d.index = c) : (s.setPending d).slotLaw := by
    refine (State.slotLaw_iff _).2 ⟨hapart, fun d' hd' j => ?_⟩
    cases hd'
    have huse : (s.slot j).state ≠ .free := by simpa [Slot.inUse] using State.inUse_of_none_free hf j
    refine ⟨huse, State.not_eligible_of_victim_none hv j, ?_⟩
    rw [hr, hc]
    exact State.content_ne_of_chunkHolder hapart hn j
  unfold State.claimPending
  split
  · exact hset _ rfl rfl
  · split
    · next hsame => exact hset _ hsame.1 hsame.2
    · split
      · exact hset _ rfl rfl
      · exact h

theorem State.claimDemand_slotLaw (h : s.slotLaw) (fromCp : Bool) (r c : Nat) (w : Option Nat) :
    (s.claimDemand fromCp r c w).1.slotLaw := by
  unfold State.claimDemand
  split
  · exact h
  · split
    · exact State.joinSlot_slotLaw h _ w
    · next hn =>
      split
      · next i hi => exact State.takeSlot_slotLaw h hi .demand w w.isNone (State.takeSlot_chunk_new h hn)
      · next hf =>
        split
        · next i hi => exact State.preempt_slotLaw h hn (State.none_pending_of_victim h hi) i w
        · next hv =>
          split
          · exact State.claimPending_slotLaw h hn hf hv w
          · exact h

end

end Sys2Proof.Machine
end

section
/-! Every command keeps the slots apart: the boot states, the walker, the verdicts, and the commands themselves (R67, R71). -/

namespace Sys2Proof.Machine

section
variable {s : State}

/-! ## The boot states (R13, R15, R17, R75) -/

theorem State.enterNoBank_slotLaw (h : s.slotLaw) : s.enterNoBank.slotLaw :=
  State.slotLaw_of_same (s := s.abandonSlots none) (by simp [State.enterNoBank, State.abandonSlots])
    (State.abandonSlots_slotLaw h none)

@[simp] theorem State.stopBlocks_verifier (s : State) : s.stopBlocks.verifier = s.verifier.abandon none := by
  simp [State.stopBlocks, State.abandonSlots]

theorem State.stopBlocks_slotLaw (h : s.slotLaw) : s.stopBlocks.slotLaw :=
  State.slotLaw_of_same (s := s.abandonSlots none) s.stopBlocks_verifier (State.abandonSlots_slotLaw h none)

theorem State.enterHalted_slotLaw (h : s.slotLaw) : s.enterHalted.slotLaw :=
  State.slotLaw_of_same (s := s.stopBlocks) (by simp [State.enterHalted]) (State.stopBlocks_slotLaw h)

theorem State.beginReset_slotLaw (h : s.slotLaw) (cause : ResetCause) : (s.beginReset cause).slotLaw := by
  unfold State.beginReset
  split
  · exact h
  · exact State.slotLaw_of_same (s := s.stopBlocks) (by simp) (State.stopBlocks_slotLaw h)

theorem State.slotLaw_of_reset (hv : s.verifier = Verifier.reset) : s.slotLaw :=
  State.slotLaw_of_none_pending ⟨fun i j r c hi _ => (by rw [State.slot_of_reset hv] at hi; cases hi),
    fun i _ => by rw [State.slot_of_reset hv]; rfl⟩ (by rw [hv]; rfl)

theorem State.startSelecting_slotLaw (h : s.slotLaw) : s.startSelecting.slotLaw := by
  have hfirst := State.claimIntake_slotLaw h .manifest .bank0 (manifestChunk s.lines.fsz)
  have hsecond := State.claimIntake_slotLaw hfirst .manifest .bank1 (manifestChunk s.lines.fsz)
  exact State.slotLaw_of_same (by simp [State.startSelecting]) hsecond

theorem State.endReset_slotLaw (fsz swl : BitVec 2) (low : Bool) : (s.endReset fsz swl low).slotLaw := by
  have hreset : (s.volatileReset fsz swl low).slotLaw := State.slotLaw_of_reset rfl
  unfold State.endReset
  dsimp only
  split
  · exact hreset
  · exact State.startSelecting_slotLaw hreset

theorem State.releaseReserve_slotLaw (h : s.slotLaw) : s.releaseReserve.slotLaw := by
  unfold State.releaseReserve
  split
  · exact State.releaseSlot_slotLaw (s := s.withBoot { s.boot with reserve := none }) h _
  · exact h

theorem State.enterReleased_slotLaw (h : s.slotLaw) : s.enterReleased.slotLaw := by
  have hrel : s.releasing.slotLaw := State.releaseReserve_slotLaw (s := ((s.withBoot { s.boot with state := .released
    }).withLines { s.lines with crstOut := false, erstOut := (findEngine s.tables.regions 0).isNone })) h
  rw [State.enterReleased_eq]
  split <;> exact State.slotLaw_of_same (by simp) hrel

theorem State.enterPreverify_slotLaw (h : s.slotLaw) : s.enterPreverify.slotLaw := by
  have hpass : ((s.withBoot { s.boot with state := .preverify }).startPass .first).slotLaw :=
    State.startPass_slotLaw (s := s.withBoot { s.boot with state := .preverify }) h .first
  unfold State.enterPreverify
  dsimp only
  split
  · exact State.enterReleased_slotLaw hpass
  · exact hpass

/-! ## The walker (R26 to R34) -/

theorem State.claimPiece_slotLaw (h : s.slotLaw) (j : ListJob) : (s.claimPiece j).slotLaw := by
  unfold State.claimPiece
  split
  · exact State.claimIntake_slotLaw h _ _ _
  · exact h

theorem State.reject_slotLaw (h : s.slotLaw) (fatal : Bool) (kind : WalkFault) : (s.reject fatal kind).slotLaw :=
  State.slotLaw_of_same (by simp) h

theorem State.processImage_slotLaw (h : s.slotLaw) (m : Memory) (i : Nat) (f : Frame) :
    (s.processImage m i f).slotLaw := by
  unfold State.processImage
  dsimp only
  split
  · exact State.reject_slotLaw h _ _
  · split
    · exact State.reject_slotLaw h _ _
    · split
      · exact State.reject_slotLaw h _ _
      · split
        · exact State.reject_slotLaw h _ _
        · split
          · exact State.reject_slotLaw h _ _
          · split
            · exact State.reject_slotLaw h _ _
            · refine State.claimPiece_slotLaw ?_ _
              exact h

theorem State.claimDelegate_slotLaw (h : s.slotLaw) (m : Memory) (i : Nat) : (s.claimDelegate m i).slotLaw := by
  unfold State.claimDelegate
  split
  · exact h
  · next b _ =>
    have hclaim := State.claimIntake_slotLaw h .manifest b (entryManifestLoc m i / chunkWords)
    split <;> next heq => rw [heq] at hclaim; exact hclaim

theorem State.processDelegate_slotLaw (h : s.slotLaw) (m : Memory) (i : Nat) (f : Frame) :
    (s.processDelegate m i f).slotLaw := by
  unfold State.processDelegate
  dsimp only
  split
  · exact State.reject_slotLaw h _ _
  · split
    · exact State.reject_slotLaw h _ _
    · split
      · exact State.reject_slotLaw h _ _
      · exact State.claimDelegate_slotLaw h m i

theorem State.walkStep_slotLaw (h : s.slotLaw) : s.walkStep.slotLaw := by
  unfold State.walkStep
  split
  · exact State.slotLaw_of_same (by simp) h
  · next f rest _ =>
    dsimp only
    split
    · exact State.releaseSlot_slotLaw (s := s.withWalk { s.walk with stack := rest }) h f.slot
    · split
      · exact State.processImage_slotLaw h _ _ _
      · split
        · exact State.slotLaw_of_same (by simp) h
        · exact State.processDelegate_slotLaw h _ _ _

theorem State.walkRun_slotLaw (h : s.slotLaw) (fuel : Nat) : (State.walkRun fuel s).slotLaw := by
  induction fuel generalizing s with
  | zero => exact h
  | succ n ih =>
    unfold State.walkRun
    split
    · exact ih (State.walkStep_slotLaw h)
    · exact h

/-- A fallback keeps at most the reserve root slot. -/
theorem State.fallback_slotLaw (h : s.slotLaw) : s.fallback.slotLaw := by
  have habandon : s.abandonBank.slotLaw := State.abandonSlots_slotLaw (s := s.clearBank) h s.boot.reserve
  unfold State.fallback
  dsimp only
  split
  · exact habandon
  · exact State.enterNoBank_slotLaw habandon

theorem State.walkOn_slotLaw (h : s.slotLaw) (fuel : Nat) : (State.walkOn fuel s).slotLaw := by
  induction fuel generalizing s with
  | zero => exact h
  | succ n ih =>
    have hrun := State.walkRun_slotLaw h s.walkFuel
    unfold State.walkOn
    dsimp only
    split
    · exact State.enterPreverify_slotLaw hrun
    · exact ih (State.fallback_slotLaw hrun)
    · exact hrun

theorem State.walkOnAll_slotLaw (h : s.slotLaw) : s.walkOnAll.slotLaw := State.walkOn_slotLaw h _

/-! ## Manifests under judgement (R7 to R10, R32, R81, R82) -/

theorem State.endSelecting_slotLaw (h : s.slotLaw) : s.endSelecting.slotLaw := by
  unfold State.endSelecting
  split
  · dsimp only
    split
    · exact State.enterNoBank_slotLaw (s := s.withBoot { s.boot with candidates := [] }) h
    · refine State.walkOnAll_slotLaw ?_
      exact h
  · exact h

theorem State.rejectRoot_slotLaw (h : s.slotLaw) (k : Bank) (i : Fin 8) : (s.rejectRoot k i).slotLaw :=
  State.endSelecting_slotLaw (State.releaseSlot_slotLaw (s := s.setRoot k .rejected) h i)

theorem State.askPass_slotLaw (h : s.slotLaw) (k : Bank) (i : Fin 8) (st : JudgeStep) (d : List Byte) :
    (s.askPass k i st d).slotLaw :=
  State.enqueue_slotLaw (s := s.setRoot k (.judging i st d)) h i

theorem State.dropDelegate_slotLaw (h : s.slotLaw) (j : DelegateJob) : (s.dropDelegate j).slotLaw :=
  State.walkOnAll_slotLaw (State.reject_slotLaw (State.releaseSlot_slotLaw h j.slot) _ _)

theorem State.manifestFilled_slotLaw (h : s.slotLaw) (i : Fin 8) : (s.manifestFilled i).slotLaw := by
  unfold State.manifestFilled State.rootFilled State.delegateFilled
  split
  · split
    · exact State.askPass_slotLaw h _ _ _ _
    · exact State.rejectRoot_slotLaw h _ _
  · split
    · next j _ =>
      split
      · split
        · exact State.enqueue_slotLaw (s := s.setDelegate { j with at_ := .key }) h _
        · exact State.dropDelegate_slotLaw h _
      · exact h
    · exact h

theorem State.rootKeyed_slotLaw (h : s.slotLaw) (k : Bank) (i : Fin 8) (d : List Byte) : (s.rootKeyed k i d).slotLaw := by
  unfold State.rootKeyed
  split
  · exact State.askPass_slotLaw h _ _ _ _
  · exact State.rejectRoot_slotLaw h _ _

theorem State.delegateKeyed_slotLaw (h : s.slotLaw) (j : DelegateJob) (d : List Byte) : (s.delegateKeyed j d).slotLaw := by
  unfold State.delegateKeyed
  split
  · exact State.enqueue_slotLaw (s := s.setDelegate { j with at_ := .span }) h _
  · exact State.dropDelegate_slotLaw h _

theorem State.keyHashed_slotLaw (h : s.slotLaw) : s.keyHashed.slotLaw := by
  unfold State.keyHashed
  split
  · dsimp only
    split
    · exact State.engineNext_slotLaw (State.rootKeyed_slotLaw (State.passDone_slotLaw h _) _ _ _)
    · split
      · exact State.engineNext_slotLaw (State.delegateKeyed_slotLaw (State.passDone_slotLaw h _) _ _)
      · exact h
    · exact h
  · exact h

theorem State.spanHashed_slotLaw (h : s.slotLaw) : s.spanHashed.slotLaw := by
  unfold State.spanHashed
  split
  · next i _ _ =>
    have hdone := State.passDone_slotLaw h i
    dsimp only
    split
    · next k d _ =>
      exact State.engineNext_slotLaw
        (State.askCheck_slotLaw (s := (s.passDone i).setRoot k (.judging i .check d)) hdone _ _)
    · next j _ _ =>
      split
      · exact State.engineNext_slotLaw
          (State.askCheck_slotLaw (s := (s.passDone i).setDelegate { j with at_ := .check }) hdone _ _)
      · exact h
    · exact h
  · exact h

theorem State.checked_slotLaw (h : s.slotLaw) (q : CheckRequest) (pass : Bool) : (s.checked q pass).slotLaw := by
  unfold State.checked
  split
  · next k d _ =>
    split
    · exact State.endSelecting_slotLaw (s := s.setRoot k (.candidate q.slot d)) h
    · exact State.rejectRoot_slotLaw h _ _
  · split
    · split
      · exact State.walkOnAll_slotLaw (State.slotLaw_of_same (by simp) h)
      · exact State.dropDelegate_slotLaw h _
    · exact h
  · exact h

theorem State.checkEnds_slotLaw (h : s.slotLaw) : s.checkEnds.slotLaw := by
  unfold State.checkEnds
  split
  · exact State.checked_slotLaw (s := s.withVerifier s.verifier.nextCheck) h _ _
  · exact h

/-! ## Hash completions (R78, R81) -/

theorem State.regionChanged_slotLaw (h : s.slotLaw) (g : ImageRegion) : (s.regionChanged g).slotLaw := by
  unfold State.regionChanged
  split
  · split
    · exact State.enterReleased_slotLaw h
    · exact h
  · split
    · exact State.walkOnAll_slotLaw (State.fallback_slotLaw h)
    · exact h
  · exact State.slotLaw_of_same (by simp) h
  · split
    · exact State.slotLaw_of_same (by simp) h
    · exact h
  · exact h

theorem State.takeVerdict_slotLaw (h : s.slotLaw) (r c : Nat) (d : List Byte) : (s.takeVerdict r c d).slotLaw := by
  cases hi : s.tables.image r with
  | none => simpa only [State.takeVerdict, hi] using h
  | some g =>
    have hrec (t : Tables) (bad : Bool) (record : Nat) : (s.verdictRecorded t bad record).slotLaw := by
      unfold State.verdictRecorded
      split
      · exact State.slotLaw_of_same (by simp) h
      · exact h
    rw [State.takeVerdict_eq hi]
    cases (s.tables.verdict r g (g.first + c) d).2.2 with
    | none => exact hrec _ _ _
    | some x => exact State.regionChanged_slotLaw (hrec _ _ _) x.2

theorem State.completeHash_slotLaw (h : s.slotLaw) (i : Fin 8) (r c : Nat) : (s.completeHash i r c).slotLaw := by
  unfold State.completeHash
  split
  · refine State.engineNext_slotLaw (State.releaseSlot_slotLaw (s := (s.answerWaiter i r c).engineIdle) ?_ i)
    exact State.slotLaw_of_same (t := s.answerWaiter i r c) (by simp) h
  · exact h

theorem State.chunkHashed_slotLaw (h : s.slotLaw) : s.chunkHashed.slotLaw := by
  unfold State.chunkHashed
  split
  · next i v _ =>
    split
    · next r c _ =>
      exact State.slotLaw_of_same (s := (s.takeVerdict r c (s.slotDigest i)).completeHash i r c) (by simp)
        (State.completeHash_slotLaw (State.takeVerdict_slotLaw h r c _) i r c)
    · exact h
    · exact h
  · exact h

theorem State.finishList_slotLaw (h : s.slotLaw) (j : ListJob) : (s.finishList j).slotLaw := by
  unfold State.finishList
  split
  · exact State.walkOnAll_slotLaw (State.slotLaw_of_same (by simp) h)
  · exact State.walkOnAll_slotLaw (State.slotLaw_of_same (by simp) h)

theorem State.pieceHashed_slotLaw (h : s.slotLaw) (i : Fin 8) (j : ListJob) : (s.pieceHashed i j).slotLaw := by
  have hfreed : ((s.pieceEntered i j).engineIdle.releaseSlot i).slotLaw :=
    State.releaseSlot_slotLaw (s := (s.pieceEntered i j).engineIdle) h i
  unfold State.pieceHashed
  dsimp only
  split
  · exact State.finishList_slotLaw hfreed _
  · exact State.claimPiece_slotLaw hfreed _

theorem State.listHashed_slotLaw (h : s.slotLaw) : s.listHashed.slotLaw := by
  unfold State.listHashed
  split
  · split
    · exact State.engineNext_slotLaw (State.pieceHashed_slotLaw h _ _)
    · exact h
  · exact h

/-! ## The other commands that reach the slots -/

theorem State.burstAdvances_slotLaw (h : s.slotLaw) : s.burstAdvances.slotLaw := by
  unfold State.burstAdvances
  split
  · next b _ =>
    split
    · exact State.slotLaw_of_same (s := s.burstWord b) (by simp) (State.burstWord_slotLaw h b)
    · exact h
  · exact h

theorem State.burstCounted_slotLaw (h : s.slotLaw) (i : Fin 8) : (s.burstCounted i).slotLaw := by
  have hcount : (s.setSlot i { s.slot i with bursts := (s.slot i).bursts + 1 }).slotLaw :=
    State.setSlot_slotLaw ⟨rfl, id, id⟩ h
  unfold State.burstCounted
  dsimp only
  split
  · exact hcount
  · split
    · exact State.manifestFilled_slotLaw (State.holdSlot_slotLaw hcount i) i
    · exact State.enqueue_slotLaw hcount i

theorem State.burstEnds_slotLaw (h : s.slotLaw) : s.burstEnds.slotLaw := by
  unfold State.burstEnds
  split
  · next b _ =>
    split
    · have hword : (s.burstWord b).endAccess.slotLaw := State.burstWord_slotLaw h b
      dsimp only
      split
      · exact State.burstCounted_slotLaw hword _
      · exact hword
    · exact h
  · exact h

theorem State.crstAsserts_slotLaw (h : s.slotLaw) : s.crstAsserts.slotLaw :=
  State.slotLaw_of_same (by simp [State.crstAsserts]) (State.endHeldRead_slotLaw h)

/-- A read of the Controller Port may make a demand (R105, R106). -/
theorem State.readArrives_slotLaw (h : s.slotLaw) (a : Addr) : (s.readArrives a).slotLaw := by
  have himage (d : Decode) : (s.imageRead a d).slotLaw := by
    unfold State.imageRead State.stallRead State.fillRead
    split
    · split
      · exact State.slotLaw_of_same (by simp) h
      · exact h
    · split
      · exact State.claimDemand_slotLaw (s := s.answer s.boot.params.fillWord) h _ _ _ _
      · split
        · refine State.claimDemand_slotLaw ?_ _ _ _ _
          exact h
        · exact h
    · exact h
    · exact h
  have hclass : (s.readByClass a).slotLaw := by
    unfold State.readByClass
    dsimp only
    split
    case h_7 => exact himage _
    all_goals exact State.slotLaw_of_same (by simp) h
  unfold State.readArrives
  split
  · exact hclass
  · exact hclass
  all_goals exact h

/-- A boundary of the Engine Link may make a demand (R142). -/
theorem State.elBoundary_slotLaw (h : s.slotLaw) : s.elBoundary.slotLaw := by
  have hbyte (p : Nat) (window : Bool) : (s.readByte p window).slotLaw := by
    unfold State.readByte
    split
    · exact h
    · split
      · exact h
      · split
        · exact h
        · exact State.claimDemand_slotLaw (s := s.sendEl 0xFF#8) h _ _ _ _
        · exact State.slotLaw_of_same (by simp) h
  unfold State.elBoundary
  split
  · exact h
  · split
    · exact h
    · split
      · next p window _ =>
        exact State.slotLaw_of_same (s := s.readByte p window) (by simp [State.readBoundary]) (hbyte p window)
      all_goals exact h

theorem State.answerFrame_slotLaw (h : s.slotLaw) {act : State × List Byte} (ha : act.1.slotLaw) :
    (s.answerFrame act).slotLaw := by
  unfold State.answerFrame
  split
  · split
    · exact ha
    · exact h
  all_goals exact h

theorem State.startPatrol_slotLaw (h : s.slotLaw) : s.startPatrol.1.slotLaw := by
  unfold State.startPatrol
  split
  · exact State.startPass_slotLaw h .patrol
  · exact h

theorem State.intakeExpires_slotLaw (h : s.slotLaw) : s.intakeExpires.slotLaw := by
  unfold State.intakeExpires
  split
  · dsimp only
    split
    · exact State.enterNoBank_slotLaw (s := s.timerWraps) h
    · exact h
  · exact h

theorem State.patrolExpires_slotLaw (h : s.slotLaw) : s.patrolExpires.slotLaw := by
  unfold State.patrolExpires
  split
  · dsimp only
    split
    · exact State.startPass_slotLaw (s := s.timerWraps) h .patrol
    · exact h
  · exact h

theorem State.tick_slotLaw (h : s.slotLaw) : s.tick.slotLaw := by
  have htimer : s.tickTimer.slotLaw := by
    unfold State.tickTimer
    split
    · split
      · split
        · exact State.intakeExpires_slotLaw h
        · exact State.slotLaw_of_same (by simp) h
        · exact State.patrolExpires_slotLaw h
      · exact h
    · exact h
  exact State.slotLaw_of_same (t := s.tickTimer.tickGate.pollRetries) (by simp) htimer

theorem State.brownOutFalls_slotLaw (h : s.slotLaw) : s.brownOutFalls.slotLaw := by
  have hseen : s.brownOutSeen.slotLaw := State.slotLaw_of_same (by simp) h
  rw [State.brownOutFalls_eq]
  split
  · exact State.enterHalted_slotLaw hseen
  · exact hseen

theorem State.brownOutRecovers_slotLaw (h : s.slotLaw) : s.brownOutRecovers.slotLaw := by
  unfold State.brownOutRecovers
  split
  · exact h
  · split
    · exact State.beginReset_slotLaw h .brownOut
    · exact h

/-! ## Every command -/

theorem exec_slotLaw {c : Instr} {t : State} (h : s.slotLaw) (he : exec c s = .next t) : t.slotLaw := by
  have hreset (cause : ResetCause) : (s.beginReset cause).slotLaw := State.beginReset_slotLaw h cause
  cases c with
  -- reset and brown-out
  | powerOn flash => rw [next_inj he]; cases flash <;> exact hreset .powerOn
  | nrstFall => rw [next_inj he]; exact hreset .pin
  | partResetEnd fsz swl low =>
    rw [next_inj he]
    split
    · exact State.endReset_slotLaw fsz swl low
    · exact h
  | brownOutFall => rw [next_inj he]; exact State.brownOutFalls_slotLaw h
  | brownOutRecovery => rw [next_inj he]; exact State.brownOutRecovers_slotLaw h
  -- fills, hashes and checks
  | burstWordBoundary => rw [next_inj he]; exact State.burstAdvances_slotLaw h
  | burstComplete => rw [next_inj he]; exact State.burstEnds_slotLaw h
  | chunkHashComplete => rw [next_inj he]; exact State.chunkHashed_slotLaw h
  | listPieceHashComplete => rw [next_inj he]; exact State.listHashed_slotLaw h
  | keyPassComplete => rw [next_inj he]; exact State.keyHashed_slotLaw h
  | spanPassComplete => rw [next_inj he]; exact State.spanHashed_slotLaw h
  | signatureCheckEnd => rw [next_inj he]; exact State.checkEnds_slotLaw h
  -- demands, held reads and passes
  | cpReadArrival a =>
    rw [next_inj he]
    split
    · exact State.readArrives_slotLaw h a
    · exact h
  | elReadByteBoundary => rw [next_inj he]; exact State.elBoundary_slotLaw h
  | crstInAssert => rw [next_inj he]; exact State.crstAsserts_slotLaw h
  | cpReadAbandon => rw [next_inj he]; exact State.endHeldRead_slotLaw h
  | intakeDeadlineExpiry => rw [next_inj he]; exact State.intakeExpires_slotLaw h
  | patrolIntervalExpiry => rw [next_inj he]; exact State.patrolExpires_slotLaw h
  | slPatrol => rw [next_inj he]; exact State.answerFrame_slotLaw h (State.startPatrol_slotLaw h)
  -- the commands that leave the Chunk Verifier as it is
  | slStatus | slRegion _ | slChunks _ _ | slCapture | slCounters | slKeys | slProvision _ _ | slRevoke _ | slClose
  | slLock | slWipe | slUnknown _ =>
    rw [next_inj he]
    exact State.answerFrame_slotLaw h (State.slotLaw_of_same (by simp) h)
  | supplyWarningRise | cpWriteArrival _ _ | elIdent | elUnknownCommand _ =>
    rw [next_inj he]
    split <;> exact State.slotLaw_of_same (by simp) h
  | supplyWarningFall | crstInDeassert | bootDeadlineExpiry | pgateHalfPeriod | flashGrant | cpWordReturn | cpAccessEnd
  | sequenceSent | flashOperationEnd _ _ | pollPairComplete | pollRetryTick | wipeSectorStart | elFrameBegin | elRead _
  | elStatus | elStatusByteBoundary | elWordReturn | elFrameEnd | slFrameEnd | slFrameBegin | fuseStepEnd
  | fuseOperationEnd =>
    rw [next_inj he]
    exact State.slotLaw_of_same (by simp) h

end

/-- Settles O12: a slot is taken where no slot holds the claim's chunk, and only where none is FREE or can be preempted is a demand
left pending (`State.takeSlot_chunksApart`, `State.claimPending_slotLaw`), so that a slot given back finds the pending demand's chunk
nowhere (`State.releaseSlot_slotLaw`); every other change keeps what the slots hold (`State.slotLaw_of_claimsKept`). -/
theorem noTwoSlotsHoldOneChunk : Obligations.NoTwoSlotsHoldOneChunk := by
  intro s t hl h
  obtain rfl | ⟨c, rest, h⟩ := step_cases h
  · exact State.tick_slotLaw hl
  · exact exec_slotLaw (s := s.withPending rest) hl h

end Sys2Proof.Machine
end
section
/-! The span pass of a manifest under judgement (R81, R82). -/

namespace Sys2Proof.Machine

/-- A request is begun by a signature unit that is idle; a busy one keeps it waiting (R82). -/
theorem Verifier.requestCheck_spec (v : Verifier) (q : CheckRequest) :
    (v.checking = none → (v.requestCheck q).checking = some q ∧ (v.requestCheck q).checkWaiting = v.checkWaiting) ∧
    (v.checking.isSome = true → (v.requestCheck q).checking = v.checking ∧ (v.requestCheck q).checkWaiting = some q) := by
  unfold Verifier.requestCheck
  cases v.checking <;> simp

/-- A request changes what the signature unit does and has waiting, and nothing else of the Chunk Verifier. -/
theorem Verifier.requestCheck_eq (v : Verifier) (q : CheckRequest) : v.requestCheck q =
    { v with checking := (v.requestCheck q).checking, checkWaiting := (v.requestCheck q).checkWaiting } := by
  unfold Verifier.requestCheck
  split <;> rfl

/-- The hash of slot `i`'s signed span has gone to the signature unit, in `t`, and the slot is HELD (R81, R82). -/
def checkAsked (s t : State) (i : Fin 8) (q : CheckRequest) : Prop :=
  (t.slot i).state = .held ∧ (t.slot i).buffer = (s.slot i).buffer ∧ t.verifier.engine = none ∧
  (∀ j : Fin 8, j ≠ i → t.slot j = s.slot j) ∧
  (s.verifier.checking = none → t.verifier.checking = some q ∧ t.verifier.checkWaiting = s.verifier.checkWaiting) ∧
  (s.verifier.checking.isSome = true → t.verifier.checking = s.verifier.checking ∧ t.verifier.checkWaiting = some q)

section
variable {s : State} {i : Fin 8}

/-- What the walker does once the span pass is over; nothing is queued, so that the engine rests. -/
theorem State.askCheck_asked (hq : s.verifier.hashQueue = []) (spanHash : List Byte) {u : State}
    (hu : u.verifier = (s.passDone i).verifier) :
    checkAsked s (u.askCheck i spanHash).engineNext i { slot := i, spanHash := spanHash } ∧
    (u.askCheck i spanHash).engineNext = u.withVerifier (u.askCheck i spanHash).engineNext.verifier := by
  have hverifier : (u.askCheck i spanHash).verifier =
      (s.passDone i).verifier.requestCheck { slot := i, spanHash := spanHash } :=
    congrArg (fun v : Verifier => v.requestCheck { slot := i, spanHash := spanHash }) hu
  obtain ⟨hidle, hbusy⟩ := (s.passDone i).verifier.requestCheck_spec { slot := i, spanHash := spanHash }
  rw [Verifier.requestCheck_eq] at hverifier
  have hslot (j : Fin 8) : (u.askCheck i spanHash).slot j = if i = j then { s.slot i with state := .held } else s.slot j := by
    rw [← State.passDone_slot, State.slot, hverifier]
    rfl
  rw [State.engineNext_of_empty (by rw [hverifier]; exact hq)]
  refine ⟨⟨by rw [hslot, if_pos rfl], by rw [hslot, if_pos rfl], by rw [hverifier]; rfl,
    fun j hj => by rw [hslot, if_neg (Ne.symm hj)], ?_, ?_⟩, rfl⟩
  · rw [hverifier]
    exact hidle
  · rw [hverifier]
    exact hbusy

section
variable (he : s.verifier.engine = some i)
include he

theorem State.spanHashed_root {k : Bank} {d : List Byte} (h : s.boot.root k = .judging i .span d)
    (hn : ∀ st d', s.boot.root k.other ≠ .judging i st d') : s.spanHashed =
      (((s.passDone i).setRoot k (.judging i .check d)).askCheck i (sha256 (manifestSpan (s.slot i).buffer))).engineNext := by
  simp only [State.spanHashed, State.hashed_of_engine he, State.rootAt_of_judging h hn]

theorem State.spanHashed_delegate {j : DelegateJob} (hj : s.walk.job = .delegate j) (hi : j.slot = i)
    (ha : j.at_ = .span) (hn : ∀ k st d, s.boot.root k ≠ .judging i st d) : s.spanHashed =
      (((s.passDone i).setDelegate { j with at_ := .check }).askCheck i
        (sha256 (manifestSpan (s.slot i).buffer))).engineNext := by
  simp only [State.spanHashed, State.hashed_of_engine he, State.rootAt_eq_none hn, State.delegateAt_of_job hj hi, ha,
    if_true]

end

end

/-- Settles O41: the pass is over (`State.passDone`), the judgement goes to its check, and the signature unit has the request
(`State.askCheck_asked`). -/
theorem theSpanPassAsksForTheSignatureCheck : Obligations.TheSpanPassAsksForTheSignatureCheck := by
  intro s i he hq n q asked
  refine ⟨fun k d hk hn => ?_, fun j hj hi ha hn => ?_⟩
  · obtain ⟨hasked, heq⟩ := State.askCheck_asked (i := i) hq (sha256 (manifestSpan (s.slot i).buffer))
      (u := (s.passDone i).setRoot k (.judging i .check d)) rfl
    exact ⟨_, congrArg Host.Outcome.next (State.spanHashed_root he hk hn), hasked, heq⟩
  · obtain ⟨hasked, heq⟩ := State.askCheck_asked (i := i) hq (sha256 (manifestSpan (s.slot i).buffer))
      (u := (s.passDone i).setDelegate { j with at_ := .check }) rfl
    exact ⟨_, congrArg Host.Outcome.next (State.spanHashed_delegate he hj hi ha hn), hasked, heq⟩

end Sys2Proof.Machine
end
section
/-! A chunk's hash completed in RELEASED: the verdict, the held read it concerns, the slot given back and offered, and the engine's next
slot (R53, R65, R71, R72, R77 to R79, R108). -/

namespace Sys2Proof.Machine

/-! ## The verdict (R53) -/

section
variable {t : Tables} {i : Nat} {g : ImageRegion} {k : ChunkRecord} {e digest : List Byte} {record : Nat}

theorem Tables.image_setImage (hi : t.image i = some g) (g' : ImageRegion) : (t.setImage i g').image i = some g' := by
  have hlt : i < t.regions.length := (List.getElem?_eq_some_iff.1 ((t.image_eq_some_iff i g).1 hi)).1
  rw [Tables.image_eq_some_iff]
  exact List.getElem?_set_self hlt

theorem Tables.image_setChunkState (record : Nat) (st : ChunkState) (i : Nat) :
    (t.setChunkState record st).image i = t.image i := by
  unfold Tables.setChunkState
  split <;> rfl

section
variable (hk : t.chunks[record]? = some k)
include hk

theorem Tables.chunkState_of_record : t.chunkState record = k.state := by
  simp only [Tables.chunkState, hk]

theorem Tables.chunkState_setChunkState (st : ChunkState) : (t.setChunkState record st).chunkState record = st := by
  have hlt : record < t.chunks.length := (List.getElem?_eq_some_iff.1 hk).1
  rw [Tables.setChunkState_of_record hk, Tables.chunkState, List.getElem?_set_self hlt]

variable (he : k.expected = some e) (i : Nat) (g : ImageRegion) (digest : List Byte)
include he

/-- A verdict changes nothing, or proves an UNCHECKED chunk, or finds a chunk BAD that was not. -/
theorem Tables.verdict_cases :
    ((k.state = .bad ∨ k.state = .good ∧ digest = e) ∧ t.verdict i g record digest = (t, false, none)) ∨
    (k.state = .unchecked ∧ digest = e ∧ t.verdict i g record digest =
      ((t.setChunkState record .good).setImage i g.afterGood, false, regionChange i g g.afterGood)) ∨
    (k.state ≠ .bad ∧ digest ≠ e ∧ ∃ fromGood, t.verdict i g record digest =
      ((t.setChunkState record .bad).setImage i (g.afterBad fromGood), true,
        regionChange i g (g.afterBad fromGood))) := by
  cases hs : k.state with
  | bad => exact .inl ⟨.inl rfl, Tables.verdict_of_bad i hk he hs⟩
  | good =>
    by_cases hd : digest = e
    · exact .inl ⟨.inr ⟨rfl, hd⟩, Tables.verdict_reproven i hk he hs hd⟩
    · exact .inr (.inr ⟨nofun, hd, true, Tables.verdict_patrol_mismatch i hk he hs hd⟩)
  | unchecked =>
    by_cases hd : digest = e
    · exact .inr (.inl ⟨rfl, hd, Tables.verdict_match i hk he hs hd⟩)
    · exact .inr (.inr ⟨nofun, hd, false, by simp only [Tables.verdict, hk, he, hs, if_neg hd]⟩)

/-- A bad report is made exactly where the chunk goes to BAD. -/
theorem Tables.verdict_reports_iff : (t.verdict i g record digest).2.1 = true ↔ digest ≠ e ∧ k.state ≠ .bad := by
  obtain ⟨hs | ⟨-, hd⟩, hv⟩ | ⟨-, hd, hv⟩ | ⟨hs, hd, b, hv⟩ := Tables.verdict_cases hk he i g digest <;> rw [hv]
  · simp [hs]
  · simp [hd]
  · simp [hd]
  · simp [hs, hd]

/-- The chunk is left GOOD exactly where its digest matched and it was not BAD. -/
theorem Tables.verdict_leaves_good_iff :
    (t.verdict i g record digest).1.chunkState record = .good ↔ digest = e ∧ k.state ≠ .bad := by
  obtain ⟨hs | ⟨hs, hd⟩, hv⟩ | ⟨hs, hd, hv⟩ | ⟨hs, hd, b, hv⟩ := Tables.verdict_cases hk he i g digest <;> rw [hv]
  · simp [Tables.chunkState_of_record hk, hs]
  · simp [Tables.chunkState_of_record hk, hs, hd]
  · have hgood : ((t.setChunkState record .good).setImage i g.afterGood).chunkState record = .good :=
      Tables.chunkState_setChunkState hk .good
    simp [hgood, hs, hd]
  · have hbad : ((t.setChunkState record .bad).setImage i (g.afterBad b)).chunkState record = .bad :=
      Tables.chunkState_setChunkState hk .bad
    simp [hbad, hd]

/-- The region's record stays where its chunk records begin. -/
theorem Tables.verdict_image (hi : t.image i = some g) :
    ∃ g', (t.verdict i g record digest).1.image i = some g' ∧ g'.first = g.first := by
  have hset (st : ChunkState) (g' : ImageRegion) : ((t.setChunkState record st).setImage i g').image i = some g' :=
    Tables.image_setImage (by rwa [Tables.image_setChunkState]) g'
  obtain ⟨-, hv⟩ | ⟨-, -, hv⟩ | ⟨-, -, b, hv⟩ := Tables.verdict_cases hk he i g digest <;> rw [hv]
  · exact ⟨g, hi, rfl⟩
  · exact ⟨g.afterGood, hset _ _, rfl⟩
  · exact ⟨g.afterBad b, hset _ _, rfl⟩

/-- A region of which a verdict reports a change keeps its class, and is FAILED only where the chunk went to BAD. -/
theorem Tables.verdict_change {x : Nat × ImageRegion} (hx : (t.verdict i g record digest).2.2 = some x) :
    x.2.cls = g.cls ∧ (x.2.state = .failed → digest ≠ e ∧ k.state ≠ .bad) := by
  obtain ⟨-, hv⟩ | ⟨-, -, hv⟩ | ⟨hs, hd, b, hv⟩ := Tables.verdict_cases hk he i g digest <;> rw [hv] at hx
  · cases hx
  · dsimp only at hx
    unfold regionChange at hx
    split at hx
    · cases hx
    · next hne =>
      cases hx
      refine ⟨rfl, fun hf => ?_⟩
      simp only [ImageRegion.afterGood] at hne hf
      split at hf
      · cases hf
      · next hn => rw [if_neg hn] at hne; exact absurd rfl hne
  · dsimp only at hx
    unfold regionChange at hx
    split at hx
    · cases hx
    · cases hx
      exact ⟨rfl, fun _ => ⟨hd, hs⟩⟩

end

end

/-! ## The held read a BAD verdict ends (R108) -/

section
variable {s : State}

theorem State.cpReadGranted_eq_false_iff (s : State) :
    s.cpReadGranted = false ↔ ∀ q, s.arbiter.access ≠ some (.cpRead q true) := by
  unfold State.cpReadGranted
  match s.arbiter.access with
  | none => simp
  | some a => cases a <;> simp

/-- A held read that waits for its proof is left to its slot. -/
theorem State.endHeldOnBad_of_proof {h : HeldRead} (hp : s.port = .held h) (hw : h.wait = .proof) (record : Nat) :
    s.endHeldOnBad record = s := by
  simp [State.endHeldOnBad, hp, hw]

/-- A held read of the chunk whose word is not granted: its request is withdrawn, and the fill word answered. -/
theorem State.endHeldOnBad_ends {h : HeldRead} {record : Nat} (hp : s.port = .held h) (hw : h.wait = .flash)
    (hc : h.cls = .imageChunk) (hr : h.chunk.map ChunkRef.record = some record)
    (hg : ∀ q, s.arbiter.access ≠ some (.cpRead q true)) : s.endHeldOnBad record =
      (s.withArbiter { s.arbiter with cpWait := none }).withPort (.answered s.boot.params.fillWord) := by
  have hgranted := (State.cpReadGranted_eq_false_iff s).2 hg
  simp [State.endHeldOnBad, hp, hw, hc, hr, hgranted]

theorem State.endHeldOnBad_stays {h : HeldRead} {record : Nat} (hp : s.port = .held h)
    (hn : ¬ (h.cls = .imageChunk ∧ h.chunk.map ChunkRef.record = some record ∧
      ∀ q, s.arbiter.access ≠ some (.cpRead q true))) : s.endHeldOnBad record = s := by
  rw [← State.cpReadGranted_eq_false_iff] at hn
  simp only [State.endHeldOnBad, hp]
  rw [if_neg]
  rintro ⟨-, hc, hr, hg⟩
  exact hn ⟨hc, hr, by simpa using hg⟩

/-- Only the request of the Controller Port can be withdrawn. -/
theorem State.endHeldOnBad_arbiter (record : Nat) :
    (s.endHeldOnBad record).arbiter = { s.arbiter with cpWait := (s.endHeldOnBad record).arbiter.cpWait } := by
  unfold State.endHeldOnBad
  split
  · split <;> rfl
  all_goals rfl

/-! ## The verdict in RELEASED -/

/-- The part with the held read ended that a bad report of a record ends. -/
def State.reported (s : State) (bad : Bool) (record : Nat) : State := if bad then s.endHeldOnBad record else s

theorem State.reported_arbiter (bad : Bool) (record : Nat) :
    (s.reported bad record).arbiter = { s.arbiter with cpWait := (s.reported bad record).arbiter.cpWait } := by
  unfold State.reported
  split
  · exact State.endHeldOnBad_arbiter record
  · rfl

theorem State.verdictRecorded_eq (t : Tables) (bad : Bool) (record : Nat) : s.verdictRecorded t bad record =
    ((s.reported bad record).withTables t).withAlerts (if bad then { s.alerts with bad := true } else s.alerts) := by
  cases bad
  · rfl
  · simp only [State.verdictRecorded, State.reported, State.endHeldOnBad, if_true]
    cases hp : s.port with
    | held h =>
      have hport : (s.withTables t).badReport.port = .held h := hp
      simp only [hport]
      have hgranted : (s.withTables t).badReport.cpReadGranted = s.cpReadGranted := rfl
      rw [hgranted]
      split <;> rfl
    | free | answered w | written | writeHeld =>
      have hport : (s.withTables t).badReport.port = s.port := rfl
      simp only [hport, hp]
      rfl

section
variable (hb : s.boot.state = .released)
include hb

/-- A region change in RELEASED reaches the Scanner only where a required region's failure stops a patrol pass (R157). -/
theorem State.regionChanged_slots_of_released (g : ImageRegion) :
    (s.regionChanged g).verifier = s.verifier ∧ (s.regionChanged g).arbiter = s.arbiter ∧
    (s.regionChanged g).scan.list = s.scan.list ∧
    ((g.state = .failed → g.cls = .optional ∨ s.scan.pass ≠ .patrol) → (s.regionChanged g).scan = s.scan) := by
  cases hg : g.state with
  | loading | checking | complete => simp [State.regionChanged, hb, hg]
  | failed =>
    simp only [State.regionChanged, hb, hg]
    split
    · next hreq =>
      refine ⟨by simp, by simp, by simp, fun h => ?_⟩
      have hpass : s.scan.pass ≠ .patrol := (h trivial).resolve_left fun hc => by simp [hc, ImageClass.required] at hreq
      by_cases hl : s.gate.state = .latched
      · simp [State.latchGate, hl]
      · exact (State.latchGate_spec hl .chunkBad).2.2.2 hpass
    · exact ⟨rfl, rfl, rfl, fun _ => rfl⟩

/-- A verdict in RELEASED moves the held read and its request as its report does, and the slots not at all. -/
theorem State.takeVerdict_slots_of_released {r c : Nat} {g : ImageRegion} (hi : s.tables.image r = some g)
    (digest : List Byte) :
    let v := s.tables.verdict r g (g.first + c) digest
    let u := s.takeVerdict r c digest
    u.verifier = s.verifier ∧ u.arbiter = (s.reported v.2.1 (g.first + c)).arbiter ∧
    u.port = (s.reported v.2.1 (g.first + c)).port ∧ u.scan.list = s.scan.list ∧
    ((∀ x, v.2.2 = some x → x.2.state = .failed → x.2.cls = .optional ∨ s.scan.pass ≠ .patrol) → u.scan = s.scan) := by
  intro v u
  have hreported : (s.reported v.2.1 (g.first + c)).verifier = s.verifier ∧
      (s.reported v.2.1 (g.first + c)).scan = s.scan ∧ (s.reported v.2.1 (g.first + c)).boot = s.boot := by
    unfold State.reported
    split <;> simp
  obtain ⟨hverifier, hscan, hboot⟩ := hreported
  have hu : u = v.2.2.elim (s.verdictRecorded v.1 v.2.1 (g.first + c))
      fun x => (s.verdictRecorded v.1 v.2.1 (g.first + c)).regionChanged x.2 := State.takeVerdict_eq hi digest
  rw [hu, State.verdictRecorded_eq]
  clear_value v
  cases hx : v.2.2 with
  | none => exact ⟨hverifier, rfl, rfl, congrArg Scan.list hscan, fun _ => hscan⟩
  | some x =>
    obtain ⟨hv, ha, hl, hs⟩ := State.regionChanged_slots_of_released
      (s := s.verdictRecorded v.1 v.2.1 (g.first + c)) (by simpa using hb) x.2
    rw [State.verdictRecorded_eq] at hv ha hl hs
    refine ⟨hv.trans hverifier, ha, by simp, hl.trans (congrArg Scan.list hscan), fun h => (hs fun hf => ?_).trans hscan⟩
    exact (h x rfl hf).imp_right fun hp => by simpa [hscan] using hp

end

end

/-! ## The waiter's answer (R79) -/

section
variable {s : State} {i : Fin 8} {r c : Nat}

theorem State.answerWaiter_of_no_waiter (hw : (s.slot i).waiter = none) : s.answerWaiter i r c = s := by
  simp only [State.answerWaiter, hw]

theorem State.answerWaiter_of_not_held (hp : ∀ h, s.port ≠ .held h) : s.answerWaiter i r c = s := by
  unfold State.answerWaiter
  split
  · next h => exact absurd h (hp _)
  · rfl

theorem State.answerWaiter_answers {w : Nat} {h : HeldRead} (hw : (s.slot i).waiter = some w) (hp : s.port = .held h) :
    s.answerWaiter i r c = s.withPort (.answered (if s.chunkStateOf r c = .good then
      Memory.readWord bufferDefault (s.slot i).buffer w else s.boot.params.fillWord)) := by
  simp only [State.answerWaiter, hw, hp]

/-! ## The slot offered, and the engine's next slot (R71, R72, R77) -/

theorem State.releaseSlot_of_none_pending (hp : s.verifier.pendingDemand = none) (i : Fin 8) :
    s.releaseSlot i = (s.freeSlot i).scanResume := by
  have hfreed : (s.freeSlot i).verifier.pendingDemand = none := hp
  simp only [State.releaseSlot, hfreed]

theorem State.releaseSlot_of_pending {d : PendingDemand} (hp : s.verifier.pendingDemand = some d) (i : Fin 8) :
    s.releaseSlot i = (((s.freeSlot i).withVerifier { (s.freeSlot i).verifier with pendingDemand := none }).demandTaken i
      d.region d.index d.waiter).endPass := by
  have hfreed : (s.freeSlot i).verifier.pendingDemand = some d := hp
  simp only [State.releaseSlot, hfreed, State.takePending, State.takeSlot_demand]

theorem State.engineNext_of_cons {j : Fin 8} {rest : List (Fin 8)} (he : s.verifier.engine = none)
    (hq : s.verifier.hashQueue = j :: rest) : s.engineNext = s.withVerifier { s.verifier with
      slots := s.verifier.slots.set j { s.slot j with state := .hashing }, engine := some j, hashQueue := rest } := by
  simp only [State.engineNext, he, hq]
  rfl

end

end Sys2Proof.Machine
end
section
/-! The completion of a chunk's hash in RELEASED, assembled (R53, R65, R71, R72, R77 to R79, R108). -/

namespace Sys2Proof.Machine

/-! ## The verdict and the answer -/

section
variable {s : State} {r c : Nat} {g : ImageRegion} {k : ChunkRecord} {e d : List Byte}
  (hb : s.boot.state = .released) (hi : s.tables.image r = some g) (hk : s.tables.chunks[g.first + c]? = some k)
  (he : k.expected = some e)
include hb hi hk he

/-- The verdict leaves its own chunk GOOD exactly where the digest matched and the chunk was not BAD. -/
theorem State.takeVerdict_chunkStateOf_good_iff :
    (s.takeVerdict r c d).chunkStateOf r c = .good ↔ d = e ∧ k.state ≠ .bad := by
  obtain ⟨-, -, -, -, htables⟩ := State.takeVerdict_of_released hb (c := c) hi d
  obtain ⟨g', himage, hfirst⟩ := Tables.verdict_image hk he r g d hi
  rw [State.chunkStateOf, htables, himage]
  dsimp only
  rw [hfirst]
  exact Tables.verdict_leaves_good_iff hk he r g d

/-- The Scanner is where it was, unless the verdict fails a required region in a patrol pass (R157). -/
theorem State.takeVerdict_scan_of_released
    (h : d = e ∨ k.state = .bad ∨ g.cls = .optional ∨ s.scan.pass ≠ .patrol) :
    (s.takeVerdict r c d).scan = s.scan := by
  obtain ⟨-, -, -, -, hscan⟩ := State.takeVerdict_slots_of_released hb (c := c) hi d
  refine hscan fun x hx hf => ?_
  obtain ⟨hcls, hfailed⟩ := Tables.verdict_change hk he r g d hx
  obtain ⟨hne, hnb⟩ := hfailed hf
  rw [hcls]
  exact (h.resolve_left hne).resolve_left hnb

/-- A held read is moved by a verdict as the bad report moves it, which is made where the chunk goes to BAD. -/
theorem State.takeVerdict_port_of_released :
    (d ≠ e ∧ k.state ≠ .bad → (s.takeVerdict r c d).port = (s.endHeldOnBad (g.first + c)).port ∧
      (s.takeVerdict r c d).arbiter = (s.endHeldOnBad (g.first + c)).arbiter) ∧
    (¬ (d ≠ e ∧ k.state ≠ .bad) → (s.takeVerdict r c d).port = s.port ∧ (s.takeVerdict r c d).arbiter = s.arbiter) := by
  obtain ⟨-, harbiter, hport, -, -⟩ := State.takeVerdict_slots_of_released hb (c := c) hi d
  rw [harbiter, hport, ← Tables.verdict_reports_iff hk he r g d]
  refine ⟨fun h => ?_, fun h => ?_⟩ <;> simp [State.reported, h]

/-- Where the bad report ends no held read, the port and the arbiter are as they were. -/
theorem State.takeVerdict_port_of_endHeldOnBad (h : d ≠ e ∧ k.state ≠ .bad → s.endHeldOnBad (g.first + c) = s) :
    (s.takeVerdict r c d).port = s.port ∧ (s.takeVerdict r c d).arbiter = s.arbiter := by
  obtain ⟨hbad, hother⟩ := State.takeVerdict_port_of_released (d := d) hb hi hk he
  by_cases hr : d ≠ e ∧ k.state ≠ .bad
  · simpa only [h hr] using hbad hr
  · exact hother hr

section
variable (i : Fin 8)

/-- No held read: the port and the arbiter are as they were. -/
theorem State.verdictAnswered_of_not_held (hp : ∀ h, s.port ≠ .held h) :
    ((s.takeVerdict r c d).answerWaiter i r c).port = s.port ∧
    ((s.takeVerdict r c d).answerWaiter i r c).arbiter = s.arbiter := by
  obtain ⟨hport, harbiter⟩ := State.takeVerdict_port_of_endHeldOnBad (d := d) hb hi hk he
    fun _ => State.endHeldOnBad_of_not_held hp _
  rw [State.answerWaiter_of_not_held fun h hh => hp h (hport.symm.trans hh)]
  exact ⟨hport, harbiter⟩

/-- A held read waits for a proof: it is answered where it waits at the engine's slot, from the state the verdict left (R79). -/
theorem State.verdictAnswered_of_proof {h : HeldRead} (hp : s.port = .held h) (hw : h.wait = .proof) :
    ((s.takeVerdict r c d).answerWaiter i r c).arbiter = s.arbiter ∧
    ((s.slot i).waiter = none → ((s.takeVerdict r c d).answerWaiter i r c).port = s.port) ∧
    (∀ w, (s.slot i).waiter = some w → ((s.takeVerdict r c d).answerWaiter i r c).port =
      .answered (if d = e ∧ k.state ≠ .bad then Memory.readWord bufferDefault (s.slot i).buffer w
        else s.boot.params.fillWord)) := by
  obtain ⟨hport, harbiter⟩ := State.takeVerdict_port_of_endHeldOnBad (d := d) hb hi hk he
    fun _ => State.endHeldOnBad_of_proof hp hw _
  obtain ⟨hverifier, -⟩ := State.takeVerdict_slots_of_released hb (c := c) hi d
  obtain ⟨-, hboot, -⟩ := State.takeVerdict_of_released hb (c := c) hi d
  have hslot := State.slot_eq hverifier i
  refine ⟨by simpa using harbiter, fun hn => ?_, fun w hs => ?_⟩
  · rw [State.answerWaiter_of_no_waiter (by rwa [hslot]), hport]
  · rw [State.answerWaiter_answers (by rwa [hslot]) (hport.trans hp), hslot, hboot]
    simp only [State.takeVerdict_chunkStateOf_good_iff hb hi hk he, State.withPort_port]

/-- A held read waits for its flash word, and none at the slot: it ends with the fill word where its chunk goes to BAD and its word
is not granted (R108). -/
theorem State.verdictAnswered_of_flash {h : HeldRead} (hp : s.port = .held h) (hw : h.wait = .flash)
    (hn : (s.slot i).waiter = none) :
    let ends := (d ≠ e ∧ k.state ≠ .bad) ∧ h.cls = .imageChunk ∧ h.chunk.map ChunkRef.record = some (g.first + c) ∧
      ∀ q, s.arbiter.access ≠ some (.cpRead q true)
    let x := (s.takeVerdict r c d).answerWaiter i r c
    (ends → x.port = .answered s.boot.params.fillWord ∧ x.arbiter.cpWait = none) ∧
    (¬ ends → x.port = s.port ∧ x.arbiter = s.arbiter) := by
  intro ends x
  obtain ⟨hverifier, -⟩ := State.takeVerdict_slots_of_released hb (c := c) hi d
  have hx : x = s.takeVerdict r c d := State.answerWaiter_of_no_waiter (by rwa [State.slot_eq hverifier])
  rw [hx]
  refine ⟨fun ⟨hbad, hc, hr, hg⟩ => ?_, fun hends => ?_⟩
  · obtain ⟨hport, harbiter⟩ := (State.takeVerdict_port_of_released hb hi hk he).1 hbad
    rw [hport, harbiter, State.endHeldOnBad_ends hp hw hc hr hg]
    exact ⟨rfl, rfl⟩
  · exact State.takeVerdict_port_of_endHeldOnBad hb hi hk he
      fun hbad => State.endHeldOnBad_stays hp fun hrest => hends ⟨hbad, hrest⟩

end

end

/-! ## The slot given back, and the engine's next slot -/

/-- Giving the slot back, offering it and going on leave all but the Chunk Verifier, the arbiter, the Scanner and the Engine Link. -/
theorem State.slotHandedOn_frame (x : State) (i : Fin 8) :
    let t := (x.engineIdle.releaseSlot i).engineNext.readAhead
    t = (((x.withVerifier t.verifier).withArbiter t.arbiter).withScan t.scan).withEl t.el := by
  intro t
  apply State.ext_blocks <;> simp [t]

/-- The engine rests and its slot is FREE (R65, R77). -/
theorem State.engineIdle_freeSlot (x : State) (i : Fin 8) :
    x.slotFreed (x.engineIdle.freeSlot i) i ∧
    x.engineIdle.freeSlot i = (x.withVerifier { x.verifier with
      slots := (x.engineIdle.freeSlot i).verifier.slots, engine := none }).withArbiter
        (x.engineIdle.freeSlot i).arbiter :=
  ⟨State.slotFreed_of_same (x.engineIdle.freeSlot_spec i).1 rfl rfl (fun _ _ => rfl) rfl, rfl⟩

/-- The slot is offered after the engine's work is over, so that the engine rests with its queue as it was. -/
theorem State.engineIdle_releaseSlot_engine (x : State) (i : Fin 8) :
    (x.engineIdle.releaseSlot i).verifier.engine = none ∧
    (x.engineIdle.releaseSlot i).verifier.hashQueue = x.verifier.hashQueue :=
  have hwork := x.engineIdle.releaseSlot_work i
  ⟨congrArg (·.2.1) hwork, congrArg (·.1) hwork⟩

/-- Settles O38: the verdict moves the held read as its bad report does and the waiter is answered from the state it left
(`State.verdictAnswered_of_proof`, `State.verdictAnswered_of_flash`); the slot is then freed, offered, and the engine goes on. -/
theorem aHashCompletionAnswersItsReadAndFreesItsSlot : Obligations.AHashCompletionAnswersItsReadAndFreesItsSlot := by
  intro s i r c g k e hb heng hcont hi hk he good fill
  let d := s.slotDigest i
  let x := (s.takeVerdict r c d).answerWaiter i r c
  let z := x.engineIdle.releaseSlot i
  have hgood : good = true ↔ d = e := decide_eq_true_iff
  have hbad : good = false ↔ d ≠ e := decide_eq_false_iff_not
  obtain ⟨hverifier, harbiter, -, hlist, -⟩ := State.takeVerdict_slots_of_released hb (c := c) hi d
  have hxv : x.verifier = s.verifier := by simpa [x] using hverifier
  have hexec : exec .chunkHashComplete s = .next z.engineNext.readAhead := by
    refine congrArg Host.Outcome.next ((State.chunkHashed_eq heng hcont).trans ?_)
    rw [State.completeHash, if_pos (by rw [hverifier, heng])]
  have hport : z.engineNext.readAhead.port = x.port := by simp [z]
  obtain ⟨hfreed, hy⟩ := State.engineIdle_freeSlot x i
  obtain ⟨hidle, hqueue⟩ := State.engineIdle_releaseSlot_engine x i
  have hpending : x.engineIdle.verifier.pendingDemand = s.verifier.pendingDemand := by simp [State.engineIdle, hxv]
  clear_value good d
  refine ⟨x, x.engineIdle.freeSlot i, z, _, hexec, State.slotHandedOn_frame x i, hxv, by simp [x], ?_, by simpa [x] using hlist,
    fun h => ?_, State.verdictAnswered_of_not_held hb hi hk he i, fun h hp hw => ?_, fun h hp hw hn => ?_, hfreed, hy,
    fun hnone => State.releaseSlot_of_none_pending (hpending.trans hnone) i,
    fun p hp => State.releaseSlot_of_pending (hpending.trans hp) i, fun hq => ?_, fun j rest hq => ?_⟩
  · have hx : x.arbiter = (s.takeVerdict r c d).arbiter := by simp [x]
    rw [hx, harbiter]
    exact State.reported_arbiter _ _
  · rw [hgood] at h
    simpa [x] using State.takeVerdict_scan_of_released hb hi hk he h
  · obtain ⟨harb, hnone, hsome⟩ := State.verdictAnswered_of_proof (d := d) hb hi hk he i hp hw
    refine ⟨harb, hnone, fun w hs => ?_⟩
    have hanswered := hsome w hs
    refine ⟨by rw [State.cpReady, hport, hanswered], ?_⟩
    simpa only [hgood] using hanswered
  · obtain ⟨hends, hstays⟩ := State.verdictAnswered_of_flash (d := d) hb hi hk he i hp hw hn
    rw [hbad, ← and_assoc]
    refine ⟨fun h => ?_, hstays⟩
    obtain ⟨hanswered, hwait⟩ := hends h
    exact ⟨hanswered, hwait, by rw [State.cpReady, hport, hanswered]⟩
  · rw [State.engineNext_of_empty (hqueue.trans (by rw [hxv, hq]))]
  · rw [State.engineNext_of_cons hidle (hqueue.trans (by rw [hxv, hq]))]

end Sys2Proof.Machine
end

section
/-! The memories in canonical form: a step leaves them, stores a burst's word (R74) or ends a flash operation (R92, R93). -/

namespace Sys2Proof.Machine

/-! ## The array after an operation's end -/

/-- What an operation that did not complete leaves at its target is written word by word. -/
theorem Flash.leave_wf {f : Flash} (h : Memory.wf flashDefault f.cells = true) (op : FlashOp) (left : List Word) :
    Memory.wf flashDefault (f.leave op left).cells = true := by
  cases op <;> exact Memory.writeWords_wf h

theorem Flash.endOp_wf {f : Flash} (h : Memory.wf flashDefault f.cells = true) (b : Bank) (op : FlashOp) (error : Bool)
    (left : List Word) : Memory.wf flashDefault (f.endOp b op error left).cells = true := by
  have hleave := Flash.leave_wf h op left
  cases op with
  | program addr data =>
    unfold Flash.endOp
    dsimp only
    split
    · simpa using Memory.writeWord_wf h
    · split
      · simpa using hleave
      · simpa using Memory.writeWord_wf h
  | erase sector =>
    unfold Flash.endOp
    dsimp only
    split
    · simpa using hleave
    · simpa using Memory.clear_wf h

theorem Flash.powerCycle_wf {f : Flash} (h : Memory.wf flashDefault f.cells = true) (left : List Word) :
    Memory.wf flashDefault (f.powerCycle left).cells = true := by
  unfold Flash.powerCycle
  dsimp only
  split
  · exact Flash.leave_wf h _ left
  · exact h

/-! ## The commands that reach a memory -/

section
variable {s t : State}

/-- The law depends on the array and on the slots' buffers alone. -/
theorem State.memoryLaw_of_same (hc : t.flash.cells = s.flash.cells) (hb : t.verifier.buffers = s.verifier.buffers)
    (h : s.memoryLaw) : t.memoryLaw := by
  obtain ⟨hcells, hbuffers⟩ := h
  refine ⟨by rwa [hc], fun i => ?_⟩
  have hi : (t.slot i).buffer = (s.slot i).buffer := Verifier.buffers_slots hb i
  rw [hi]
  exact hbuffers i

/-- A slot's buffer may be replaced by one in canonical form. -/
theorem State.setSlot_memoryLaw {i : Fin 8} {v : Slot} (hv : Memory.wf bufferDefault v.buffer = true) (h : s.memoryLaw) :
    (s.setSlot i v).memoryLaw := by
  obtain ⟨hcells, hbuffers⟩ := h
  refine ⟨hcells, fun j => ?_⟩
  rw [State.setSlot_slot]
  split
  · exact hv
  · exact hbuffers j

theorem State.burstWord_memoryLaw (h : s.memoryLaw) (b : Burst) : (s.burstWord b).memoryLaw := by
  have hread : (s.readFlash (b.base + b.read)).2.memoryLaw := State.memoryLaw_of_same (by simp) (by simp) h
  unfold State.burstWord
  dsimp only
  split
  · exact State.setSlot_memoryLaw (Memory.writeWord_wf (hread.2 _)) hread
  · exact hread
  · exact hread

theorem State.burstAdvances_memoryLaw (h : s.memoryLaw) : s.burstAdvances.memoryLaw := by
  unfold State.burstAdvances
  split
  · split
    · next b _ _ => exact State.memoryLaw_of_same (by simp) (by simp) (State.burstWord_memoryLaw h b)
    · exact h
  · exact h

theorem State.burstEnds_memoryLaw (h : s.memoryLaw) : s.burstEnds.memoryLaw := by
  unfold State.burstEnds
  split
  · split
    · next b _ _ =>
      have hword := State.burstWord_memoryLaw h b
      dsimp only
      split
      · exact State.memoryLaw_of_same (by simp) (by simp) hword
      · exact hword
    · exact h
  · exact h

theorem State.flashEnds_memoryLaw (h : s.memoryLaw) (error : Bool) (left : List Word) :
    (s.flashEnds error left).memoryLaw := by
  unfold State.flashEnds
  split
  · exact ⟨Flash.endOp_wf h.1 _ _ _ _, h.2⟩
  · exact h

theorem State.powerOn_memoryLaw (h : s.memoryLaw) (flash : Option (List Word)) : (s.powerOn flash).memoryLaw := by
  have hreset : ((s.beginReset .powerOn).setBrownOut false).memoryLaw := State.memoryLaw_of_same (by simp) (by simp) h
  cases flash with
  | none => exact hreset
  | some left => exact ⟨Flash.powerCycle_wf hreset.1 left, hreset.2⟩

/-- The end of a part reset keeps the array and leaves every buffer without a listed word (log 18). -/
theorem State.endReset_memoryLaw (h : s.memoryLaw) (fsz swl : BitVec 2) (low : Bool) :
    (s.endReset fsz swl low).memoryLaw := by
  have hreset : (s.volatileReset fsz swl low).memoryLaw := by
    refine ⟨h.1, fun i => ?_⟩
    rw [State.slot_of_reset rfl]
    rfl
  unfold State.endReset
  dsimp only
  split
  · exact State.memoryLaw_of_same rfl rfl hreset
  · exact State.memoryLaw_of_same (by simp) (by simp) hreset

theorem State.answerFrame_memoryLaw (h : s.memoryLaw) {act : State × List Byte} (ha : act.1.memoryLaw) :
    (s.answerFrame act).memoryLaw := by
  unfold State.answerFrame
  split
  · split
    · exact ha
    · exact h
  all_goals exact h

/-! ## Every command -/

theorem exec_memoryLaw {c : Instr} (h : s.memoryLaw) (he : exec c s = .next t) : t.memoryLaw := by
  have hsame {u : State} (hu : .next u = (.next t : Host.Outcome State Fault Refusal))
      (hc : u.flash.cells = s.flash.cells) (hb : u.verifier.buffers = s.verifier.buffers) : t.memoryLaw := by
    rw [next_inj hu]
    exact State.memoryLaw_of_same hc hb h
  cases c with
  -- the commands that reach a memory
  | burstWordBoundary => rw [next_inj he]; exact State.burstAdvances_memoryLaw h
  | burstComplete => rw [next_inj he]; exact State.burstEnds_memoryLaw h
  | flashOperationEnd error left => rw [next_inj he]; exact State.flashEnds_memoryLaw h error left
  | powerOn flash => rw [next_inj he]; exact State.powerOn_memoryLaw h flash
  | partResetEnd fsz swl low =>
    rw [next_inj he]
    split
    · exact State.endReset_memoryLaw h fsz swl low
    · exact h
  -- the commands that leave the memories as they are
  | slStatus | slRegion _ | slChunks _ _ | slCapture | slCounters | slKeys | slProvision _ _ | slRevoke _ | slClose
  | slLock | slWipe | slPatrol | slUnknown _ =>
    rw [next_inj he]
    exact State.answerFrame_memoryLaw h (State.memoryLaw_of_same (by simp) (by simp) h)
  | supplyWarningRise | cpReadArrival _ | cpWriteArrival _ _ | elIdent | elUnknownCommand _ =>
    refine hsame he ?_ ?_ <;> split <;> simp
  | nrstFall | brownOutFall | brownOutRecovery | supplyWarningFall | crstInAssert | crstInDeassert | intakeDeadlineExpiry
  | bootDeadlineExpiry | patrolIntervalExpiry | pgateHalfPeriod | flashGrant | chunkHashComplete | listPieceHashComplete
  | keyPassComplete | spanPassComplete | signatureCheckEnd | cpWordReturn | cpReadAbandon | cpAccessEnd | sequenceSent
  | pollPairComplete | pollRetryTick | wipeSectorStart | elFrameBegin | elRead _ | elStatus | elReadByteBoundary
  | elStatusByteBoundary | elWordReturn | elFrameEnd | slFrameEnd | slFrameBegin | fuseStepEnd | fuseOperationEnd =>
    exact hsame he (by simp) (by simp)

end

/-- Settles O6: the array changes at the end of a flash operation and at the flash's power-up alone (`Flash.endOp_wf`,
`Flash.powerCycle_wf`), a buffer where a burst's word is stored (`State.burstWord_memoryLaw`). -/
theorem everyStepKeepsTheMemoriesCanonical : Obligations.EveryStepKeepsTheMemoriesCanonical := by
  intro s t hl h
  obtain rfl | ⟨c, rest, h⟩ := step_cases h
  · exact State.memoryLaw_of_same (by simp) (by simp) hl
  · exact exec_memoryLaw (s := s.withPending rest) hl h

end Sys2Proof.Machine
end

section
/-! One bank RUNNING at a time: a whole PROGRAM or ERASE sequence starts its bank only where no bank is RUNNING (R93). -/

namespace Sys2Proof.Machine

/-! ## Banks that do not begin to run -/

/-- At most one bank is RUNNING: State.flashLaw, said of the flash. -/
def Flash.oneRunning (f : Flash) : Prop := ¬ (f.bank0.isRunning = true ∧ f.bank1.isRunning = true)

/-- No bank is RUNNING in `g` that was not in `f`. -/
def Flash.startsNone (f g : Flash) : Prop := ∀ b, (g.bank b).isRunning = true → (f.bank b).isRunning = true

section
variable {f g : Flash}

theorem Flash.oneRunning_of_startsNone (h : f.startsNone g) (hf : f.oneRunning) : g.oneRunning :=
  fun ⟨h0, h1⟩ => hf ⟨h .bank0 h0, h .bank1 h1⟩

@[simp] theorem Flash.startsNone_refl (f : Flash) : f.startsNone f := fun _ h => h

theorem Flash.bank_setBank (f : Flash) (b c : Bank) (v : FlashBank) :
    (f.setBank b v).bank c = if b = c then v else f.bank c := by
  cases b <;> cases c <;> rfl

/-- Replacing a bank starts nothing but by the new bank itself. -/
theorem Flash.startsNone_setBank {b : Bank} {v : FlashBank} (hv : v.isRunning = true → (f.bank b).isRunning = true)
    (h : f.startsNone g) : f.startsNone (g.setBank b v) := by
  intro c hc
  rw [Flash.bank_setBank] at hc
  split at hc
  · next e => exact e ▸ hv hc
  · exact h c hc

theorem Flash.oneRunning_of_none (h : ∀ b, (f.bank b).isRunning = false) : f.oneRunning :=
  fun ⟨h0, _⟩ => Bool.noConfusion ((h .bank0).symm.trans h0)

end

/-! ## Reads and writes -/

/-- A read turns a TOGGLE bit and leaves the modes. -/
theorem Flash.read_startsNone (words : Nat) (f : Flash) (addr : Nat) : f.startsNone (Flash.read words f addr).2 := by
  unfold Flash.read
  dsimp only
  split
  · exact f.startsNone_refl
  all_goals exact Flash.startsNone_setBank id f.startsNone_refl

theorem Flash.resetBank_startsNone (f : Flash) (b : Bank) : f.startsNone (f.resetBank b) := by
  unfold Flash.resetBank
  dsimp only
  split
  · exact Flash.startsNone_setBank nofun fun _ h => h
  all_goals exact fun _ h => h

/-- The final write of a PROGRAM or ERASE is ignored while a bank is RUNNING. -/
theorem Flash.start_oneRunning {f : Flash} (h : f.oneRunning) (b : Bank) (op : FlashOp) : (f.start b op).oneRunning := by
  unfold Flash.start
  dsimp only
  split
  · exact h
  · next hidle =>
    obtain ⟨h0, h1⟩ : f.bank0.isRunning = false ∧ f.bank1.isRunning = false := by simpa using hidle
    split
    · cases b
      · exact fun ⟨_, hr⟩ => Bool.noConfusion (h1.symm.trans hr)
      · exact fun ⟨hr, _⟩ => Bool.noConfusion (h0.symm.trans hr)
    all_goals exact h

theorem Flash.write_oneRunning {f : Flash} (h : f.oneRunning) (words addr : Nat) (value : Word) :
    (f.write words addr value).oneRunning := by
  have hreset (b : Bank) : (f.resetBank b).oneRunning := Flash.oneRunning_of_startsNone (f.resetBank_startsNone b) h
  unfold Flash.write
  dsimp only
  split
  · exact h
  · split
    · exact h
    · split <;> exact h
    · split
      · split
        · exact h
        · split
          · exact h
          · split
            · exact hreset _
            · exact h
      · exact h
    · split
      · exact Flash.start_oneRunning h _ _
      · exact h
    · split
      · exact Flash.start_oneRunning h _ _
      · exact h

theorem Flash.writes_oneRunning {f : Flash} (h : f.oneRunning) (words : Nat) (ws : List (Nat × Word)) :
    (Flash.writes words f ws).oneRunning := by
  induction ws generalizing f with
  | nil => exact h
  | cons w ws ih => exact ih (Flash.write_oneRunning h words w.1 w.2)

/-! ## The end of an operation and the flash's power-up -/

theorem Flash.leave_bank (f : Flash) (op : FlashOp) (left : List Word) (b : Bank) : (f.leave op left).bank b = f.bank b := by
  cases op <;> cases b <;> rfl

theorem Flash.endOp_startsNone (f : Flash) (b : Bank) (op : FlashOp) (error : Bool) (left : List Word) :
    f.startsNone (f.endOp b op error left) := by
  have hleave : f.startsNone (f.leave op left) := fun c h => by rwa [Flash.leave_bank] at h
  have hcells (m : Memory) : f.startsNone { f with cells := m } := fun c h => by cases c <;> exact h
  cases op with
  | program addr data =>
    unfold Flash.endOp
    dsimp only
    split
    · exact Flash.startsNone_setBank nofun (hcells _)
    · split
      · exact Flash.startsNone_setBank nofun hleave
      · exact Flash.startsNone_setBank nofun (hcells _)
  | erase sector =>
    unfold Flash.endOp
    dsimp only
    split
    · exact Flash.startsNone_setBank nofun hleave
    · exact Flash.startsNone_setBank nofun (hcells _)

theorem Flash.powerCycle_oneRunning (f : Flash) (left : List Word) : (f.powerCycle left).oneRunning :=
  Flash.oneRunning_of_none fun b => by cases b <;> rfl

/-! ## The commands that reach the flash -/

section
variable {s t : State}

theorem State.flashLaw_iff (s : State) : s.flashLaw ↔ s.flash.oneRunning := Iff.rfl

theorem State.flashLaw_of_same (hf : t.flash = s.flash) (h : s.flashLaw) : t.flashLaw := by
  rwa [State.flashLaw_iff, hf]

theorem State.readFlash_flashLaw (h : s.flashLaw) (addr : Nat) : (s.readFlash addr).2.flashLaw :=
  Flash.oneRunning_of_startsNone (Flash.read_startsNone _ _ _) h

theorem State.sendWrites_flashLaw (h : s.flashLaw) (q : SequenceRequest) : (s.sendWrites q).flashLaw :=
  Flash.writes_oneRunning h _ _

theorem State.grantPoll_flashLaw (h : s.flashLaw) : s.grantPoll.flashLaw := by
  unfold State.grantPoll
  split
  · exact h
  · exact State.readFlash_flashLaw h _

theorem State.grantByClass_flashLaw (h : s.flashLaw) : s.grantByClass.flashLaw := by
  have hother {u : State} (hu : u.flash = s.flash) : u.flashLaw := State.flashLaw_of_same hu h
  unfold State.grantByClass
  split
  · exact hother (by simp)
  · split
    · exact hother (by simp)
    · split
      · exact hother (by simp)
      · split
        · exact State.grantPoll_flashLaw h
        · split
          · exact hother (by simp)
          · split
            · exact hother (by simp)
            · exact h

theorem State.grantRequest_flashLaw (h : s.flashLaw) : s.grantRequest.flashLaw := by
  unfold State.grantRequest
  split
  · exact State.grantByClass_flashLaw h
  · split
    · exact h
    · split
      · exact h
      · exact State.grantByClass_flashLaw h

theorem State.grant_flashLaw (h : s.flashLaw) : s.grant.flashLaw := by
  unfold State.grant
  split
  · split
    · unfold State.grantSettle
      split
      · exact h
      · exact State.readFlash_flashLaw h _
      all_goals exact State.grantRequest_flashLaw h
    · exact State.grantRequest_flashLaw h
  · exact h

/-- The access carried to its end reads or writes the flash as it would have done (log 6). -/
theorem State.finishAccess_flashLaw (h : s.flashLaw) : s.finishAccess.flashLaw := by
  unfold State.finishAccess
  split
  · exact h
  · exact State.readFlash_flashLaw h _
  · exact State.readFlash_flashLaw h _
  · exact h
  · exact State.readFlash_flashLaw h _
  · exact State.readFlash_flashLaw h _
  all_goals exact State.sendWrites_flashLaw h _

theorem State.stopBlocks_flashLaw (h : s.flashLaw) : s.stopBlocks.flashLaw :=
  State.finishAccess_flashLaw (s := s.stopTimer) h

theorem State.beginReset_flashLaw (h : s.flashLaw) (cause : ResetCause) : (s.beginReset cause).flashLaw := by
  unfold State.beginReset
  split
  · exact h
  · exact State.flashLaw_of_same (s := s.stopBlocks) (by simp) (State.stopBlocks_flashLaw h)

theorem State.powerOn_flashLaw (h : s.flashLaw) (flash : Option (List Word)) : (s.powerOn flash).flashLaw := by
  cases flash with
  | none => exact State.beginReset_flashLaw h .powerOn
  | some left => exact Flash.powerCycle_oneRunning _ left

theorem State.brownOutFalls_flashLaw (h : s.flashLaw) : s.brownOutFalls.flashLaw := by
  have hseen : s.brownOutSeen.flashLaw := State.flashLaw_of_same (by simp) h
  rw [State.brownOutFalls_eq]
  split
  · exact State.flashLaw_of_same (s := s.brownOutSeen.stopBlocks) (by simp [State.enterHalted])
      (State.stopBlocks_flashLaw hseen)
  · exact hseen

theorem State.brownOutRecovers_flashLaw (h : s.flashLaw) : s.brownOutRecovers.flashLaw := by
  unfold State.brownOutRecovers
  split
  · exact h
  · split
    · exact State.beginReset_flashLaw h .brownOut
    · exact h

theorem State.cpReturns_flashLaw (h : s.flashLaw) : s.cpReturns.flashLaw := by
  unfold State.cpReturns
  split
  · next r _ _ =>
    have hread := State.readFlash_flashLaw h r.addr
    dsimp only
    split
    · split
      · exact hread
      · exact State.flashLaw_of_same (by simp) hread
    · exact State.flashLaw_of_same (by simp) hread
  · exact h

theorem State.elReturns_flashLaw (h : s.flashLaw) : s.elReturns.flashLaw := by
  unfold State.elReturns
  split
  · next r _ _ =>
    have hread := State.readFlash_flashLaw h r.addr
    dsimp only
    split <;> exact State.flashLaw_of_same (by simp) hread
  · exact h

theorem State.burstWord_flashLaw (h : s.flashLaw) (b : Burst) : (s.burstWord b).flashLaw := by
  have hread := State.readFlash_flashLaw h (b.base + b.read)
  unfold State.burstWord
  dsimp only
  split <;> exact hread

theorem State.burstAdvances_flashLaw (h : s.flashLaw) : s.burstAdvances.flashLaw := by
  unfold State.burstAdvances
  split
  · split
    · next b _ _ => exact State.flashLaw_of_same (by simp) (State.burstWord_flashLaw h b)
    · exact h
  · exact h

theorem State.burstEnds_flashLaw (h : s.flashLaw) : s.burstEnds.flashLaw := by
  unfold State.burstEnds
  split
  · split
    · next b _ _ =>
      have hword := State.burstWord_flashLaw h b
      dsimp only
      split
      · exact State.flashLaw_of_same (by simp) hword
      · exact hword
    · exact h
  · exact h

theorem State.sequenceSent_flashLaw (h : s.flashLaw) : s.sequenceSent.flashLaw := by
  have hsent (q : SequenceRequest) {u : State} (hu : u.flash = (s.sendWrites q).flash) : u.flashLaw :=
    State.flashLaw_of_same hu (State.sendWrites_flashLaw h q)
  unfold State.sequenceSent
  split
  · next q _ =>
    refine hsent q ?_
    unfold State.forwardSent
    dsimp only
    split <;> split <;> simp
  · next q _ =>
    refine hsent q ?_
    unfold State.maintSent
    dsimp only
    split
    · split <;> simp
    · simp
  · next q _ =>
    refine hsent q ?_
    unfold State.settleSent
    dsimp only
    split <;> simp
  · exact h

theorem State.flashEnds_flashLaw (h : s.flashLaw) (error : Bool) (left : List Word) :
    (s.flashEnds error left).flashLaw := by
  unfold State.flashEnds
  split
  · exact Flash.oneRunning_of_startsNone (Flash.endOp_startsNone _ _ _ _ _) h
  · exact h

theorem State.pollEnds_flashLaw (h : s.flashLaw) : s.pollEnds.flashLaw := by
  unfold State.pollEnds
  split
  · next p _ _ =>
    have hread := State.readFlash_flashLaw h p.addr
    dsimp only
    split
    · exact State.flashLaw_of_same (by simp) hread
    · exact hread
  · next p _ _ =>
    have hread := State.readFlash_flashLaw h p.addr
    dsimp only
    split
    · exact State.flashLaw_of_same (by simp) hread
    · exact hread
  · exact h

theorem State.endReset_flashLaw (h : s.flashLaw) (fsz swl : BitVec 2) (low : Bool) :
    (s.endReset fsz swl low).flashLaw := by
  unfold State.endReset
  dsimp only
  split
  · exact h
  · exact State.flashLaw_of_same (s := s.volatileReset fsz swl low) (by simp) h

theorem State.answerFrame_flash {act : State × List Byte} (h : act.1.flash = s.flash) :
    (s.answerFrame act).flash = s.flash := by
  unfold State.answerFrame
  split
  · split
    · exact h
    · rfl
  all_goals rfl

/-! ## Every command -/

theorem exec_flashLaw {c : Instr} (h : s.flashLaw) (he : exec c s = .next t) : t.flashLaw := by
  have hsame {u : State} (hu : .next u = (.next t : Host.Outcome State Fault Refusal)) (hf : u.flash = s.flash) :
      t.flashLaw := by
    rw [next_inj hu]
    exact State.flashLaw_of_same hf h
  cases c with
  -- the commands that reach the flash
  | powerOn flash => rw [next_inj he]; exact State.powerOn_flashLaw h flash
  | nrstFall => rw [next_inj he]; exact State.beginReset_flashLaw h .pin
  | brownOutFall => rw [next_inj he]; exact State.brownOutFalls_flashLaw h
  | brownOutRecovery => rw [next_inj he]; exact State.brownOutRecovers_flashLaw h
  | flashGrant => rw [next_inj he]; exact State.grant_flashLaw h
  | burstWordBoundary => rw [next_inj he]; exact State.burstAdvances_flashLaw h
  | burstComplete => rw [next_inj he]; exact State.burstEnds_flashLaw h
  | cpWordReturn => rw [next_inj he]; exact State.cpReturns_flashLaw h
  | elWordReturn => rw [next_inj he]; exact State.elReturns_flashLaw h
  | sequenceSent => rw [next_inj he]; exact State.sequenceSent_flashLaw h
  | flashOperationEnd error left => rw [next_inj he]; exact State.flashEnds_flashLaw h error left
  | pollPairComplete => rw [next_inj he]; exact State.pollEnds_flashLaw h
  -- the commands that leave the flash as it is
  | partResetEnd fsz swl low =>
    rw [next_inj he]
    split
    · exact State.endReset_flashLaw h fsz swl low
    · exact h
  | slStatus | slRegion _ | slChunks _ _ | slCapture | slCounters | slKeys | slProvision _ _ | slRevoke _ | slClose
  | slLock | slWipe | slPatrol | slUnknown _ =>
    exact hsame he (State.answerFrame_flash (by simp))
  | supplyWarningRise | cpReadArrival _ | cpWriteArrival _ _ | elIdent | elUnknownCommand _ =>
    exact hsame he (by split <;> simp)
  | supplyWarningFall | crstInAssert | crstInDeassert | intakeDeadlineExpiry | bootDeadlineExpiry | patrolIntervalExpiry
  | pgateHalfPeriod | chunkHashComplete | listPieceHashComplete | keyPassComplete | spanPassComplete | signatureCheckEnd
  | cpReadAbandon | cpAccessEnd | pollRetryTick | wipeSectorStart | elFrameBegin | elRead _ | elStatus
  | elReadByteBoundary | elStatusByteBoundary | elFrameEnd | slFrameEnd | slFrameBegin | fuseStepEnd | fuseOperationEnd =>
    exact hsame he (by simp)

end

/-- Settles O7: a write starts an operation only where no bank is RUNNING (`Flash.start_oneRunning`); a read, an operation's end and
a power-up of the flash start none. -/
theorem everyStepKeepsOneBankRunning : Obligations.EveryStepKeepsOneBankRunning := by
  intro s t hl h
  obtain rfl | ⟨c, rest, h⟩ := step_cases h
  · exact State.flashLaw_of_same (by simp) hl
  · exact exec_flashLaw (s := s.withPending rest) hl h

end Sys2Proof.Machine
end

section
/-! The grant (R87, R88, R91): what goes first, which slot of a class, and what is held back. -/

namespace Sys2Proof.Machine

/-! ## What a grant can be -/

section
variable {s : State}

/-- What a grant may make of the arbiter: it stays, a settling access is begun, or one request that may be granted, or a burst put
aside, is begun and no longer waits. -/
inductive State.Granted (s : State) : Arbiter → Prop
  | nothing : s.Granted s.arbiter
  | settling (t : Settle) (a : Access) (ha : ∀ q, a ≠ .cpSequence q) :
      s.Granted { s.arbiter with settle := some t, access := some a }
  | cp (h : s.cpOpen) (a : Access) : s.Granted { s.arbiter with cpWait := none, access := some a }
  | el (h : s.elOpen) (r : ElWordRequest) :
      s.Granted { s.arbiter with elWait := none, access := some (.elRead r true) }
  | slot (c : BurstClass) (i : Fin 8) (h : s.slotOpen c i) (r3 r5 : Fin 8) (b : Burst) :
      s.Granted { s.arbiter with slotWait := s.arbiter.slotWait.set i none, rr3 := r3, rr5 := r5,
                                 access := some (.burst b) }
  | poll (h : s.pollOpen) (p : PollRequest) (w : Word) :
      s.Granted { s.arbiter with pollWait := none, access := some (.filterPoll p w) }
  | maint (h : s.maintOpen) (q : SequenceRequest) :
      s.Granted { s.arbiter with maintWait := none, access := some (.maintenance q) }
  | parked (h : s.parkedOpen) (b : Burst) : s.Granted { s.arbiter with parked := none, access := some (.burst b) }
  | suspended (b : Burst) : s.Granted { s.arbiter with suspended := none, access := some (.burst b) }

/-- A slot whose request may be granted has an address to fill from. -/
theorem State.slotAddr_of_burstGrantable {c : BurstClass} {i : Fin 8} (h : s.burstGrantable c i = true) :
    ∃ b base, s.slotAddr i = some (b, base) := by
  obtain ⟨-, b, base, haddr, -⟩ := (s.slotOpen_iff c i).2 h
  exact ⟨b, base, haddr⟩

theorem State.grantCp_granted (h : s.cpGrantable = true) : s.Granted s.grantCp.arbiter := by
  have hopen := s.cpOpen_iff.2 h
  unfold State.grantCp
  split
  · exact .nothing
  all_goals exact .cp hopen _

theorem State.grantEl_granted (h : s.elGrantable = true) : s.Granted s.grantEl.arbiter := by
  unfold State.grantEl
  split
  · exact .nothing
  · exact .el (s.elOpen_iff.2 h) _

theorem State.grantBurst_granted {c : BurstClass} {i : Fin 8} (h : s.burstGrantable c i = true) :
    s.Granted (s.grantBurst c i).arbiter := by
  obtain ⟨b, base, haddr⟩ := State.slotAddr_of_burstGrantable h
  rw [State.grantBurst_eq haddr]
  exact .slot c i ((s.slotOpen_iff c i).2 h) _ _ _

theorem State.grantPoll_granted (h : s.pollGrantable = true) : s.Granted s.grantPoll.arbiter := by
  unfold State.grantPoll
  split
  · exact .nothing
  · exact .poll (s.pollOpen_iff.2 h) _ _

theorem State.grantMaint_granted (h : s.maintGrantable = true) : s.Granted s.grantMaint.arbiter := by
  unfold State.grantMaint
  split
  · exact .nothing
  · exact .maint (s.maintOpen_iff.2 h) _

theorem State.grantByClass_granted : s.Granted s.grantByClass.arbiter := by
  unfold State.grantByClass
  split
  · next h => exact State.grantCp_granted h
  · split
    · next h => exact State.grantEl_granted h
    · split
      · next i h => exact State.grantBurst_granted ((s.pickSlot_spec _ _).1 i h)
      · split
        · next h => exact State.grantPoll_granted h
        · split
          · next i h => exact State.grantBurst_granted ((s.pickSlot_spec _ _).1 i h)
          · split
            · next h => exact State.grantMaint_granted h
            · exact .nothing

theorem State.grantRequest_granted : s.Granted s.grantRequest.arbiter := by
  unfold State.grantRequest
  split
  · exact State.grantByClass_granted
  · split
    · next b h => exact .parked (s.parkedOpen_iff.2 (by rw [h]; rfl)) b
    · split
      · exact .suspended _
      · exact State.grantByClass_granted

theorem State.grant_granted : s.Granted s.grant.arbiter := by
  unfold State.grant
  split
  · split
    · unfold State.grantSettle
      split
      · exact .settling _ _ nofun
      · exact .settling _ _ nofun
      all_goals exact State.grantRequest_granted
    · exact State.grantRequest_granted
  · exact .nothing

/-! ## What is held back -/

variable {a : Arbiter} (hg : s.Granted a)
include hg

theorem State.Granted.cpWait_of_not_open (h : ¬ s.cpOpen) : a.cpWait = s.arbiter.cpWait := by
  cases hg with
  | cp ho => exact absurd ho h
  | _ => rfl

theorem State.Granted.cpSequence_of_not_open (h : ¬ s.cpOpen) {q : SequenceRequest}
    (hq : a.access = some (.cpSequence q)) : s.arbiter.access = some (.cpSequence q) := by
  cases hg with
  | nothing => exact hq
  | cp ho => exact absurd ho h
  | settling t a ha => exact absurd (Option.some.inj hq) (ha q)
  | _ => cases hq

theorem State.Granted.elWait_of_not_open (h : ¬ s.elOpen) : a.elWait = s.arbiter.elWait := by
  cases hg with
  | el ho => exact absurd ho h
  | _ => rfl

theorem State.Granted.slotWait_of_not_open {i : Fin 8} (h : ∀ c, ¬ s.slotOpen c i) :
    a.slotWait[i] = s.arbiter.slotWait[i] := by
  cases hg with
  | slot c j ho =>
    have hne : j ≠ i := fun e => h c (e ▸ ho)
    exact (vector_set_get _ _ _ _).trans (if_neg hne)
  | _ => rfl

theorem State.Granted.parked_of_not_open (h : ¬ s.parkedOpen) : a.parked = s.arbiter.parked := by
  cases hg with
  | parked ho => exact absurd ho h
  | _ => rfl

theorem State.Granted.pollWait_of_not_open (h : ¬ s.pollOpen) : a.pollWait = s.arbiter.pollWait := by
  cases hg with
  | poll ho => exact absurd ho h
  | _ => rfl

theorem State.Granted.maintWait_of_not_open (h : ¬ s.maintOpen) : a.maintWait = s.arbiter.maintWait := by
  cases hg with
  | maint ho => exact absurd ho h
  | _ => rfl

end

/-! ## The slot picked (R88) -/

/-- The lowest slot that answers a test is the one that a search finds. -/
theorem find_allSlots {q : Fin 8 → Bool} {i : Fin 8} (hi : q i = true) (hlow : ∀ j, q j = true → i ≤ j) :
    allSlots.find? q = some i := by
  have hnum (j : Fin 8) : allSlots[j.val]'j.isLt = j := by revert j; decide
  refine List.find?_eq_some_iff_getElem.2 ⟨hi, i.val, i.isLt, hnum i, fun j hj => ?_⟩
  have hlt : j < 8 := hj.trans i.isLt
  have hget := hnum ⟨j, hlt⟩
  rw [Bool.not_eq_true', Bool.eq_false_iff]
  intro hq
  exact absurd hj (Nat.not_lt.2 ((hlow _ hq).trans_eq hget))

section
variable {s : State} {c : BurstClass} {i : Fin 8}

theorem State.pickSlot_eq (s : State) (c : BurstClass) (p : Fin 8) : s.pickSlot c p =
    (allSlots.find? fun j => s.burstGrantable c j && decide (p < j)).or (allSlots.find? (s.burstGrantable c)) := by
  unfold State.pickSlot
  simp only [List.find?_filter, List.head?_filter, Bool.decide_and, Bool.decide_eq_true]
  cases allSlots.find? fun j => s.burstGrantable c j && decide (p < j) <;> rfl

/-- The lowest slot above the pointer is picked. -/
theorem State.pickSlot_above {p : Fin 8} (h : s.slotOpen c i) (hp : p < i)
    (hlow : ∀ j, p < j → s.slotOpen c j → i ≤ j) : s.pickSlot c p = some i := by
  simp only [State.slotOpen_iff] at h hlow
  have hfind : allSlots.find? (fun j => s.burstGrantable c j && decide (p < j)) = some i :=
    find_allSlots (by simp [h, hp]) fun j hj => by
      obtain ⟨hopen, hpj⟩ := Bool.and_eq_true_iff.1 hj
      exact hlow j (of_decide_eq_true hpj) hopen
  rw [State.pickSlot_eq, hfind]
  rfl

/-- With none above the pointer the lowest slot is picked. -/
theorem State.pickSlot_lowest {p : Fin 8} (h : s.slotOpen c i) (hnone : ∀ j, p < j → ¬ s.slotOpen c j)
    (hlow : ∀ j, s.slotOpen c j → i ≤ j) : s.pickSlot c p = some i := by
  simp only [State.slotOpen_iff] at h hlow hnone
  have hfind : allSlots.find? (fun j => s.burstGrantable c j && decide (p < j)) = none :=
    List.find?_eq_none.2 fun j _ hj => by
      obtain ⟨hopen, hpj⟩ := Bool.and_eq_true_iff.1 hj
      exact hnone j (of_decide_eq_true hpj) hopen
  rw [State.pickSlot_eq, hfind]
  exact find_allSlots h hlow

theorem State.grant_of_pick3 (ht : s.class3Turn) (hp : s.pickSlot .class3 s.arbiter.rr3 = some i) :
    s.grant = s.grantBurst .class3 i := by
  rw [State.grant_of_class3Turn ht, hp]

theorem State.grant_of_pick5 (ht : s.class5Turn) (hp : s.pickSlot .class5 s.arbiter.rr5 = some i) :
    s.grant = s.grantBurst .class5 i := by
  rw [State.grant_of_class5Turn ht, hp]

/-- The grant of a class's turn is the burst of the slot picked from the class's own pointer. -/
theorem State.grant_of_pick (h3 : c = .class3 → s.class3Turn) (h5 : c = .class5 → s.class5Turn)
    (hp : s.pickSlot c (if c = .class3 then s.arbiter.rr3 else s.arbiter.rr5) = some i) :
    s.grant = s.grantBurst c i := by
  cases c with
  | class3 => exact State.grant_of_pick3 (h3 rfl) hp
  | class5 => exact State.grant_of_pick5 (h5 rfl) hp

theorem State.pickSlot_none {p : Fin 8} (h : ∀ j, ¬ s.slotOpen c j) : s.pickSlot c p = none := by
  rw [(s.pickSlot_spec c p).2]
  exact fun j => Bool.eq_false_iff.2 fun hj => h j ((s.slotOpen_iff c j).2 hj)

/-- Where some slot of a class may be granted, one of them is picked. -/
theorem State.pickSlot_some (h : ∃ j, s.slotOpen c j) (p : Fin 8) :
    ∃ j, s.pickSlot c p = some j ∧ s.slotOpen c j := by
  obtain ⟨k, hk⟩ := h
  cases hp : s.pickSlot c p with
  | none =>
    have hnone := (s.pickSlot_spec c p).2.1 hp k
    rw [State.slotOpen_iff, hnone] at hk
    cases hk
  | some j => exact ⟨j, rfl, (s.slotOpen_iff c j).2 ((s.pickSlot_spec c p).1 j hp)⟩

end

/-! ## What goes first (R87) -/

section
variable {s : State}

theorem State.grantRequest_of_urgent (h : s.urgentGrantable = true) : s.grantRequest = s.grantByClass := by
  rw [State.grantRequest, if_pos h]

theorem State.urgentGrantable_iff (s : State) : s.urgentGrantable = true ↔ s.cpOpen ∨ s.elOpen := by
  rw [State.cpOpen_iff, State.elOpen_iff, State.urgentGrantable, Bool.or_eq_true]

theorem State.grantRequest_of_cpOpen (h : s.cpOpen) : s.grantRequest = s.grantCp := by
  rw [State.grantRequest_of_urgent (s.urgentGrantable_iff.2 (.inl h)), State.grantByClass, if_pos (s.cpOpen_iff.1 h)]

theorem State.grantRequest_of_elOpen (hc : ¬ s.cpOpen) (h : s.elOpen) : s.grantRequest = s.grantEl := by
  rw [State.grantRequest_of_urgent (s.urgentGrantable_iff.2 (.inr h)), State.grantByClass,
    if_neg (mt s.cpOpen_iff.2 hc), if_pos (s.elOpen_iff.1 h)]

theorem State.parkedReady_of_open {b : Burst} (hb : s.arbiter.parked = some b) (h : s.parkedOpen) :
    s.parkedReady = some b := by
  obtain ⟨b', hb', hidle⟩ := h
  obtain rfl : b = b' := Option.some.inj (hb.symm.trans hb')
  simp [State.parkedReady, hb, hidle]

theorem State.parkedReady_of_not_open (h : ¬ s.parkedOpen) : s.parkedReady = none :=
  Option.not_isSome_iff_eq_none.1 (mt s.parkedOpen_iff.2 h)

theorem State.grantRequest_of_parked (hu : ¬ (s.cpOpen ∨ s.elOpen)) {b : Burst} (hb : s.arbiter.parked = some b)
    (h : s.parkedOpen) : s.grantRequest =
      s.withArbiter { s.arbiter with parked := none, access := some (.burst b) } := by
  rw [State.grantRequest, if_neg (mt s.urgentGrantable_iff.1 hu), State.parkedReady_of_open hb h]
  rfl

theorem State.grantRequest_of_suspended (hu : ¬ (s.cpOpen ∨ s.elOpen)) (hp : ¬ s.parkedOpen) {b : Burst}
    (hb : s.arbiter.suspended = some b) : s.grantRequest =
      s.withArbiter { s.arbiter with suspended := none, access := some (.burst b) } := by
  rw [State.grantRequest, if_neg (mt s.urgentGrantable_iff.1 hu), State.parkedReady_of_not_open hp, hb]
  rfl

/-- A settling access due goes ahead of every request (R97). -/
theorem State.grant_of_settle (hl : s.live = true) (ha : s.arbiter.access = none) {t : Settle}
    (ht : s.arbiter.settle = some t) : s.grant = s.grantSettle t := by
  simp [State.grant, hl, ha, ht]

/-- The turn of class 3 with no slot of class 3 to grant: the filter's poll pair. -/
theorem State.grant_of_poll (ht : s.class3Turn) (hn : ∀ i, ¬ s.slotOpen .class3 i) (h : s.pollOpen) :
    s.grant = s.grantPoll := by
  rw [State.grant_of_class3Turn ht, State.pickSlot_none hn]
  exact if_pos (s.pollOpen_iff.1 h)

/-- The turn of class 5 with no slot of class 5 to grant: a maintenance sequence that may go, or nothing. -/
theorem State.grant_of_class5_none (ht : s.class5Turn) (hn : ∀ i, ¬ s.slotOpen .class5 i) :
    s.grant = if s.maintGrantable then s.grantMaint else s := by
  rw [State.grant_of_class5Turn ht, State.pickSlot_none hn]

end

/-- Settles O24: the grant of R87 case by case; a slot of a class's turn is one that may be granted (`State.pickSlot_some`). -/
theorem theGrantTakesTheMostUrgentRequest : Obligations.TheGrantTakesTheMostUrgentRequest := by
  intro s
  refine ⟨fun hl ha b => ⟨fun ht => ?_, fun ht => ?_⟩, fun hf => ⟨fun r hr hc => ?_, fun q hq hc => ?_,
    fun r hc hr he => ?_, fun b hc he hb hp => ?_, fun b hc he hp hb => ?_⟩,
    fun h3 => ⟨fun hs => ?_, fun hn p hp ho => ?_⟩, fun h5 => ⟨fun hs => ?_, fun hn q hq ho => ?_⟩⟩
  · exact congrArg Host.Outcome.next (State.grant_of_settle hl ha ht)
  · exact congrArg Host.Outcome.next (State.grant_of_settle hl ha ht)
  · refine congrArg Host.Outcome.next ((State.grant_of_portFree hf).trans ?_)
    rw [State.grantRequest_of_cpOpen hc, State.grantCp, hr]
    rfl
  · refine congrArg Host.Outcome.next ((State.grant_of_portFree hf).trans ?_)
    rw [State.grantRequest_of_cpOpen hc, State.grantCp, hq]
    rfl
  · refine congrArg Host.Outcome.next ((State.grant_of_portFree hf).trans ?_)
    rw [State.grantRequest_of_elOpen hc he, State.grantEl, hr]
    rfl
  · exact congrArg Host.Outcome.next
      ((State.grant_of_portFree hf).trans (State.grantRequest_of_parked (not_or.2 ⟨hc, he⟩) hb hp))
  · exact congrArg Host.Outcome.next
      ((State.grant_of_portFree hf).trans (State.grantRequest_of_suspended (not_or.2 ⟨hc, he⟩) hp hb))
  · obtain ⟨i, hi, hopen⟩ := State.pickSlot_some hs s.arbiter.rr3
    obtain ⟨-, b, base, haddr, -⟩ := id hopen
    exact ⟨_, _, congrArg Host.Outcome.next ((State.grant_of_pick3 h3 hi).trans (State.grantBurst_eq haddr)), hopen, rfl⟩
  · refine congrArg Host.Outcome.next ((State.grant_of_poll h3 hn ho).trans ?_)
    rw [State.grantPoll, hp]
    rfl
  · obtain ⟨i, hi, hopen⟩ := State.pickSlot_some hs s.arbiter.rr5
    obtain ⟨-, b, base, haddr, -⟩ := id hopen
    exact ⟨_, _, congrArg Host.Outcome.next ((State.grant_of_pick5 h5 hi).trans (State.grantBurst_eq haddr)), hopen, rfl⟩
  · refine congrArg Host.Outcome.next ((State.grant_of_class5_none h5 hn).trans ?_)
    rw [if_pos (s.maintOpen_iff.1 ho), State.grantMaint, hq]
    rfl

/-- Settles O25: whatever a grant is (`State.grant_granted`), what it takes off the waiting requests may be granted. -/
theorem aHeldBackRequestIsNotGranted : Obligations.AHeldBackRequestIsNotGranted := by
  intro s
  have hg := s.grant_granted
  refine ⟨⟨s.grant, rfl, fun h => ⟨hg.cpWait_of_not_open h, fun q => hg.cpSequence_of_not_open h⟩, hg.elWait_of_not_open,
    fun i => hg.slotWait_of_not_open, hg.parked_of_not_open, hg.pollWait_of_not_open, hg.maintWait_of_not_open⟩,
    fun h5 hn hm => ?_, fun h => ?_⟩
  · refine congrArg Host.Outcome.next ((State.grant_of_class5_none h5 hn).trans ?_)
    exact if_neg (mt s.maintOpen_iff.2 hm)
  · refine congrArg Host.Outcome.next ?_
    rcases h with h | h
    · simp [State.grant, Option.isSome_iff_ne_none.1 h]
    · exact State.grant_of_stopped h

/-- Settles O26: the slot picked is the lowest above the pointer, else the lowest (`State.pickSlot_above`,
`State.pickSlot_lowest`); with two to pick from, the one that is not at the pointer. -/
theorem slotsOfAClassAreServedRoundRobin : Obligations.SlotsOfAClassAreServedRoundRobin := by
  intro s c h3 h5 p
  refine ⟨fun i hi hlow b base haddr => ?_, fun i j hij hopen hp => ?_⟩
  · have hpick : s.pickSlot c p = some i := by
      rcases hlow with ⟨hp, hlow⟩ | ⟨hnone, hlow⟩
      · exact State.pickSlot_above hi hp hlow
      · exact State.pickSlot_lowest hi hnone hlow
    exact congrArg Host.Outcome.next ((State.grant_of_pick h3 h5 hpick).trans (State.grantBurst_eq haddr))
  · have hj : s.slotOpen c j := (hopen j).2 (.inr rfl)
    have hpick : s.pickSlot c p = some j := by
      rw [hp]
      rcases lt_or_gt_of_ne hij with hlt | hlt
      · refine State.pickSlot_above hj hlt fun k hk hok => ?_
        rcases (hopen k).1 hok with rfl | rfl
        · exact absurd hk (lt_irrefl _)
        · exact le_rfl
      · refine State.pickSlot_lowest hj (fun k hk hok => ?_) fun k hok => ?_
        · rcases (hopen k).1 hok with rfl | rfl
          · exact absurd hk (lt_irrefl _)
          · exact absurd hk hlt.asymm
        · rcases (hopen k).1 hok with rfl | rfl
          · exact hlt.le
          · exact le_rfl
    obtain ⟨-, b, base, haddr, -⟩ := id hj
    exact ⟨_, _, congrArg Host.Outcome.next ((State.grant_of_pick h3 h5 hpick).trans (State.grantBurst_eq haddr)), rfl, rfl⟩

end Sys2Proof.Machine
end

section
/-! The flash alone: whole command sequences start and reset a bank, and an operation ends in the array (R92, R93). -/

namespace Sys2Proof.Machine

/-! ## Where a bank's words lie (R1) -/

/-- Every offset of the command scheme lies in a bank. -/
theorem bankWords_ge (fsz : BitVec 2) : 2 ^ 20 ≤ bankWords fsz := Nat.le_mul_of_pos_right _ (Nat.two_pow_pos _)

theorem bankOfFlash_at (b : Bank) {words k : Nat} (hk : k < words) : bankOfFlash words (b.toNat * words + k) = b := by
  unfold bankOfFlash
  cases b with
  | bank0 => exact if_pos (by simpa [Bank.toNat] using hk)
  | bank1 => exact if_neg (by simp [Bank.toNat])

/-- The sector of a bank's word, as an address and as an offset: a bank holds whole sectors. -/
theorem sector_at (b : Bank) (fsz : BitVec 2) (o : Nat) : (b.toNat * bankWords fsz + o) / 32768 * 32768 =
    b.toNat * bankWords fsz + o / 32768 * 32768 := by
  have h : b.toNat * bankWords fsz = 32768 * (b.toNat * (32 * 2 ^ fsz.toNat)) := by
    unfold bankWords
    ring
  rw [h, Nat.mul_add_div (by decide), Nat.add_mul, Nat.mul_comm 32768]

theorem Bank.other_ne (b : Bank) : b ≠ b.other := by cases b <;> decide

/-! ## The command scheme -/

@[simp] theorem Flash.bank_following (f : Flash) (q : FlashSequence) (b : Bank) :
    Flash.bank { f with following := q } b = f.bank b := by cases b <;> rfl

theorem Flash.following_none {f : Flash} (h : f.following = .none) : { f with following := .none } = f := by
  rw [← h]

section
variable {f : Flash} {b : Bank} (hr : (f.bank b).isRunning = false)
include hr

/-- The two enables that open a sequence: the flash then waits for the command. -/
theorem Flash.writes_enabled (hf : f.following = .none) {words : Nat} (hw : 0x1E00 < words) (ws : List (Nat × Word)) :
    Flash.writes words f ((b.toNat * words + 0x1E00, 0x5A3C#16) :: (b.toNat * words + 0x0E1E, 0xA5C3#16) :: ws) =
      Flash.writes words { f with following := .enabled2 b } ws := by
  have hfirst : f.write words (b.toNat * words + 0x1E00) 0x5A3C#16 = { f with following := .enabled1 b } := by
    simp [Flash.write, bankOfFlash_at b hw, hr, hf, isFirstEnable]
  have hsecond : Flash.write words { f with following := .enabled1 b } (b.toNat * words + 0x0E1E) 0xA5C3#16 =
      { f with following := .enabled2 b } := by
    simp [Flash.write, bankOfFlash_at b (Nat.lt_trans (by decide : 0x0E1E < 0x1E00) hw), hr, isSecondEnable]
  rw [Flash.writes, hfirst, Flash.writes, hsecond]

theorem Flash.write_programCommand {words : Nat} (hw : 0x1E00 < words) :
    Flash.write words { f with following := .enabled2 b } (b.toNat * words + 0x1E00) 0x0071#16 =
      { f with following := .programWait b } := by
  simp [Flash.write, bankOfFlash_at b hw, hr]

theorem Flash.write_eraseCommand {words : Nat} (hw : 0x1E00 < words) :
    Flash.write words { f with following := .enabled2 b } (b.toNat * words + 0x1E00) 0x0026#16 =
      { f with following := .eraseWait b } := by
  simp [Flash.write, bankOfFlash_at b hw, hr]

theorem Flash.write_resetCommand {words : Nat} (hw : 0x1E00 < words) :
    Flash.write words { f with following := .enabled2 b } (b.toNat * words + 0x1E00) 0x00F5#16 =
      Flash.resetBank { f with following := .enabled2 b } b := by
  simp [Flash.write, bankOfFlash_at b hw, hr]

theorem Flash.write_programData {words o : Nat} (ho : o < words) (v : Word) :
    Flash.write words { f with following := .programWait b } (b.toNat * words + o) v =
      Flash.start { f with following := .programWait b } b (.program (b.toNat * words + o) v) := by
  simp [Flash.write, bankOfFlash_at b ho, hr]

theorem Flash.write_eraseConfirm {words o : Nat} (ho : o < words) :
    Flash.write words { f with following := .eraseWait b } (b.toNat * words + o) 0x00D9#16 =
      Flash.start { f with following := .eraseWait b } b (.erase ((b.toNat * words + o) / 32768 * 32768)) := by
  simp [Flash.write, bankOfFlash_at b ho, hr]

end

/-- The final write starts its bank where it is in ARRAY and no bank is RUNNING. -/
theorem Flash.start_of_idle {f : Flash} {b : Bank} (hf : f.following = .none) (h0 : f.bank0.isRunning = false)
    (h1 : f.bank1.isRunning = false) (hm : (f.bank b).mode = .array) (q : FlashSequence) (op : FlashOp) :
    Flash.start { f with following := q } b op = f.setBank b { mode := .running op, toggle := false } := by
  simp [Flash.start, h0, h1, hm, Flash.following_none hf]

theorem Flash.resetBank_of_failed {f : Flash} {b : Bank} (hf : f.following = .none) (hm : (f.bank b).mode = .failed)
    (q : FlashSequence) :
    Flash.resetBank { f with following := q } b = f.setBank b { (f.bank b) with mode := .array } := by
  simp [Flash.resetBank, hm, Flash.following_none hf]

/-- Settles O29: the enables, the command and the final write bring the flash from each place of the scheme to the next
(`Flash.writes_enabled` and the `Flash.write_…` lemmas), to `Flash.start` or `Flash.resetBank` at last. -/
theorem theFlashStartsOnAWholeSequence : Obligations.TheFlashStartsOnAWholeSequence := by
  intro f fsz b o v ho hf h0 h1 w at_
  have hw : 0x1E00 < w := lt_of_lt_of_le (by decide) (bankWords_ge fsz)
  have hr : (f.bank b).isRunning = false := by cases b <;> assumption
  refine ⟨fun hm => ⟨?_, ?_⟩, fun hm => ?_⟩
  · rw [Flash.writes_enabled hr hf hw, Flash.writes, Flash.write_programCommand hr hw, Flash.writes,
      Flash.write_programData hr ho, Flash.writes, Flash.start_of_idle hf h0 h1 hm]
  · rw [Flash.writes_enabled hr hf hw, Flash.writes, Flash.write_eraseCommand hr hw, Flash.writes,
      Flash.write_eraseConfirm hr ho, Flash.writes, Flash.start_of_idle hf h0 h1 hm, sector_at]
  · rw [Flash.writes_enabled hr hf hw, Flash.writes, Flash.write_resetCommand hr hw, Flash.writes,
      Flash.resetBank_of_failed hf hm]

/-! ## The end of an operation -/

theorem Flash.setBank_arrayWord (f : Flash) (b : Bank) (v : FlashBank) (a : Nat) :
    (f.setBank b v).arrayWord a = f.arrayWord a := by cases b <;> rfl

/-- The operation of the one bank that is RUNNING. -/
theorem Flash.runningOp_of_running {f : Flash} (hf : f.oneRunning) {b : Bank} {op : FlashOp}
    (hm : (f.bank b).mode = .running op) : f.runningOp = some (b, op) := by
  unfold Flash.runningOp
  cases b with
  | bank0 =>
    have h0 : f.bank0.mode = .running op := hm
    rw [h0]
  | bank1 =>
    have h1 : f.bank1.mode = .running op := hm
    have hone : ¬ f.bank0.isRunning = true := fun h0 => hf ⟨h0, by simp [FlashBank.isRunning, h1]⟩
    unfold FlashBank.isRunning at hone
    cases h0 : f.bank0.mode with
    | running op' => rw [h0] at hone; exact absurd rfl hone
    | array => rw [h1]
    | failed => rw [h1]

/-- A PROGRAM that the flash could complete leaves the AND, and FAILED where the data has a 1 over a 0. -/
theorem Flash.endOp_program (f : Flash) (b : Bank) (addr : Nat) (data : Word) (left : List Word) :
    f.endOp b (.program addr data) false left =
      ({ f with cells := Memory.writeWord flashDefault f.cells addr (f.arrayWord addr &&& data) }).setBank b
        { (f.bank b) with mode := if f.arrayWord addr &&& data = data then .array else .failed } := by
  by_cases h : f.arrayWord addr &&& data = data <;> simp [Flash.endOp, h]

theorem Flash.endOp_erase (f : Flash) (b : Bank) (sector : Nat) (left : List Word) :
    f.endOp b (.erase sector) false left =
      ({ f with cells := Memory.clear f.cells (2 * sector) (2 * (sector + 32768)) }).setBank b
        { (f.bank b) with mode := .array } := rfl

/-- A clear of whole words, word by word. -/
theorem Memory.readWord_clear {d : Byte} {m : Memory} (h : Memory.wf d m = true) (lo hi a : Nat) :
    Memory.readWord d (Memory.clear m (2 * lo) (2 * hi)) a = if lo ≤ a ∧ a < hi then d ++ d else Memory.readWord d m a := by
  have hhigh : (2 * lo ≤ 2 * a + 1 ∧ 2 * a + 1 < 2 * hi) ↔ (lo ≤ a ∧ a < hi) := by omega
  have hlow : (2 * lo ≤ 2 * a ∧ 2 * a < 2 * hi) ↔ (lo ≤ a ∧ a < hi) := by omega
  unfold Memory.readWord
  rw [Memory.read_clear h, Memory.read_clear h]
  simp only [hhigh, hlow]
  split <;> rfl

theorem exec_flashOperationEnd {s : State} (hf : s.flashLaw) {b : Bank} {op : FlashOp}
    (h : (s.flash.bank b).mode = .running op) :
    exec (.flashOperationEnd false []) s = .next (s.withFlash (s.flash.endOp b op false [])) := by
  refine congrArg Host.Outcome.next ?_
  rw [State.flashEnds, Flash.runningOp_of_running hf h]

/-- Settles O31: the operation is the one RUNNING (`Flash.runningOp_of_running`), and its end is `Flash.endOp_program` or
`Flash.endOp_erase`. -/
theorem aFlashOperationEndsInTheArray : Obligations.AFlashOperationEndsInTheArray := by
  intro s hm hf
  refine ⟨fun b addr data h => ⟨_, exec_flashOperationEnd hf h, rfl, fun a => ?_, ?_, ?_, ?_⟩,
    fun b sector h => ⟨_, exec_flashOperationEnd hf h, rfl, fun a => ?_, ?_, ?_⟩⟩
  · rw [State.withFlash_flash, Flash.endOp_program, Flash.setBank_arrayWord]
    refine (Memory.readWord_writeWord hm.1).trans ?_
    split
    · next e => rw [e]
    · rfl
  · rw [State.withFlash_flash, Flash.endOp_program, Flash.bank_setBank, if_pos rfl]
  · rw [State.withFlash_flash, Flash.endOp_program, Flash.bank_setBank, if_pos rfl]
  · rw [State.withFlash_flash, Flash.endOp_program, Flash.bank_setBank, if_neg b.other_ne]
    cases b <;> rfl
  · rw [State.withFlash_flash, Flash.endOp_erase, Flash.setBank_arrayWord]
    exact Memory.readWord_clear hm.1 _ _ _
  · rw [State.withFlash_flash, Flash.endOp_erase, Flash.bank_setBank, if_pos rfl]
  · rw [State.withFlash_flash, Flash.endOp_erase, Flash.bank_setBank, if_neg b.other_ne]
    cases b <;> rfl

end Sys2Proof.Machine
end

section
/-! Poll pairs: what the second read and the first say together, for the operation in flight and for settling (R94, R97, R124). -/

namespace Sys2Proof.Machine

/-! ## The two words of a pair (R94) -/

theorem judgePair_same (w : Word) : judgePair w w = .endedClean := if_pos rfl

/-- Two status words of a FAILED bank, TOGGLE turned between them (R93). -/
theorem judgePair_failed (t : Bool) : judgePair (0x0200#16 ||| toggleBit !t) (0x0200#16 ||| toggleBit t) = .endedError := by
  cases t <;> rfl

/-- Two status words of a RUNNING bank. -/
theorem judgePair_running (t : Bool) : judgePair (0x1000#16 ||| toggleBit !t) (0x1000#16 ||| toggleBit t) = .running := by
  cases t <;> rfl

section
variable {s : State} {addr : Nat}

theorem State.readFlash_array (h : (s.flash.bank (bankOfFlash s.bankWords addr)).mode = .array) :
    s.readFlash addr = (s.flash.arrayWord addr, s) := by
  simp [State.readFlash, Flash.read, h]

theorem State.readFlash_failed (h : (s.flash.bank (bankOfFlash s.bankWords addr)).mode = .failed) :
    (s.readFlash addr).1 = 0x0200#16 ||| toggleBit (s.flash.bank (bankOfFlash s.bankWords addr)).toggle := by
  simp [State.readFlash, Flash.read, h]

theorem State.readFlash_running {op : FlashOp}
    (h : (s.flash.bank (bankOfFlash s.bankWords addr)).mode = .running op) :
    (s.readFlash addr).1 = 0x1000#16 ||| toggleBit (s.flash.bank (bankOfFlash s.bankWords addr)).toggle := by
  simp [State.readFlash, Flash.read, h]

/-! ## The judgement of a pair whose first word agrees with the flash (R93) -/

variable {first : Word}

theorem State.judgePair_readFlash_array (h : (s.flash.bank (bankOfFlash s.bankWords addr)).mode = .array)
    (hf : first = s.flash.arrayWord addr) : judgePair first (s.readFlash addr).1 = .endedClean := by
  rw [State.readFlash_array h, hf]
  exact judgePair_same _

theorem State.judgePair_readFlash_failed (h : (s.flash.bank (bankOfFlash s.bankWords addr)).mode = .failed)
    (hf : first = 0x0200#16 ||| toggleBit (!(s.flash.bank (bankOfFlash s.bankWords addr)).toggle)) :
    judgePair first (s.readFlash addr).1 = .endedError := by
  rw [State.readFlash_failed h, hf]
  exact judgePair_failed _

theorem State.judgePair_readFlash_running {op : FlashOp}
    (h : (s.flash.bank (bankOfFlash s.bankWords addr)).mode = .running op)
    (hf : first = 0x1000#16 ||| toggleBit (!(s.flash.bank (bankOfFlash s.bankWords addr)).toggle)) :
    judgePair first (s.readFlash addr).1 = .running := by
  rw [State.readFlash_running h, hf]
  exact judgePair_running _

end

/-! ## The operation in flight (R124, R125) -/

section
variable {s : State}

/-- A forwarded PROGRAM or ERASE ends: its bank IDLE, the failed flag as the end says. -/
theorem State.endForwarded_of_not_reset {o : Operation} (h : o.kind = .program ∨ o.kind = .erase) (failed : Bool) :
    s.endForwarded o failed = (s.withArbiter (s.arbiter.setCond o.bank .idle)).withFilter
      { s.filter with op := none, failed := failed, tracker := { state := .idle, bank := none, writes := [] } } := by
  unfold State.endForwarded State.idleAfter Filter.ended
  rcases h with h | h <;> rw [h] <;> rfl

theorem State.endForwarded_of_reset {o : Operation} (h : o.kind = .reset) (failed : Bool) :
    s.endForwarded o failed = s.withFilter
      { s.filter with op := none, tracker := { state := .idle, bank := none, writes := [] } } := by
  unfold State.endForwarded State.idleAfter Filter.ended
  rw [h]
  rfl

variable {p : PollRequest} {first : Word}

theorem State.pollEnds_filter (ha : s.arbiter.access = some (.filterPoll p first)) {o : Operation}
    (ho : s.filter.op = some o) {j : Judgement} (hj : judgePair first (s.readFlash p.addr).1 = j) :
    s.pollEnds = (s.readFlash p.addr).2.endAccess.judged o j := by
  have hop : (s.readFlash p.addr).2.endAccess.filter.op = some o := ho
  simp only [State.pollEnds, ha, hop, hj]

theorem State.pollEnds_settle (ha : s.arbiter.access = some (.settlePoll p first)) {t : Settle}
    (ht : s.arbiter.settle = some t) {j : Judgement} (hj : judgePair first (s.readFlash p.addr).1 = j) :
    s.pollEnds = (s.readFlash p.addr).2.endAccess.settleJudged t j := by
  have hset : (s.readFlash p.addr).2.endAccess.arbiter.settle = some t := ht
  simp only [State.pollEnds, ha, hset, hj]

end

/-- Settles O32: the pair's judgement by the bank's mode (the `State.judgePair_readFlash_…` lemmas), and what `State.judged` makes
of it. -/
theorem aPollPairJudgesTheOperation : Obligations.APollPairJudgesTheOperation := by
  intro s p first o ha ho
  refine ⟨fun hm hf howner => ?_, fun hm hf => ?_, fun op hm hf => ?_⟩
  · have hclean : s.pollEnds = s.endAccess.endForwarded o false := by
      rw [State.pollEnds_filter ha ho (State.judgePair_readFlash_array hm hf), State.readFlash_array hm, State.judged,
        howner]
    refine ⟨fun hk => congrArg Host.Outcome.next (hclean.trans ?_), fun hk => congrArg Host.Outcome.next (hclean.trans ?_)⟩
    · rw [State.endForwarded_of_not_reset hk]
      rfl
    · rw [State.endForwarded_of_reset hk]
      rfl
  · exact ⟨_, congrArg Host.Outcome.next (State.pollEnds_filter ha ho (State.judgePair_readFlash_failed hm hf)), rfl,
      s.readFlash_cells p.addr, rfl⟩
  · exact ⟨_, congrArg Host.Outcome.next (State.pollEnds_filter ha ho (State.judgePair_readFlash_running hm hf)), rfl,
      s.readFlash_cells p.addr⟩

/-! ## Settling (R97) -/

section
variable {s : State}

theorem nextSettle_eq (b : Bank) :
    nextSettle b = if b = .bank0 then some { bank := .bank1, step := .resetDue } else none := by cases b <;> rfl

theorem State.pollRetries_settle (hl : s.live = true) (ho : s.filter.op = none) {t : Settle}
    (ht : s.arbiter.settle = some t) : s.pollRetries = s.retrySettle t := by
  simp [State.pollRetries, hl, ho, ht]

theorem State.retryOp_retries {o : Operation} (hp : o.phase = .polling) (hr : o.retry = true) :
    s.retryOp o = (s.withFilter { s.filter with op := some { o with retry := false } }).withArbiter
      { s.arbiter with pollWait := some { bank := o.bank, addr := o.pollAddr } } := if_pos ⟨hp, hr⟩

theorem State.pollRetries_filter (hl : s.live = true) {o : Operation} (ho : s.filter.op = some o) (hp : o.phase = .polling)
    (hr : o.retry = true) (ht : s.arbiter.settle = none) : s.pollRetries = s.retryOp o := by
  have hsettle : (s.retryOp o).arbiter.settle = none := by
    rw [State.retryOp_retries hp hr]
    exact ht
  simp only [State.pollRetries, hl, ho, hsettle, if_true]

end

/-- Settles O33: the same judgements for the settling pair, and the tick at which a pair judged RUNNING is asked for again. -/
theorem settlingMakesTheBanksIdleInTurn : Obligations.SettlingMakesTheBanksIdleInTurn := by
  intro s b
  refine ⟨fun p first ha ht => ?_, fun hl => ⟨fun ht ho => ?_, fun o ho hp hr ht => ?_⟩⟩
  · refine ⟨fun hm hf => ?_, fun hm hf => ?_, fun op hm hf => ?_⟩
    · refine congrArg Host.Outcome.next ((State.pollEnds_settle ha ht (State.judgePair_readFlash_array hm hf)).trans ?_)
      rw [State.readFlash_array hm, State.settleJudged, nextSettle_eq]
      rfl
    · exact ⟨_, congrArg Host.Outcome.next (State.pollEnds_settle ha ht (State.judgePair_readFlash_failed hm hf)),
        s.readFlash_cells p.addr, rfl⟩
    · exact ⟨_, congrArg Host.Outcome.next (State.pollEnds_settle ha ht (State.judgePair_readFlash_running hm hf)),
        s.readFlash_cells p.addr, rfl⟩
  · exact congrArg Host.Outcome.next (State.pollRetries_settle hl ho ht)
  · exact congrArg Host.Outcome.next ((State.pollRetries_filter hl ho hp hr ht).trans (State.retryOp_retries hp hr))

end Sys2Proof.Machine
end

section
/-! The words of a burst: where they go (R74, R90) and what the arbiter does between them (R89, R90, R91). -/

namespace Sys2Proof.Machine

/-! ## A word and the boundary after it -/

section
variable {s t : State} {b : Burst}

/-- A word that its slot still needs goes to its place in the slot's buffer. -/
theorem State.burstWord_live (hf : b.fate = .live) : s.burstWord b =
    (s.readFlash (b.base + b.read)).2.setSlot b.slot { s.slot b.slot with
      buffer := Memory.writeWord bufferDefault (s.slot b.slot).buffer (64 * b.number + b.read)
        (s.readFlash (b.base + b.read)).1 } := by
  rw [State.burstWord, hf]
  rfl

theorem State.burstWord_discarded (hf : b.fate ≠ .live) : s.burstWord b = (s.readFlash (b.base + b.read)).2 := by
  rw [State.burstWord]
  cases h : b.fate with
  | live => exact absurd h hf
  | discard | stop => rfl

theorem State.burstWord_arbiter (s : State) (b : Burst) : (s.burstWord b).arbiter = s.arbiter := by simp

/-- A word changes the flash and the Chunk Verifier alone. -/
theorem State.burstWord_eq (s : State) (b : Burst) : s.burstWord b =
    (s.withVerifier (s.burstWord b).verifier).withFlash (s.burstWord b).flash := by
  cases h : b.fate with
  | live => rw [State.burstWord_live h]; rfl
  | discard | stop =>
    rw [State.burstWord_discarded (by simp [h])]
    rfl

/-- What may be granted depends on the arbiter alone, for the two ports. -/
theorem State.urgentGrantable_of_arbiter (h : t.arbiter = s.arbiter) : t.urgentGrantable = s.urgentGrantable := by
  rw [Bool.eq_iff_iff, State.urgentGrantable_iff, State.urgentGrantable_iff]
  simp only [State.cpOpen, State.elOpen, State.bankCond, h]

/-- What the boundary after a word makes of the arbiter. -/
theorem State.burstBoundary_eq (s : State) (b : Burst) : s.burstBoundary b = s.withArbiter
    (if b.fate = .stop then { s.arbiter with access := none }
     else if s.bankCond b.bank ≠ .idle then { s.arbiter with access := none, parked := some b }
     else if s.urgentGrantable then { s.arbiter with access := none, suspended := some b }
     else { s.arbiter with access := some (.burst b) }) := by
  unfold State.burstBoundary
  split
  · rfl
  · split
    · rfl
    · split <;> rfl

theorem State.burstAdvances_eq (ha : s.arbiter.access = some (.burst b)) (hr : b.read < 63) :
    s.burstAdvances = (s.burstWord b).withArbiter
      (if b.fate = .stop then { s.arbiter with access := none }
       else if s.bankCond b.bank ≠ .idle then { s.arbiter with access := none, parked := some { b with read := b.read + 1 } }
       else if s.urgentGrantable then { s.arbiter with access := none, suspended := some { b with read := b.read + 1 } }
       else { s.arbiter with access := some (.burst { b with read := b.read + 1 }) }) := by
  have hcond : (s.burstWord b).bankCond b.bank = s.bankCond b.bank := by
    rw [State.bankCond, State.burstWord_arbiter, State.bankCond]
  simp only [State.burstAdvances, ha, if_pos hr, State.burstBoundary_eq, State.burstWord_arbiter, hcond,
    State.urgentGrantable_of_arbiter (s.burstWord_arbiter b)]

end

/-- Settles O27: the word is `State.burstWord`'s, and the boundary after it `State.burstBoundary`'s, as one update of the arbiter
(`State.burstAdvances_eq`). -/
theorem aBurstWordGoesToItsPlaceInTheBuffer : Obligations.ABurstWordGoesToItsPlaceInTheBuffer := by
  intro s b hlaw ha hr hm went
  have hread := State.readFlash_array hm
  refine ⟨s.burstAdvances, rfl, ?_⟩
  rw [State.burstAdvances_eq ha hr]
  refine ⟨?_, fun hf k => ?_, fun j hj => ?_, fun hf => ?_, fun hf => if_pos hf, fun hf =>
    ⟨fun hc => ?_, fun hc hu => ?_, fun hc hcp hel => ?_⟩⟩
  · have hflash : (s.burstWord b).flash = s.flash := by
      cases h : b.fate with
      | live => rw [State.burstWord_live h, hread]; rfl
      | discard | stop => rw [State.burstWord_discarded (by simp [h]), hread]
    rw [State.burstWord_eq, hflash]
    rfl
  · have hslot : (s.burstWord b).slot b.slot = { s.slot b.slot with
        buffer := Memory.writeWord bufferDefault (s.slot b.slot).buffer (64 * b.number + b.read)
          (s.flash.arrayWord (b.base + b.read)) } := by
      rw [State.burstWord_live hf, State.setSlot_slot, if_pos rfl, hread]
    show Memory.readWord bufferDefault ((s.burstWord b).slot b.slot).buffer k = _
    rw [hslot]
    exact Memory.readWord_writeWord (hlaw.2 _)
  · show (s.burstWord b).slot j = s.slot j
    cases h : b.fate with
    | live => rw [State.burstWord_live h, State.setSlot_slot, if_neg (Ne.symm hj)]; rfl
    | discard | stop => rw [State.burstWord_discarded (by simp [h])]; rfl
  · show (s.burstWord b).verifier = s.verifier
    rw [State.burstWord_discarded hf]
    rfl
  · exact (if_neg hf).trans (if_pos hc)
  · exact (if_neg hf).trans ((if_neg (not_not.2 hc)).trans (if_pos (s.urgentGrantable_iff.2 hu)))
  · have hu : ¬ s.urgentGrantable = true := mt s.urgentGrantable_iff.1 (not_or.2 ⟨hcp, hel⟩)
    exact (if_neg hf).trans ((if_neg (not_not.2 hc)).trans (if_neg hu))

end Sys2Proof.Machine
end

section
/-! The 64th word of a burst: the burst counted, the next one asked for, or the fill ended (R74, R76, R77), and a manifest judged
once its slot is filled (R8, R32). -/

namespace Sys2Proof.Machine

/-! ## The burst counted -/

/-- The buffer of a burst's slot with the 64th word at its place. -/
def State.lastBuffer (s : State) (b : Burst) : Memory :=
  Memory.writeWord bufferDefault (s.slot b.slot).buffer (64 * b.number + 63) (s.readFlash (b.base + 63)).1

/-- The 64th word read and stored, its burst counted and the port free; the slot's next request or the end of its fill is still to
come. -/
def State.burstTaken (s : State) (b : Burst) : State :=
  (s.readFlash (b.base + 63)).2.endAccess.setSlot b.slot
    { s.slot b.slot with bursts := (s.slot b.slot).bursts + 1, buffer := s.lastBuffer b }

theorem State.setSlot_setSlot (s : State) (i : Fin 8) (v w : Slot) : (s.setSlot i v).setSlot i w = s.setSlot i w := by
  simp [State.setSlot]

section
variable {s : State} {b : Burst}

theorem State.burstTaken_slot (s : State) (b : Burst) (j : Fin 8) : (s.burstTaken b).slot j =
    if b.slot = j then { s.slot b.slot with bursts := (s.slot b.slot).bursts + 1, buffer := s.lastBuffer b }
    else s.slot j := State.setSlot_slot _ _ _ _

theorem State.burstTaken_slot_self (s : State) (b : Burst) : (s.burstTaken b).slot b.slot =
    { s.slot b.slot with bursts := (s.slot b.slot).bursts + 1, buffer := s.lastBuffer b } := by
  rw [State.burstTaken_slot, if_pos rfl]

theorem State.burstTaken_order (s : State) (b : Burst) (j : Fin 8) :
    ((s.burstTaken b).slot j).order = (s.slot j).order := by
  rw [State.burstTaken_slot]
  split
  · next e => rw [e]
  · rfl

variable (ha : s.arbiter.access = some (.burst b)) (hr : b.read = 63)
include ha hr

theorem State.burstEnds_discarded (hf : b.fate ≠ .live) : s.burstEnds = (s.readFlash (b.base + 63)).2.endAccess := by
  simp only [State.burstEnds, ha, if_neg hf, State.burstWord_discarded hf, hr, if_true]

theorem State.burstEnds_live (hf : b.fate = .live) : s.burstEnds =
    if (s.slot b.slot).bursts + 1 < 32 then (s.burstTaken b).requestBurst b.slot
    else if (s.slot b.slot).purpose = some .manifest then ((s.burstTaken b).holdSlot b.slot).manifestFilled b.slot
    else (s.burstTaken b).enqueue b.slot := by
  let v : Slot := { s.slot b.slot with buffer := s.lastBuffer b }
  have hword : (s.burstWord b).endAccess = (s.readFlash (b.base + 63)).2.endAccess.setSlot b.slot v := by
    rw [State.burstWord_live hf, hr]
    rfl
  have hslot : (s.burstWord b).endAccess.slot b.slot = v := by rw [hword, State.setSlot_slot, if_pos rfl]
  have htaken : (s.burstWord b).endAccess.setSlot b.slot { v with bursts := v.bursts + 1 } = s.burstTaken b := by
    rw [hword, State.setSlot_setSlot]
    rfl
  simp only [State.burstEnds, ha, if_pos hr, if_pos hf, State.burstCounted, hslot, htaken]
  rfl

end

/-! ## The class of the next request (R86) -/

theorem Slot.burstClass_of_urgent {v : Slot} (h : v.waiter.isSome = true ∨ v.flag = true ∨ v.purpose = some .manifest ∨
    v.purpose = some .list) : v.burstClass = .class3 := by
  unfold Slot.burstClass
  rcases h with h | h | h | h <;> simp [h]

theorem Slot.burstClass_of_scan {v : Slot} (hw : v.waiter = none) (hf : v.flag = false)
    (hp : v.purpose = some .scan ∨ v.purpose = some .patrol) : v.burstClass = .class5 := by
  unfold Slot.burstClass
  rcases hp with hp | hp <;> simp [hw, hf, hp]

/-! ## The hash queue joined (R76, R77) -/

/-- Slot `i`, with buffer `m`, has joined the hash queue of `s`, and an idle engine has taken the queue's head. -/
def hashJoined (s t : State) (i : Fin 8) (m : Memory) : Prop :=
  (t.slot i).buffer = m ∧
  (s.verifier.engine.isSome = true → (t.slot i).state = .queued ∧
    t.verifier.hashQueue = s.verifier.hashQueue ++ [i] ∧ t.verifier.engine = s.verifier.engine) ∧
  (s.verifier.engine = none → s.verifier.hashQueue = [] →
    (t.slot i).state = .hashing ∧ t.verifier.hashQueue = [] ∧ t.verifier.engine = some i)

theorem State.engineNext_of_busy {u : State} (h : u.verifier.engine.isSome = true) : u.engineNext = u := by
  obtain ⟨k, hk⟩ := Option.isSome_iff_exists.1 h
  simp only [State.engineNext, hk]

/-- A slot put in another state, seen at any slot. -/
theorem State.setSlot_state (u : State) (i : Fin 8) (st : SlotState) (j : Fin 8) :
    (u.setSlot i { u.slot i with state := st }).slot j =
      { u.slot j with state := ((u.setSlot i { u.slot i with state := st }).slot j).state } := by
  rw [State.setSlot_slot]
  split
  · next e => rw [e]
  · rfl

/-- The engine's taking of the queue's head changes the state of a slot and no other part of its record. -/
theorem State.engineNext_slot (u : State) (j : Fin 8) :
    u.engineNext.slot j = { u.slot j with state := (u.engineNext.slot j).state } := by
  unfold State.engineNext
  split
  · next i _ _ _ => exact u.setSlot_state i .hashing j
  · rfl

/-- Joining the queue changes the state of slots and no other part of their records. -/
theorem State.enqueue_slot (u : State) (i j : Fin 8) :
    (u.enqueue i).slot j = { u.slot j with state := ((u.enqueue i).slot j).state } := by
  let x := (u.setSlot i { u.slot i with state := .queued }).withVerifier
    { (u.setSlot i { u.slot i with state := .queued }).verifier with hashQueue := u.verifier.hashQueue ++ [i] }
  have hx : x.slot j = { u.slot j with state := (x.slot j).state } := u.setSlot_state i .queued j
  refine (x.engineNext_slot j).trans ?_
  rw [hx]
  rfl

theorem State.enqueue_eq (u : State) (i : Fin 8) : u.enqueue i = u.withVerifier (u.enqueue i).verifier := by
  apply State.ext_blocks <;> simp

theorem State.enqueue_hashJoined {s u : State} {i : Fin 8} {m : Memory} (he : u.verifier.engine = s.verifier.engine)
    (hq : u.verifier.hashQueue = s.verifier.hashQueue) (hm : (u.slot i).buffer = m) : hashJoined s (u.enqueue i) i m := by
  refine ⟨?_, fun hbusy => ?_, fun hidle hempty => ?_⟩
  · rw [State.enqueue_slot]
    exact hm
  · have hnext : u.enqueue i = (u.setSlot i { u.slot i with state := .queued }).withVerifier
        { (u.setSlot i { u.slot i with state := .queued }).verifier with hashQueue := u.verifier.hashQueue ++ [i] } :=
      State.engineNext_of_busy (by rw [← he] at hbusy; exact hbusy)
    rw [hnext]
    refine ⟨?_, by rw [← hq]; rfl, he⟩
    show ((u.setSlot i _).slot i).state = _
    rw [State.setSlot_slot, if_pos rfl]
  · rw [← he] at hidle
    rw [← hq] at hempty
    rw [State.enqueue_idle_slot hidle hempty, if_pos rfl, State.enqueue_idle hidle hempty]
    exact ⟨rfl, hempty, rfl⟩

/-! ## A manifest judged (R8, R32) -/

section
variable {u : State} {i : Fin 8}

theorem State.manifestFilled_root {k : Bank} {d : List Byte} (hk : u.boot.root k = .judging i .fill d)
    (hn : ∀ st d', u.boot.root k.other ≠ .judging i st d') : u.manifestFilled i = u.rootFilled k i := by
  simp only [State.manifestFilled, State.rootAt_of_judging hk hn]

theorem State.manifestFilled_delegate {j : DelegateJob} (hj : u.walk.job = .delegate j) (hi : j.slot = i)
    (hat : j.at_ = .fill) (hn : ∀ k st d, u.boot.root k ≠ .judging i st d) : u.manifestFilled i = u.delegateFilled j := by
  simp only [State.manifestFilled, State.rootAt_eq_none hn, State.delegateAt_of_job hj hi, hat, if_true]

theorem State.askPass_eq (u : State) (k : Bank) (i : Fin 8) (st : JudgeStep) (d : List Byte) : u.askPass k i st d =
    ((u.withBoot (u.boot.setRoot k (.judging i st d))).withVerifier (u.askPass k i st d).verifier).withArbiter u.arbiter :=
  (u.setRoot k (.judging i st d)).enqueue_eq i

/-- A slot given back with no demand pending and no pass is FREE, and no other block but the arbiter has changed. -/
theorem State.releaseSlot_free (hp : u.verifier.pendingDemand = none) (hs : u.scan.pass = .none) :
    ((u.releaseSlot i).slot i).state = .free ∧
    u.releaseSlot i = (u.withVerifier (u.releaseSlot i).verifier).withArbiter (u.releaseSlot i).arbiter := by
  obtain ⟨⟨hslot, -⟩, -, heq⟩ := State.releaseSlot_freed (s := u) (i := i) hp hs rfl rfl (fun _ _ => rfl) rfl
  exact ⟨by rw [hslot], heq⟩

/-- A root manifest that fails its checks: its slot FREE and its bank no candidate, before SELECTING may end. -/
theorem State.rejectRoot_free (hp : u.verifier.pendingDemand = none) (hs : u.scan.pass = .none) (k : Bank) :
    ∃ x, u.rejectRoot k i = x.endSelecting ∧ (x.slot i).state = .free ∧
      x = ((u.withBoot (u.boot.setRoot k .rejected)).withVerifier x.verifier).withArbiter x.arbiter :=
  ⟨_, rfl, State.releaseSlot_free (u := u.setRoot k .rejected) hp hs⟩

/-- A delegate manifest that fails its checks: its slot FREE and the class rule's judgement, before the walker goes on. -/
theorem State.dropDelegate_free (hp : u.verifier.pendingDemand = none) (hs : u.scan.pass = .none) {j : DelegateJob}
    {f : Frame} {rest : List Frame} (hst : u.walk.stack = f :: rest) :
    ∃ x, u.dropDelegate j = x.walkOnAll ∧ (x.slot j.slot).state = .free ∧
      x = ((u.withWalk (u.walk.rejected f rest (j.mask.boot || j.mask.print) .delegateBad)).withVerifier
        x.verifier).withArbiter x.arbiter := by
  obtain ⟨hfree, heq⟩ := State.releaseSlot_free (i := j.slot) hp hs
  refine ⟨_, congrArg State.walkOnAll (State.rejectDelegate_eq hst), ?_, ?_⟩
  · rw [State.slot_eq (State.withWalk_verifier _ _)]
    exact hfree
  · exact congrArg (State.withWalk · _) heq

end

/-! ## The fill of a MANIFEST slot ended -/

/-- The 32nd burst of a MANIFEST slot counted: the slot HELD, before its manifest is judged (R74). -/
def State.burstFilled (s : State) (b : Burst) : State := (s.burstTaken b).holdSlot b.slot

section
variable {s : State} {b : Burst}

theorem State.burstFilled_eq (s : State) (b : Burst) : s.burstFilled b =
    ((s.withVerifier (s.burstFilled b).verifier).withArbiter { s.arbiter with access := none }).withFlash
      (s.readFlash (b.base + 63)).2.flash := rfl

@[simp] theorem State.burstFilled_blocks (s : State) (b : Burst) :
    (s.burstFilled b).boot = s.boot ∧
    (s.burstFilled b).walk = s.walk ∧
    (s.burstFilled b).scan = s.scan ∧
    (s.burstFilled b).fuse = s.fuse ∧
    (s.burstFilled b).arbiter = { s.arbiter with access := none } ∧
    (s.burstFilled b).verifier.hashQueue = s.verifier.hashQueue ∧
    (s.burstFilled b).verifier.engine = s.verifier.engine ∧
    (s.burstFilled b).verifier.pendingDemand = s.verifier.pendingDemand := by
  simp [State.burstFilled, State.burstTaken, State.holdSlot, State.setSlot, State.endAccess]

/-- An update of the boot state over that slot, as an update of the state before the word. -/
theorem State.withBoot_over_burstFilled {x : State} {boot : Boot} {v : Verifier} {a : Arbiter}
    (hx : x = (((s.burstFilled b).withBoot boot).withVerifier v).withArbiter a) :
    x = (((s.withBoot boot).withVerifier v).withArbiter a).withFlash (s.readFlash (b.base + 63)).2.flash := by
  rw [hx, State.burstFilled_eq]
  generalize (s.burstFilled b).verifier = v', (s.readFlash (b.base + 63)).2.flash = f
  rfl

theorem State.withWalk_over_burstFilled {x : State} {walk : Walk} {v : Verifier} {a : Arbiter}
    (hx : x = (((s.burstFilled b).withWalk walk).withVerifier v).withArbiter a) :
    x = (((s.withWalk walk).withVerifier v).withArbiter a).withFlash (s.readFlash (b.base + 63)).2.flash := by
  rw [hx, State.burstFilled_eq]
  generalize (s.burstFilled b).verifier = v', (s.readFlash (b.base + 63)).2.flash = f
  rfl

theorem State.burstFilled_buffer (s : State) (b : Burst) : ((s.burstFilled b).slot b.slot).buffer = s.lastBuffer b := by
  rw [State.burstFilled, State.holdSlot, State.setSlot_slot, if_pos rfl, State.burstTaken_slot_self]

variable (ha : s.arbiter.access = some (.burst b)) (hr : b.read = 63) (hf : b.fate = .live)
include ha hr hf

theorem State.burstEnds_manifest (hp : (s.slot b.slot).purpose = some .manifest) (hl : 32 ≤ (s.slot b.slot).bursts + 1) :
    s.burstEnds = (s.burstFilled b).manifestFilled b.slot := by
  rw [State.burstEnds_live ha hr hf, if_neg (Nat.not_lt_of_le hl), if_pos hp]
  rfl

/-- With its last burst a slot that is no MANIFEST slot joins the hash queue. -/
theorem exec_burstComplete_fills (hp : (s.slot b.slot).purpose ≠ some .manifest)
    (hl : 32 ≤ (s.slot b.slot).bursts + 1) : exec .burstComplete s = .next ((s.burstTaken b).enqueue b.slot) := by
  refine congrArg Host.Outcome.next ((State.burstEnds_live ha hr hf).trans ?_)
  rw [if_neg (Nat.not_lt_of_le hl), if_neg hp]

theorem exec_burstComplete_requests (hl : ¬ 32 ≤ (s.slot b.slot).bursts + 1) :
    exec .burstComplete s = .next ((s.burstTaken b).requestBurst b.slot) :=
  congrArg Host.Outcome.next ((State.burstEnds_live ha hr hf).trans (if_pos (Nat.lt_of_not_le hl)))

variable (hp : (s.slot b.slot).purpose = some .manifest) (hl : 32 ≤ (s.slot b.slot).bursts + 1)
include hp hl

section
variable {k : Bank} {d : List Byte} (hk : s.boot.root k = .judging b.slot .fill d)
  (hn : ∀ st d', s.boot.root k.other ≠ .judging b.slot st d')
include hk hn

theorem State.burstEnds_root : s.burstEnds = if rootChecks s.fuse (s.lastBuffer b) then
    (s.burstFilled b).askPass k b.slot .key [] else (s.burstFilled b).rejectRoot k b.slot := by
  rw [State.burstEnds_manifest ha hr hf hp hl, State.manifestFilled_root (by simpa using hk) (by simpa using hn),
    State.rootFilled, State.burstFilled_buffer]
  simp

theorem exec_burstComplete_rootPasses (hc : rootChecks s.fuse (s.lastBuffer b) = true) :
    ∃ t, exec .burstComplete s = .next t ∧ hashJoined s t b.slot (s.lastBuffer b) ∧
      t = (((s.withBoot (s.boot.setRoot k (.judging b.slot .key []))).withVerifier t.verifier).withArbiter
        { s.arbiter with access := none }).withFlash (s.readFlash (b.base + 63)).2.flash := by
  have heq := (s.burstFilled b).askPass_eq k b.slot .key []
  simp only [State.burstFilled_blocks] at heq
  exact ⟨_, congrArg Host.Outcome.next ((State.burstEnds_root ha hr hf hp hl hk hn).trans (if_pos hc)),
    State.enqueue_hashJoined (by simp [State.setRoot]) (by simp [State.setRoot]) (s.burstFilled_buffer b),
    State.withBoot_over_burstFilled heq⟩

theorem exec_burstComplete_rootFails (hc : ¬ rootChecks s.fuse (s.lastBuffer b) = true)
    (hpend : s.verifier.pendingDemand = none) (hpass : s.scan.pass = .none) :
    ∃ x, exec .burstComplete s = .next x.endSelecting ∧ (x.slot b.slot).state = .free ∧
      x = (((s.withBoot (s.boot.setRoot k .rejected)).withVerifier x.verifier).withArbiter x.arbiter).withFlash
        (s.readFlash (b.base + 63)).2.flash := by
  obtain ⟨x, hx, hfree, heq⟩ :=
    State.rejectRoot_free (u := s.burstFilled b) (i := b.slot) (by simpa using hpend) (by simpa using hpass) k
  simp only [State.burstFilled_blocks] at heq
  refine ⟨x, congrArg Host.Outcome.next ((State.burstEnds_root ha hr hf hp hl hk hn).trans ?_), hfree,
    State.withBoot_over_burstFilled heq⟩
  rw [if_neg hc, hx]

end

section
variable {j : DelegateJob} (hj : s.walk.job = .delegate j) (hi : j.slot = b.slot) (hat : j.at_ = .fill)
  (hn : ∀ k st d, s.boot.root k ≠ .judging b.slot st d)
include hj hi hat hn

theorem State.burstEnds_delegate : s.burstEnds = if delegateChecks (s.lastBuffer b) then
    ((s.burstFilled b).setDelegate { j with at_ := .key }).enqueue b.slot else (s.burstFilled b).dropDelegate j := by
  rw [State.burstEnds_manifest ha hr hf hp hl, State.manifestFilled_delegate (by simpa using hj) hi hat (by simpa using hn),
    State.delegateFilled, hi, State.burstFilled_buffer]

theorem exec_burstComplete_delegatePasses (hc : delegateChecks (s.lastBuffer b) = true) :
    ∃ t, exec .burstComplete s = .next t ∧ hashJoined s t b.slot (s.lastBuffer b) ∧
      t = (((s.withWalk { s.walk with job := .delegate { j with at_ := .key } }).withVerifier t.verifier).withArbiter
        { s.arbiter with access := none }).withFlash (s.readFlash (b.base + 63)).2.flash := by
  have heq := ((s.burstFilled b).setDelegate { j with at_ := .key }).enqueue_eq b.slot
  have hwalk : (s.burstFilled b).walk = s.walk := by simp
  have harb : (s.burstFilled b).arbiter = { s.arbiter with access := none } := by simp
  refine ⟨_, congrArg Host.Outcome.next ((State.burstEnds_delegate ha hr hf hp hl hj hi hat hn).trans (if_pos hc)),
    State.enqueue_hashJoined (by simp [State.setDelegate]) (by simp [State.setDelegate]) (s.burstFilled_buffer b),
    State.withWalk_over_burstFilled ?_⟩
  rw [← hwalk, ← harb]
  exact heq

theorem exec_burstComplete_delegateFails (hc : ¬ delegateChecks (s.lastBuffer b) = true) {f : Frame} {rest : List Frame}
    (hst : s.walk.stack = f :: rest) (hpend : s.verifier.pendingDemand = none) (hpass : s.scan.pass = .none) :
    ∃ x, exec .burstComplete s = .next x.walkOnAll ∧ (x.slot b.slot).state = .free ∧
      x = (((s.withWalk (s.walk.rejected f rest (j.mask.boot || j.mask.print) .delegateBad)).withVerifier
        x.verifier).withArbiter x.arbiter).withFlash (s.readFlash (b.base + 63)).2.flash := by
  obtain ⟨x, hx, hfree, heq⟩ := State.dropDelegate_free (u := s.burstFilled b) (j := j) (by simpa using hpend)
    (by simpa using hpass) (by simpa using hst)
  simp only [State.burstFilled_blocks] at heq
  refine ⟨x, congrArg Host.Outcome.next ((State.burstEnds_delegate ha hr hf hp hl hj hi hat hn).trans ?_), hi ▸ hfree,
    State.withWalk_over_burstFilled heq⟩
  rw [if_neg hc, hx]

end

end

/-! ## The next request -/

/-- The slot's next burst is asked for at the class its record gives. -/
theorem State.burstTaken_wait (s : State) (b : Burst) :
    ((s.burstTaken b).requestBurst b.slot).arbiter.slotWait[b.slot] = some (s.slot b.slot).burstClass := by
  refine (vector_set_get _ _ _ _).trans ((if_pos rfl).trans ?_)
  rw [State.burstTaken_slot_self]
  rfl

/-- Settles O28: `State.burstEnds_live` gives what follows the 64th word; the queue is joined as `State.enqueue_hashJoined` says, and a
manifest's checks are those of R8 and R32 (`rootChecks_iff`, `delegateChecks_iff`). -/
theorem aBurstCompletesAFillOfThirtyTwo : Obligations.ABurstCompletesAFillOfThirtyTwo := by
  intro s b ha hr i rd m fld entry formed last queued
  have hself : (s.burstTaken b).slot i = { s.slot i with bursts := (s.slot i).bursts + 1, buffer := m } :=
    s.burstTaken_slot_self b
  refine ⟨fun hf => congrArg Host.Outcome.next (State.burstEnds_discarded ha hr hf), fun hf hor => ?_, fun hf hp hl =>
    ⟨fun k d hk hn => ?_, fun j f rest hj hi hat hst hn => ?_⟩⟩
  · by_cases hl : last
    · have hslot (j : Fin 8) := (s.burstTaken b).enqueue_slot i j
      refine ⟨_, exec_burstComplete_fills ha hr hf (hor.resolve_right (not_not.2 hl)) hl, ?_, ?_, ?_, ?_, ?_, fun j => ?_,
        fun hn => absurd hl hn, fun _ => State.enqueue_hashJoined rfl rfl (by rw [hself])⟩
      · rw [State.enqueue_eq]
        rfl
      · rw [State.enqueue_eq]
        rfl
      · rw [hslot, hself]
      · rw [hslot, hself]
      · rw [hslot, hself]
      · rw [hslot]
        exact s.burstTaken_order b j
    · have hclass := s.burstTaken_wait b
      refine ⟨_, exec_burstComplete_requests ha hr hf hl, rfl, rfl, ?_, ?_, ?_, s.burstTaken_order b, fun _ =>
        ⟨?_, hclass, rfl, fun hurgent => ?_, fun hw hflag hpurpose => ?_⟩, fun h => absurd h hl⟩
      · rw [State.requestBurst_slot, hself]
      · rw [State.requestBurst_slot, hself]
      · rw [State.requestBurst_slot, hself]
      · rw [State.requestBurst_slot, hself]
      · exact hclass.trans (congrArg some (Slot.burstClass_of_urgent hurgent))
      · exact hclass.trans (congrArg some (Slot.burstClass_of_scan hw hflag hpurpose))
  · intro ok
    have hok : rootChecks s.fuse m = true ↔ ok := by
      rw [rootChecks_iff]
      simp only [entryFormed_iff]
      exact Iff.rfl
    exact ⟨fun h => exec_burstComplete_rootPasses ha hr hf hp hl hk hn (hok.2 h),
      fun h => exec_burstComplete_rootFails ha hr hf hp hl hk hn (mt hok.1 h)⟩
  · intro ok
    have hok : delegateChecks m = true ↔ ok := by
      rw [delegateChecks_iff]
      simp only [entryFormed_iff]
      exact Iff.rfl
    exact ⟨fun h => exec_burstComplete_delegatePasses ha hr hf hp hl hj hi hat hn (hok.2 h),
      fun h => exec_burstComplete_delegateFails ha hr hf hp hl hj hi hat hn (mt hok.1 h) hst⟩

end Sys2Proof.Machine
end

section
/-! The Window Map (R56 to R60): what it answers by the boot state and by where the address lies. -/

namespace Sys2Proof.Machine

section
variable {s : State} {a : Addr} {b : Bank}

/-! ## The active half (R57) -/

section
variable {o : Nat}

theorem State.decodeActive_manifest (h : manifestChunk s.lines.fsz ≤ o / 2048) :
    s.decodeActive b o = Decode.plain .manifest (b, o, s.flashAddr b o) := if_pos h

variable (h : o / 2048 < manifestChunk s.lines.fsz)
include h

theorem State.decodeActive_image {i : Nat} {g : ImageRegion}
    (hf : findRegion s.tables.regions 0 (o / 2048) = some (i, .image g)) : s.decodeActive b o =
      { cls := .imageChunk, loc := some (b, o, s.flashAddr b o), region := some i
        state := some (s.tables.chunkState (g.first + (o / 2048 - g.base)))
        chunk := some { region := i, index := o / 2048 - g.base, record := g.first + (o / 2048 - g.base)
                        offset := o % 2048 } } := by
  simp [State.decodeActive, chunkWords, Nat.not_le.2 h, hf]

theorem State.decodeActive_data {i : Nat} {g : DataRegion}
    (hf : findRegion s.tables.regions 0 (o / 2048) = some (i, .data g)) :
    s.decodeActive b o = { Decode.plain .data (b, o, s.flashAddr b o) with region := some i } := by
  simp [State.decodeActive, chunkWords, Nat.not_le.2 h, hf]

theorem State.decodeActive_uncovered (hf : findRegion s.tables.regions 0 (o / 2048) = none) :
    s.decodeActive b o = Decode.plain .uncovered (b, o, s.flashAddr b o) := by
  simp [State.decodeActive, chunkWords, Nat.not_le.2 h, hf]

end

/-! ## The halves of the window (R56, R60) -/

theorem State.windowMap_mapped (hb : s.boot.active = some b)
    (h : s.boot.state = .walking ∨ s.boot.state = .preverify ∨ s.boot.state = .released) :
    s.windowMap a = s.decodeMapped b a.toNat := by
  rcases h with h | h | h <;> simp [State.windowMap, h, hb]

theorem State.windowMap_noMap (h : s.boot.state = .selecting ∨ s.boot.state = .noBank ∨ s.boot.state = .halted) :
    s.windowMap a = Decode.nowhere .noMap := by
  rcases h with h | h | h <;> simp [State.windowMap, h]

theorem State.decodeMapped_active {o : Nat} (h : o < s.bankWords) : s.decodeMapped b o = s.decodeActive b o := if_pos h

theorem State.decodeMapped_other {o : Nat} (h : s.bankWords ≤ o) (h2 : o < 2 * s.bankWords) : s.decodeMapped b o =
    Decode.plain .inactive (b.other, o - s.bankWords, s.flashAddr b.other (o - s.bankWords)) :=
  (if_neg (Nat.not_lt.2 h)).trans (if_pos h2)

theorem State.decodeMapped_beyond {o : Nat} (h : 2 * s.bankWords ≤ o) : s.decodeMapped b o = Decode.nowhere .outOfRange := by
  have h1 : ¬ o < s.bankWords := by omega
  exact (if_neg h1).trans (if_neg (Nat.not_lt.2 h))

theorem State.decodeTransparent_low {o : Nat} (h : o < s.bankWords) :
    s.decodeTransparent o = Decode.plain .unclassified (.bank0, o, o) := if_pos h

theorem State.decodeTransparent_high {o : Nat} (h : s.bankWords ≤ o) (h2 : o < 2 * s.bankWords) :
    s.decodeTransparent o = Decode.plain .unclassified (.bank1, o - s.bankWords, o) :=
  (if_neg (Nat.not_lt.2 h)).trans (if_pos h2)

theorem State.decodeTransparent_beyond {o : Nat} (h : 2 * s.bankWords ≤ o) :
    s.decodeTransparent o = Decode.nowhere .outOfRange := by
  have h1 : ¬ o < s.bankWords := by omega
  exact (if_neg h1).trans (if_neg (Nat.not_lt.2 h))

/-! ## In RELEASED and TRANSPARENT -/

theorem State.windowMap_outOfRange
    (h : (s.boot.state = .released ∧ s.boot.active.isSome = true) ∨ s.boot.state = .transparent)
    (ha : 2 * s.bankWords ≤ a.toNat) : s.windowMap a = Decode.nowhere .outOfRange := by
  rcases h with ⟨h, hb⟩ | h
  · obtain ⟨b, hb⟩ := Option.isSome_iff_exists.1 hb
    exact (State.windowMap_released h hb).trans (State.decodeMapped_beyond ha)
  · exact (State.windowMap_transparent h).trans (State.decodeTransparent_beyond ha)

/-- Nothing is classified in TRANSPARENT (R60). -/
theorem State.windowMap_state_transparent (h : s.boot.state = .transparent) : (s.windowMap a).state = none := by
  rw [State.windowMap_transparent h]
  unfold State.decodeTransparent
  dsimp only
  split
  · rfl
  · split <;> rfl

/-- A chunk with a state is reached in RELEASED alone, of the two boot states in which reads are classified. -/
theorem State.released_of_chunkState {st : ChunkState}
    (h : (s.boot.state = .released ∧ s.boot.active.isSome = true) ∨ s.boot.state = .transparent)
    (hst : (s.windowMap a).state = some st) : s.boot.state = .released ∧ ∃ b, s.boot.active = some b := by
  rcases h with ⟨h, hb⟩ | h
  · exact ⟨h, Option.isSome_iff_exists.1 hb⟩
  · rw [State.windowMap_state_transparent h] at hst
    cases hst

/-- DATA and MANIFEST addresses lie in the active half and name no chunk (R57). -/
theorem State.windowMap_data_or_manifest (h : s.boot.state = .released) (hb : s.boot.active = some b)
    (ha : a.toNat < s.bankWords) (hc : (s.windowMap a).cls = .data ∨ (s.windowMap a).cls = .manifest) :
    (s.windowMap a).loc = some (b, a.toNat, s.flashAddr b a.toNat) ∧ (s.windowMap a).chunk = none := by
  rw [State.windowMap_released h hb, State.decodeMapped_active ha] at hc ⊢
  by_cases hm : manifestChunk s.lines.fsz ≤ a.toNat / 2048
  · rw [State.decodeActive_manifest hm]
    exact ⟨rfl, rfl⟩
  · match hf : findRegion s.tables.regions 0 (a.toNat / 2048) with
    | some (i, .image g) =>
      rw [State.decodeActive_image (Nat.not_le.1 hm) hf] at hc
      simp at hc
    | some (i, .data g) =>
      rw [State.decodeActive_data (Nat.not_le.1 hm) hf]
      exact ⟨rfl, rfl⟩
    | none =>
      rw [State.decodeActive_uncovered (Nat.not_le.1 hm) hf] at hc
      simp at hc

end

end Sys2Proof.Machine
end

section
/-! Reads of the Controller Port as they arrive (R99, R101 to R106): the class of the address, the answer, and the read held. -/

namespace Sys2Proof.Machine

section
variable {s : State} {a : Addr}

/-! ## Arrivals (R99, R101) -/

theorem State.portTakes_iff (s : State) :
    s.portTakes = true ↔ s.port = .free ∧ s.lines.crstIn = false ∧ s.lines.inReset = false := by
  simp [State.portTakes, and_assoc]

theorem exec_cpReadArrival_taken (hp : s.port = .free) (hc : s.lines.crstIn = false) (hr : s.lines.inReset = false) :
    exec (.cpReadArrival a) s = .next (s.readArrives a) :=
  congrArg Host.Outcome.next (if_pos (s.portTakes_iff.2 ⟨hp, hc, hr⟩))

theorem exec_cpReadArrival_ignored (h : s.port ≠ .free ∨ s.lines.crstIn = true ∨ s.lines.inReset = true) :
    exec (.cpReadArrival a) s = .next s := by
  refine congrArg Host.Outcome.next (if_neg fun ht => ?_)
  obtain ⟨hp, hc, hr⟩ := s.portTakes_iff.1 ht
  simp [hp, hc, hr] at h

theorem State.readArrives_unmapped (h : s.boot.state ≠ .released) (ht : s.boot.state ≠ .transparent) :
    s.readArrives a = s.answer 0xFFFF#16 := by
  unfold State.readArrives
  split
  case h_1 e => exact absurd e h
  case h_2 e => exact absurd e ht
  all_goals rfl

section
variable (hs : s.boot.state = .released ∨ s.boot.state = .transparent)
include hs

theorem State.readArrives_mapped : s.readArrives a = s.readByClass a := by
  rcases hs with h | h <;> simp [State.readArrives, h]

/-! ## The classes (R102 to R104) -/

theorem State.readArrives_fill (hc : (s.windowMap a).cls = .uncovered ∨ (s.windowMap a).cls = .outOfRange) :
    s.readArrives a = s.answer s.boot.params.fillWord := by
  rw [State.readArrives_mapped hs]
  rcases hc with hc | hc <;> simp [State.readByClass, hc]

theorem State.readArrives_forward (hc : (s.windowMap a).cls = .data ∨ (s.windowMap a).cls = .manifest ∨
    (s.windowMap a).cls = .inactive ∨ (s.windowMap a).cls = .unclassified) :
    s.readArrives a = s.forwardRead a (s.windowMap a) := by
  rw [State.readArrives_mapped hs]
  rcases hc with hc | hc | hc | hc <;> simp [State.readByClass, hc]

end

/-! ## The states of an IMAGE chunk (R104 to R106) -/

/-- The read of an UNCHECKED chunk under the port's policy: held for its proof, or filled (R105, R106). -/
def State.uncheckedPort (s : State) (a : Addr) (b : Bank) (c : ChunkRef) : Port :=
  if s.boot.params.holdFill = false then
    .held { addr := a, cls := .imageChunk, chunk := some c, bank := b, flash := s.flashAddr b a.toNat, wait := .proof }
  else .answered s.boot.params.fillWord

/-- The demand of that read waits with it, or is made without a waiter. -/
def State.uncheckedWaiter (s : State) (c : ChunkRef) : Option Nat :=
  if s.boot.params.holdFill = false then some c.offset else none

section
variable {b : Bank} (h : s.boot.state = .released) (hb : s.boot.active = some b)
include h hb

theorem State.readArrives_image {st : ChunkState} (hst : (s.windowMap a).state = some st) :
    s.readArrives a = s.imageRead a (s.windowMap a) := by
  obtain ⟨hc, -⟩ := State.windowMap_chunk h hb hst
  simp [State.readArrives_mapped (.inl h), State.readByClass, hc]

theorem State.readArrives_bad (hst : (s.windowMap a).state = some .bad) :
    s.readArrives a = s.answer s.boot.params.fillWord := by
  obtain ⟨-, -, -, c, -, hchunk, -⟩ := State.windowMap_chunk h hb hst
  simp [State.readArrives_image h hb hst, State.imageRead, hchunk, hst]

/-- A GOOD chunk's word is fetched where its bank is IDLE or the read may wait for it, and else filled (R104). -/
theorem State.readArrives_good (hst : (s.windowMap a).state = some .good) : s.readArrives a =
    if s.bankCond b = .idle ∨ s.boot.params.holdFill = false then s.forwardRead a (s.windowMap a)
    else s.answer s.boot.params.fillWord := by
  obtain ⟨-, hloc, -, c, -, hchunk, -⟩ := State.windowMap_chunk h hb hst
  simp [State.readArrives_image h hb hst, State.imageRead, hchunk, hst, hloc]

theorem State.readArrives_unchecked {c : ChunkRef} (hchunk : (s.windowMap a).chunk = some c)
    (hst : (s.windowMap a).state = some .unchecked) : s.readArrives a =
      ((s.withPort (s.uncheckedPort a b c)).claimDemand true c.region c.index (s.uncheckedWaiter c)).1 := by
  obtain ⟨hcls, hloc, -⟩ := State.windowMap_chunk h hb hst
  rw [State.readArrives_image h hb hst]
  unfold State.uncheckedPort State.uncheckedWaiter
  cases hf : s.boot.params.holdFill
  · simp [State.imageRead, State.stallRead, hchunk, hst, hf, hloc, hcls]
  · simp [State.imageRead, State.fillRead, State.answer, hchunk, hst, hf]

end

/-! ## A read forwarded (R85, R102) -/

/-- A forwarded read is held, and its word requested at once where the port has no other access or request. -/
theorem State.forwardRead_eq {d : Decode} {b : Bank} {o f : Nat} (hd : d.loc = some (b, o, f))
    (hw : s.arbiter.cpWait = none) (hbusy : s.cpBusy = false) : s.forwardRead a d =
      (s.withPort (.held { addr := a, cls := d.cls, chunk := d.chunk, bank := b, flash := f, wait := .flash })).withArbiter
        { s.arbiter with cpWait := some (.read { bank := b, addr := f, image := decide (d.cls = .imageChunk) }) } := by
  have hdue : (s.withPort (.held { addr := a, cls := d.cls, chunk := d.chunk, bank := b, flash := f
                                   wait := .flash })).cpDue =
      some (.read { bank := b, addr := f, image := decide (d.cls = .imageChunk) }) := by
    cases ho : s.filter.op <;> simp [State.cpDue, ho]
  have hidle : (s.withPort (.held { addr := a, cls := d.cls, chunk := d.chunk, bank := b, flash := f
                                    wait := .flash })).cpBusy = false := hbusy
  simp [State.forwardRead, hd, State.requestCp, hw, hidle, hdue]

end

/-- Settles O47: the address's class (`State.windowMap_outOfRange`, `State.released_of_chunkState`) and what the port makes of it. -/
theorem aReadIsAnsweredAtItsArrival : Obligations.AReadIsAnsweredAtItsArrival := by
  intro s a
  refine ⟨exec_cpReadArrival_ignored, fun hp hc hr => ?_⟩
  rw [exec_cpReadArrival_taken hp hc hr]
  refine ⟨fun h ht => congrArg Host.Outcome.next (State.readArrives_unmapped h ht), fun h => ⟨fun ha => ?_, fun hx => ?_,
    fun b hb hst hbank hfill => ?_⟩⟩
  · have hs := h.imp_left And.left
    exact congrArg Host.Outcome.next (State.readArrives_fill hs (.inr (by rw [State.windowMap_outOfRange h ha]; rfl)))
  · rcases hx with hx | hst
    · exact congrArg Host.Outcome.next (State.readArrives_fill (h.imp_left And.left) (.inl hx))
    · obtain ⟨hrel, b, hb⟩ := State.released_of_chunkState h hst
      exact congrArg Host.Outcome.next (State.readArrives_bad hrel hb hst)
  · obtain ⟨hrel, -⟩ := State.released_of_chunkState h hst
    refine congrArg Host.Outcome.next ((State.readArrives_good hrel hb hst).trans (if_neg ?_))
    simp [hbank, hfill]

/-- Settles O48: the Window Map half by half (`State.decodeActive_image` and its companions), and the read it forwards
(`State.forwardRead_eq`). -/
theorem aReadIsForwardedToTheWordOfItsAddress : Obligations.AReadIsForwardedToTheWordOfItsAddress := by
  refine ⟨?_, ?_⟩
  · intro s a w maps
    refine ⟨fun b hb hs => ?_, fun h => ?_, State.windowMap_noMap⟩
    · intro c here covers
      have hmap := State.windowMap_mapped (a := a) hb hs
      refine ⟨fun ha hm => ?_, fun ha hm => ⟨fun i r hi hcov hfirst => ?_, fun hnone => ?_⟩, fun ha ha2 => ?_, fun ha => ?_⟩
      · exact hmap.trans ((State.decodeMapped_active ha).trans (State.decodeActive_manifest hm))
      · have hfind := findRegion_first (i := 0) hi ((r.holds_iff c).2 hcov) fun j q hj hq =>
          Bool.eq_false_iff.2 (mt (q.holds_iff c).1 (hfirst j q hj hq))
        rw [Nat.zero_add] at hfind
        refine ⟨fun g k hg hk => ?_, fun g hg => ?_⟩
        · subst hg
          have hstate : s.tables.chunkState (g.first + (c - g.base)) = k.state := by simp [Tables.chunkState, hk]
          rw [hmap, State.decodeMapped_active ha, State.decodeActive_image hm hfind, ← hstate]
          rfl
        · subst hg
          exact hmap.trans ((State.decodeMapped_active ha).trans (State.decodeActive_data hm hfind))
      · have hfind := findRegion_none (i := 0) fun r hr => Bool.eq_false_iff.2 (mt (r.holds_iff c).1 (hnone r hr))
        exact hmap.trans ((State.decodeMapped_active ha).trans (State.decodeActive_uncovered hm hfind))
      · exact hmap.trans (State.decodeMapped_other ha ha2)
      · exact hmap.trans (State.decodeMapped_beyond ha)
    · have hmap := State.windowMap_transparent (a := a) h
      exact ⟨fun ha => hmap.trans (State.decodeTransparent_low ha), fun ha ha2 =>
        hmap.trans (State.decodeTransparent_high ha ha2), fun ha => hmap.trans (State.decodeTransparent_beyond ha)⟩
  · intro s a hp hc hr hw hbusy w d forwarded
    rw [exec_cpReadArrival_taken hp hc hr]
    refine ⟨fun b hs hb => ⟨fun ha hcls => ?_, fun ha hst hgo => ?_, fun ha ha2 => ?_⟩, fun hs ha => ?_⟩
    · obtain ⟨hloc, hchunk⟩ := State.windowMap_data_or_manifest hs hb ha hcls
      rw [State.readArrives_forward (.inl hs) (hcls.imp_right .inl), State.forwardRead_eq hloc hw hbusy, hchunk]
      rfl
    · obtain ⟨hcls, hloc, -⟩ := State.windowMap_chunk hs hb hst
      rw [State.readArrives_good hs hb hst, if_pos hgo, State.forwardRead_eq hloc hw hbusy, hcls]
      rfl
    · have hmap := (State.windowMap_released (a := a) hs hb).trans (State.decodeMapped_other ha ha2)
      rw [State.readArrives_forward (.inl hs) (by simp [hmap]), hmap, State.forwardRead_eq rfl hw hbusy]
      rfl
    · have hmap := State.windowMap_transparent (a := a) hs
      by_cases hlow : a.toNat < w
      · rw [State.decodeTransparent_low hlow] at hmap
        rw [State.readArrives_forward (.inr hs) (by simp [hmap]), hmap, State.forwardRead_eq rfl hw hbusy, if_pos hlow]
        rfl
      · rw [State.decodeTransparent_high (Nat.not_lt.1 hlow) ha] at hmap
        rw [State.readArrives_forward (.inr hs) (by simp [hmap]), hmap, State.forwardRead_eq rfl hw hbusy, if_neg hlow]
        rfl

end Sys2Proof.Machine
end

section
/-! The Scanner with no slot FREE: its claims take none, so that it changes its own state at most (R69, R150). -/

namespace Sys2Proof.Machine

section
variable {s : State} (hf : s.lowestFree = none)
include hf

theorem State.claimScan_full (p : Purpose) (r k : Nat) : (s.claimScan p r k).1 = s := by
  unfold State.claimScan
  rw [hf]
  split
  · rfl
  · split <;> rfl

/-- A chunk that no slot holds finds no slot either. -/
theorem State.claimScan_notMade {r k : Nat} (hn : s.chunkHolder r k = none) (p : Purpose) :
    s.claimScan p r k = (s, .notMade) := by
  simp [State.claimScan, hn, hf]

theorem State.scanStep_full {pos k : Nat} {u : State} (hu : s.scanStep pos k = some u) : u = s.withScan u.scan := by
  unfold State.scanStep at hu
  dsimp only at hu
  split at hu
  · cases hu; rfl
  · cases hu; rfl
  · next p r _ =>
    have hclaim := State.claimScan_full hf p r k
    split at hu
    · next heq => cases hu; rw [heq] at hclaim; cases hclaim; rfl
    · next heq => cases hu; rw [heq] at hclaim; cases hclaim; rfl
    · cases hu

theorem State.scanSteps_full (fuel : Nat) : State.scanSteps fuel s = s.withScan (State.scanSteps fuel s).scan := by
  induction fuel generalizing s with
  | zero => rfl
  | succ n ih =>
    match hc : s.scan.cursor with
    | none | some .endMark => simp only [State.scanSteps, hc, State.withScan_self]
    | some (.at_ pos k) =>
      rw [State.scanSteps_succ hc]
      cases hu : s.scanStep pos k with
      | none => rfl
      | some u =>
        have hstep := State.scanStep_full hf hu
        have hfree : u.lowestFree = none := by rw [hstep]; exact hf
        calc State.scanSteps n u = u.withScan (State.scanSteps n u).scan := ih hfree
          _ = (s.withScan u.scan).withScan (State.scanSteps n u).scan := by rw [← hstep]
          _ = s.withScan (State.scanSteps n u).scan := rfl

end

theorem State.endPass_eq (s : State) : s.endPass = s.withScan s.endPass.scan := by
  unfold State.endPass
  split <;> rfl

theorem State.endPass_of_none {s : State} (h : s.scan.pass = .none) : s.endPass = s := by
  simp [State.endPass, State.passOver, h]

section
variable {s : State} (hf : s.lowestFree = none)
include hf

theorem State.scanResume_full : s.scanResume = s.withScan s.scanResume.scan := by
  unfold State.scanResume
  split
  · have hsteps := State.scanSteps_full hf s.scanFuel
    generalize State.scanSteps s.scanFuel s = u at hsteps ⊢
    calc u.endPass = u.withScan u.endPass.scan := u.endPass_eq
      _ = (s.withScan u.scan).withScan u.endPass.scan := by rw [← hsteps]
      _ = s.withScan u.endPass.scan := rfl
  · exact s.endPass_eq

theorem State.rewind_full (p : Option Purpose) (c : Option Content) : s.rewind p c = s.withScan (s.rewind p c).scan := by
  unfold State.rewind
  split
  · split
    · split
      · split
        · exact State.scanResume_full (s := s.setCursor _) hf
        · exact State.scanResume_full hf
      · exact State.scanResume_full hf
    · exact State.scanResume_full hf
  · exact s.endPass_eq

/-- The Scanner stops at once at a chunk that it would fill: it finds no slot. -/
theorem State.scanResume_stops {pos k r : Nat} {p : Purpose} (hp : s.scan.pass.claims = true)
    (hc : s.scan.cursor = some (.at_ pos k)) (h1 : 1 ≤ pos) (hr : s.scan.list[pos - 1]? = some r)
    (ha : s.scanAction pos k = .claim p r) (hn : s.chunkHolder r k = none) : s.scanResume = s := by
  have hstep : s.scanStep pos k = none := by simp [State.scanStep, ha, State.claimScan_notMade hf hn]
  rw [State.scanResume_step hp hc h1 hr, hstep]

end

@[simp] theorem State.rewind_list (s : State) (p : Option Purpose) (c : Option Content) :
    (s.rewind p c).scan.list = s.scan.list := by
  unfold State.rewind
  split
  · split
    · split
      · rw [State.scanResume_list]
        split <;> rfl
      · exact s.scanResume_list
    · exact s.scanResume_list
  · exact s.endPass_list

/-- The Scanner fills an UNCHECKED chunk in the first pass and a GOOD one of a COMPLETE region in a patrol pass (R150, R155). -/
theorem State.scanAction_claims {s : State} {pos k r : Nat} {g : ImageRegion} (hr : s.scan.list[pos - 1]? = some r)
    (hg : s.tables.image r = some g)
    (h : (s.scan.pass = .first ∧ g.state ≠ .failed ∧ s.tables.chunkState (g.first + k) = .unchecked) ∨
      (s.scan.pass = .patrol ∧ g.state = .complete ∧ s.tables.chunkState (g.first + k) = .good)) :
    ∃ p, s.scanAction pos k = .claim p r := by
  have hregion : s.scanRegion pos = some (r, g) := by simp [State.scanRegion, Scan.entry, hr, hg]
  rcases h with ⟨hp, hs, hc⟩ | ⟨hp, hs, hc⟩
  · exact ⟨.scan, by simp [State.scanAction, hregion, hp, hs, hc]⟩
  · exact ⟨.patrol, by simp [State.scanAction, hregion, hp, hs, hc]⟩

/-- A preempted chunk behind the cursor: the Scanner goes back to it, and stops there, for no slot is FREE (R150, R152). -/
theorem State.rewind_goesBack {s : State} {r k pos : Nat} {at_ : Cursor} {g : ImageRegion} {p : Option Purpose}
    (hf : s.lowestFree = none) (hn : s.chunkHolder r k = none) (hc : s.scan.cursor = some at_)
    (hg : s.tables.image r = some g) (h1 : 1 ≤ pos) (hpos : s.scan.list[pos - 1]? = some r)
    (hfirst : ∀ q, q < pos - 1 → s.scan.list[q]? ≠ some r)
    (hbehind : at_ = .endMark ∨ ∃ p m, at_ = .at_ p m ∧ (pos < p ∨ (pos = p ∧ k < m)))
    (hpass : (s.scan.pass = .first ∧ p = some .scan ∧ g.state ≠ .failed ∧
        s.tables.chunkState (g.first + k) = .unchecked) ∨
      (s.scan.pass = .patrol ∧ p = some .patrol ∧ g.state = .complete ∧ s.tables.chunkState (g.first + k) = .good)) :
    s.rewind p (some (.chunk r k)) = s.setCursor (.at_ pos k) := by
  have hmatched : (s.scan.pass = .first ∧ p = some .scan) ∨ (s.scan.pass = .patrol ∧ p = some .patrol) :=
    hpass.imp (fun ⟨hp, hs, _⟩ => ⟨hp, hs⟩) fun ⟨hp, hs, _⟩ => ⟨hp, hs⟩
  have hclaims : s.scan.pass.claims = true := by
    rcases hmatched with ⟨hp, -⟩ | ⟨hp, -⟩ <;> rw [hp] <;> rfl
  obtain ⟨q, haction⟩ := State.scanAction_claims (s := s.setCursor (.at_ pos k)) (k := k) hpos hg
    (hpass.imp (fun ⟨hp, _, hs⟩ => ⟨hp, hs⟩) fun ⟨hp, _, hs⟩ => ⟨hp, hs⟩)
  rw [(s.rewind_eq _ _).2 hmatched r k pos at_ rfl hc h1 hpos hfirst, if_pos ((Cursor.behind_iff _ _ _).2 hbehind)]
  exact State.scanResume_stops (s := s.setCursor (.at_ pos k)) hf hclaims rfl h1 hpos haction hn

/-- With no pass in progress the Scanner does nothing. -/
theorem State.rewind_of_no_pass {s : State} (h : s.scan.pass = .none) (p : Option Purpose) (c : Option Content) :
    s.rewind p c = s := by
  rw [(s.rewind_eq p c).1 (by simp [h])]
  exact State.endPass_of_none h

end Sys2Proof.Machine
end

section
/-! A demand's claim by the state of the slots (R67 to R71): it joins, takes, preempts or becomes the pending demand. -/

namespace Sys2Proof.Machine

section
variable {s : State}

theorem State.chunkHolder_eq_none {r c : Nat} (h : ∀ j, (s.slot j).content ≠ some (.chunk r c)) :
    s.chunkHolder r c = none :=
  List.find?_eq_none.2 fun j _ => by simp [h j]

/-! ## The claim -/

section
variable {r c : Nat} {i : Fin 8} (hs : s.chunkStateOf r c ≠ .bad) (fromCp : Bool) (w : Option Nat)
include hs

theorem State.claimDemand_joins (hn : s.chunkHolder r c = some i) :
    (s.claimDemand fromCp r c w).1 = s.demandJoined i w := by
  simp [State.claimDemand, hs, hn, State.joinSlot_eq]

theorem State.claimDemand_takes (hn : s.chunkHolder r c = none) (hf : s.lowestFree = some i) :
    (s.claimDemand fromCp r c w).1 = s.demandTaken i r c w := by
  simp only [State.claimDemand, hs, hn, hf, if_false]
  exact s.takeSlot_demand i r c w

theorem State.claimDemand_preempts (hn : s.chunkHolder r c = none) (hf : s.lowestFree = none) (hv : s.victimIs i) :
    (s.claimDemand fromCp r c w).1 = s.preempt i r c w := by
  simp [State.claimDemand, hs, hn, hf, State.victim_of hv]

theorem State.claimDemand_pends (hn : s.chunkHolder r c = none) (hf : s.lowestFree = none)
    (hv : ∀ j, ¬ (s.slot j).preemptible) : (s.claimDemand true r c w).1 = (s.claimPending r c w).1 := by
  simp [State.claimDemand, hs, hn, hf, State.victim_none hv]

end

/-! ## The pending demand (R71) -/

/-- A demand with a waiter takes the place of the pending one, and any demand the empty place. -/
theorem State.claimPending_sets {w : Option Nat} (h : w.isSome = true ∨ s.verifier.pendingDemand = none) (r c : Nat) :
    (s.claimPending r c w).1 = s.setPending { region := r, index := c, waiter := w } := by
  unfold State.claimPending
  match hd : s.verifier.pendingDemand with
  | none => rfl
  | some d =>
    obtain ⟨n, rfl⟩ := Option.isSome_iff_exists.1 (h.resolve_right (by simp [hd]))
    dsimp only
    split
    · next hsame => rw [← hsame.1, ← hsame.2]; rfl
    · rfl

/-- A demand without a waiter changes no pending one. -/
theorem State.claimPending_drops (h : s.verifier.pendingDemand.isSome = true) (r c : Nat) :
    (s.claimPending r c none).1 = s := by
  obtain ⟨d, hd⟩ := Option.isSome_iff_exists.1 h
  unfold State.claimPending
  simp only [hd]
  split
  · show s.withVerifier { s.verifier with pendingDemand := some d } = s
    rw [← hd]
    rfl
  · rfl

end

/-! ## Preemption (R65, R70, R90) -/

/-- The part with the victim's slot taken by the demand, before the Scanner is told. -/
def State.preempted (s : State) (i : Fin 8) (r c : Nat) (w : Option Nat) : State :=
  ((s.preemptBurst i).freeSlot i).demandTaken i r c w

section
variable (s : State) (i : Fin 8) (r c : Nat) (w : Option Nat)

theorem State.preempt_rewinds :
    s.preempt i r c w = (s.preempted i r c w).rewind (s.slot i).purpose (s.slot i).content := by
  unfold State.preempted
  rw [← State.takeSlot_demand]
  rfl

theorem State.demandTaken_arbiter : (s.demandTaken i r c w).arbiter =
    { s.arbiter with slotWait := s.arbiter.slotWait.set i (some .class3) } := rfl

theorem State.demandTaken_frame : s.demandTaken i r c w =
    (s.withVerifier { s.verifier with slots := (s.demandTaken i r c w).verifier.slots }).withArbiter
      (s.demandTaken i r c w).arbiter := rfl

theorem State.freeSlot_frame : s.freeSlot i =
    (s.withVerifier { s.verifier with slots := (s.freeSlot i).verifier.slots }).withArbiter (s.freeSlot i).arbiter := rfl

theorem State.preempted_arbiter : (s.preempted i r c w).arbiter = { s.arbiter with
    slotWait := s.arbiter.slotWait.set i (some .class3)
    access := s.arbiter.access.map (Access.discardFor i)
    suspended := s.arbiter.suspended.map (Burst.discardFor i)
    parked := s.arbiter.parked.map (Burst.discardFor i) } := by
  obtain ⟨⟨-, -, harb⟩, -⟩ := (s.preemptBurst i).freeSlot_spec i
  rw [State.preempted, State.demandTaken_arbiter, harb, State.preemptBurst_eq]
  simp

/-- A preemption reaches the slots' records and the arbiter alone. -/
theorem State.preempted_frame : s.preempted i r c w =
    (s.withVerifier { s.verifier with slots := (s.preempted i r c w).verifier.slots }).withArbiter
      (s.preempted i r c w).arbiter := by
  obtain ⟨a, hburst⟩ : ∃ a, s.preemptBurst i = s.withArbiter a := ⟨_, s.preemptBurst_eq i⟩
  have hfreed := (s.preemptBurst i).freeSlot_frame i
  have htaken := ((s.preemptBurst i).freeSlot i).demandTaken_frame i r c w
  unfold State.preempted
  generalize (s.preemptBurst i).freeSlot i = t at hfreed htaken ⊢
  generalize t.demandTaken i r c w = u at htaken ⊢
  rw [hburst] at hfreed
  calc u = (t.withVerifier { t.verifier with slots := u.verifier.slots }).withArbiter u.arbiter := htaken
    _ = (s.withVerifier { s.verifier with slots := u.verifier.slots }).withArbiter u.arbiter := by rw [hfreed]; rfl

@[simp] theorem State.preempted_scan : (s.preempted i r c w).scan = s.scan := by
  rw [State.preempted_frame]
  rfl

@[simp] theorem State.preempted_tables : (s.preempted i r c w).tables = s.tables := by
  rw [State.preempted_frame]
  rfl

variable {s i} (hf : s.lowestFree = none)
include hf

theorem State.preempted_slot_self :
    (s.preempted i r c w).slot i = claimedSlot .demand r c 8 w w.isNone (s.slot i).buffer := by
  obtain ⟨hfreed, -⟩ := (s.preemptBurst i).freeSlot_spec i
  have hcount := State.inUseCount_freed (s := s.preemptBurst i) hf hfreed
  have hslot : (s.preempted i r c w).slot i = claimedSlot .demand r c (((s.preemptBurst i).freeSlot i).inUseCount + 1)
      w w.isNone (((s.preemptBurst i).freeSlot i).slot i).buffer := (vector_set_get _ _ _ _).trans (if_pos rfl)
  rw [hslot, hcount, hfreed.1]
  rfl

omit hf in
theorem State.preempted_slot_other {j : Fin 8} (hj : j ≠ i) : (s.preempted i r c w).slot j =
    { s.slot j with order := orderAfter (s.slot i).order (s.slot j).order } := by
  obtain ⟨⟨-, hothers, -⟩, -⟩ := (s.preemptBurst i).freeSlot_spec i
  exact ((vector_set_get _ _ _ _).trans (if_neg hj.symm)).trans (hothers j hj)

theorem State.preempted_full : (s.preempted i r c w).lowestFree = none := by
  refine List.find?_eq_none.2 fun j _ => ?_
  by_cases hj : j = i
  · rw [hj, State.preempted_slot_self r c w hf]
    simp [Slot.inUse, claimedSlot]
  · have huse := State.inUse_of_none_free hf j
    rw [State.preempted_slot_other r c w hj]
    simpa [Slot.inUse] using huse

/-- After the victim's slot is taken the Scanner changes its own state at most. -/
theorem State.preempt_eq : s.preempt i r c w = (s.preempted i r c w).withScan (s.preempt i r c w).scan := by
  rw [State.preempt_rewinds]
  exact State.rewind_full (State.preempted_full r c w hf) _ _

theorem State.preempt_verifier : (s.preempt i r c w).verifier = (s.preempted i r c w).verifier := by
  rw [State.preempt_eq r c w hf]
  rfl

theorem State.preempt_arbiter : (s.preempt i r c w).arbiter = (s.preempted i r c w).arbiter := by
  rw [State.preempt_eq r c w hf]
  rfl

theorem State.preempt_frame : s.preempt i r c w = ((s.withVerifier (s.preempt i r c w).verifier).withArbiter
    (s.preempt i r c w).arbiter).withScan (s.preempt i r c w).scan := by
  rw [State.preempt_verifier r c w hf, State.preempt_arbiter r c w hf]
  refine (State.preempt_eq r c w hf).trans ?_
  conv_lhs => rw [State.preempted_frame]
  rfl

theorem State.preempt_slot_self :
    (s.preempt i r c w).slot i = claimedSlot .demand r c 8 w w.isNone (s.slot i).buffer := by
  rw [State.slot_eq (State.preempt_verifier r c w hf), State.preempted_slot_self r c w hf]

theorem State.preempt_slot_other {j : Fin 8} (hj : j ≠ i) : (s.preempt i r c w).slot j =
    { s.slot j with order := orderAfter (s.slot i).order (s.slot j).order } := by
  rw [State.slot_eq (State.preempt_verifier r c w hf), State.preempted_slot_other r c w hj]

theorem State.preempt_pendingDemand : (s.preempt i r c w).verifier.pendingDemand = s.verifier.pendingDemand := by
  rw [State.preempt_verifier r c w hf, State.preempted_frame]
  rfl

/-- The victim's chunk has left its slot to the demand's chunk. -/
theorem State.preempted_chunkHolder {r' k : Nat} (hn : s.chunkHolder r c = none)
    (hv : (s.slot i).content = some (.chunk r' k)) (honly : ∀ j, j ≠ i → (s.slot j).content ≠ some (.chunk r' k)) :
    (s.preempted i r c w).chunkHolder r' k = none := by
  refine State.chunkHolder_eq_none fun j => ?_
  by_cases hj : j = i
  · rw [hj, State.preempted_slot_self r c w hf]
    intro heq
    cases heq
    have hi := List.find?_eq_none.1 hn i (mem_allSlots i)
    simp [State.inUse_of_none_free hf i, hv] at hi
  · rw [State.preempted_slot_other r c w hj]
    exact honly j hj

end

end Sys2Proof.Machine
end

section
/-! A read of an UNCHECKED chunk (R105, R106): how it claims the chunk's proof. -/

namespace Sys2Proof.Machine

theorem Access.map_discardFor (i : Fin 8) (x : Option Access) : x.map (Access.discardFor i) = x.map fun y => match y with
    | .burst u => .burst (if u.slot = i ∧ u.fate = .live then { u with fate := .discard } else u)
    | y => y := by
  cases x with
  | none => rfl
  | some y => cases y <;> rfl

/-- Settles O49: the read is `State.readArrives_unchecked`, its claim one of the `State.claimDemand_…` lemmas, and a preemption
`State.preempt_frame` and `State.rewind_goesBack`. -/
theorem aReadOfAnUncheckedChunkClaimsItsProof : Obligations.AReadOfAnUncheckedChunkClaimsItsProof := by
  intro s a b c i hp hcrst hr hs hb hchunk hst content stall held port waiter
  have hread : exec (.cpReadArrival a) s =
      .next ((s.withPort port).claimDemand true c.region c.index waiter).1 :=
    (exec_cpReadArrival_taken hp hcrst hr).trans (congrArg Host.Outcome.next (State.readArrives_unchecked hs hb hchunk hst))
  have hstate : (s.withPort port).chunkStateOf c.region c.index ≠ .bad := by
    obtain ⟨-, -, -, c', g, hchunk', hg, hrec, hgood⟩ := State.windowMap_chunk hs hb hst
    rw [hchunk] at hchunk'
    cases hchunk'
    rw [hrec] at hgood
    simp [State.chunkStateOf, hg, hgood]
  rw [hread]
  refine ⟨fun hn => ?_, fun hn hf => ?_, fun hn hf hv => ?_, fun hn hf hv => ⟨fun h => ?_, fun h hd => ?_⟩⟩
  · exact congrArg Host.Outcome.next (State.claimDemand_joins hstate true waiter hn)
  · exact congrArg Host.Outcome.next (State.claimDemand_takes hstate true waiter hn hf)
  · intro v discarded
    have hfull : (s.withPort port).lowestFree = none := hf
    have htold : (s.withPort port).preempt i c.region c.index waiter =
        ((s.withPort port).preempted i c.region c.index waiter).rewind v.purpose v.content := State.preempt_rewinds ..
    refine ⟨_, congrArg Host.Outcome.next (State.claimDemand_preempts hstate true waiter hn hf hv),
      State.preempt_spec _ i _ _ _ hf, State.preempt_frame c.region c.index waiter hfull,
      State.preempt_slot_self c.region c.index waiter hfull, fun n ho j hj => ?_,
      State.preempt_pendingDemand c.region c.index waiter hfull, ?_, ?_,
      fun r k pos at_ g hv hc hg honly h1 hpos hfirst hbehind hpass => ?_, fun hpass => ?_⟩
    · rw [State.preempt_slot_other c.region c.index waiter hfull hj]
      show { s.slot j with order := orderAfter v.order (s.slot j).order } = _
      rw [ho]
      rfl
    · rw [State.preempt_arbiter c.region c.index waiter hfull, State.preempted_arbiter, Access.map_discardFor]
      rfl
    · rw [htold, State.rewind_list, State.preempted_scan]
      rfl
    · have hholder := State.preempted_chunkHolder c.region c.index waiter hfull hn hv honly
      have hnone := State.preempted_full (i := i) c.region c.index waiter hfull
      rw [htold, hv, State.rewind_goesBack hnone hholder (by simpa using hc) (by simpa using hg) h1
        (by simpa using hpos) (by simpa using hfirst) hbehind (by simpa using hpass)]
      simp [State.setCursor]
    · rw [htold, State.rewind_of_no_pass (by simpa using hpass)]
      simp
  · rw [State.claimDemand_pends hstate waiter hn hf hv]
    have hw : waiter.isSome = true ∨ (s.withPort port).verifier.pendingDemand = none :=
      h.imp_left fun hstall => by simp [waiter, hstall]
    exact congrArg Host.Outcome.next (State.claimPending_sets hw _ _)
  · rw [State.claimDemand_pends hstate waiter hn hf hv]
    have hw : waiter = none := if_neg h
    rw [hw]
    exact congrArg Host.Outcome.next (State.claimPending_drops (s := s.withPort port) hd _ _)

end Sys2Proof.Machine
end

section
/-! A held read's end: the word that returns, the read given up, and CRST_IN (R102, R107, R111, R112, R126). -/

namespace Sys2Proof.Machine

section
variable {s : State} {h : HeldRead}

/-! ## The answer (R102, R107) -/

theorem State.heldAnswer_plain (hc : h.chunk = none) (w : Word) : s.heldAnswer h w = w := by
  simp [State.heldAnswer, hc]

theorem State.heldAnswer_image {c : ChunkRef} (hc : h.chunk = some c) (hcls : h.cls = .imageChunk) (w : Word) :
    s.heldAnswer h w = if s.tables.chunkState c.record = .good then w else s.boot.params.fillWord := by
  simp only [State.heldAnswer, hc, hcls, ne_eq, true_and]
  exact ite_not ..

/-! ## The word returned (R95, R107) -/

/-- The part after the word of an access has been read from the flash. -/
def State.wordRead (s : State) (addr : Nat) : State :=
  (s.withFlash (Flash.read s.bankWords s.flash addr).2).withArbiter { s.arbiter with access := none }

theorem State.cpReturns_held {r : CpWordRequest} (ha : s.arbiter.access = some (.cpRead r true))
    (hp : s.port = .held h) (hw : h.wait = .flash) : s.cpReturns =
      (s.wordRead r.addr).withPort (.answered (s.heldAnswer h (Flash.read s.bankWords s.flash r.addr).1)) := by
  have hport : (s.readFlash r.addr).2.endAccess.port = .held h := hp
  simp only [State.cpReturns, ha, hport, hw, if_true]
  rfl

theorem State.requestCp_of_none_due (hd : s.cpDue = none) : s.requestCp = s := by
  unfold State.requestCp
  rw [hd]
  exact ite_self s

theorem State.cpReturns_dropped {r : CpWordRequest} (ha : s.arbiter.access = some (.cpRead r false))
    (hp : s.port = .free) (ho : s.filter.op = none) : s.cpReturns = s.wordRead r.addr := by
  have hdue : (s.wordRead r.addr).cpDue = none := by simp [State.cpDue, State.wordRead, hp, ho]
  simp only [State.cpReturns, ha]
  exact State.requestCp_of_none_due hdue

/-! ## The read given up (R80, R111, R112) -/

theorem State.endHeldRead_flash (hp : s.port = .held h) (hw : h.wait = .flash) : s.endHeldRead =
    (s.withPort .free).withArbiter { s.arbiter with cpWait := none, access := s.arbiter.access.map Access.dropCp } := by
  simp [State.endHeldRead, hp, hw]

theorem State.endHeldRead_proof (hp : s.port = .held h) (hw : h.wait = .proof) :
    s.endHeldRead = (s.withPort .free).withVerifier s.verifier.dropWaiter := by
  simp [State.endHeldRead, hp, hw]

/-- The waiter of a read given up becomes its slot's demand flag. -/
theorem State.endHeldRead_slot (hp : s.port = .held h) (hw : h.wait = .proof) (i : Fin 8) :
    s.endHeldRead.slot i = if (s.slot i).waiter.isSome then { s.slot i with waiter := none, flag := true } else s.slot i := by
  rw [State.endHeldRead_proof hp hw]
  exact mapSlots_get _ _ _

end

/-- Settles O50: the word returned (`State.cpReturns_held`, `State.cpReturns_dropped`), the read given up
(`State.endHeldRead_flash`, `State.endHeldRead_proof`), and the strobe by the access on the port. -/
theorem aHeldReadIsAnsweredOrEnds : Obligations.AHeldReadIsAnsweredOrEnds := by
  intro s dropped
  refine ⟨fun r h ha hp hw => ?_, fun r ha hp ho => congrArg Host.Outcome.next (State.cpReturns_dropped ha hp ho),
    fun h hp hw => congrArg Host.Outcome.next (State.endHeldRead_flash hp hw), fun h hp hw => ?_, fun w hp => ?_, fun hp => ?_,
    fun hready => ?_⟩
  · intro rd answer
    have hret := State.cpReturns_held ha hp hw
    refine ⟨fun hc => ?_, fun c hc hcls => ?_, fun hm => ?_⟩
    · rw [State.heldAnswer_plain hc] at hret
      exact congrArg Host.Outcome.next hret
    · rw [State.heldAnswer_image hc hcls] at hret
      exact congrArg Host.Outcome.next hret
    · simp [rd, Flash.read, hm]
  · have hend := State.endHeldRead_proof hp hw
    refine ⟨_, rfl, ?_, ?_, State.endHeldRead_slot hp hw⟩
    · rw [hend]
      rfl
    · rw [hend]
      rfl
  · refine congrArg Host.Outcome.next ?_
    rw [State.accessEnds, hp]
  · refine congrArg Host.Outcome.next ?_
    rw [State.accessEnds, hp]
  · refine congrArg Host.Outcome.next ?_
    unfold State.cpReady at hready
    unfold State.accessEnds
    match hp : s.port with
    | .free | .answered _ | .written => simp [hp] at hready
    | .held _ | .writeHeld => rfl

/-! ## CRST_IN at the port and at the tracker (R95, R111, R126) -/

section
variable (s : State)

theorem Access.dropCp_eq_sequence (x : Access) (q : SequenceRequest) :
    x.dropCp = .cpSequence q ↔ x = .cpSequence q := by
  cases x <;> simp [Access.dropCp]

/-- A read given up leaves a sequence on the Flash Port. -/
theorem State.endHeldRead_sequence (q : SequenceRequest) :
    s.endHeldRead.arbiter.access = some (.cpSequence q) ↔ s.arbiter.access = some (.cpSequence q) := by
  unfold State.endHeldRead
  split
  · dsimp only
    split
    · simp [Option.map_eq_some_iff, Access.dropCp_eq_sequence]
    · rfl
  all_goals rfl

theorem State.sequenceOnPort_iff : s.sequenceOnPort = true ↔ ∃ q, s.arbiter.access = some (.cpSequence q) := by
  unfold State.sequenceOnPort
  match s.arbiter.access with
  | none => simp
  | some x => cases x <;> simp

/-- The tracker's sequence has been granted: it is past its sending, or on the Flash Port (R126). -/
theorem State.forwardGranted_iff : s.forwardGranted = true ↔ ∃ o, s.filter.op = some o ∧ o.owner = .tracker ∧
    (o.phase ≠ .sending ∨ ∃ q, s.arbiter.access = some (.cpSequence q)) := by
  rw [← State.sequenceOnPort_iff]
  unfold State.forwardGranted
  match s.filter.op with
  | none => simp
  | some o => cases howner : o.owner <;> cases hphase : o.phase <;> simp [howner, hphase]

theorem State.resetTracker_frame : s.resetTracker = (s.withFilter { s.filter with
    tracker := s.resetTracker.filter.tracker, op := s.resetTracker.filter.op }).withArbiter s.resetTracker.arbiter := by
  unfold State.resetTracker
  split
  case h_2 => split <;> rfl
  all_goals rfl

variable {s}

theorem State.resetTracker_idle (h : s.filter.tracker.state = .idle) : s.resetTracker = s := by
  simp [State.resetTracker, h]

theorem State.resetTracker_partial (hi : s.filter.tracker.state ≠ .idle) (hb : s.filter.tracker.state ≠ .flashBusy) :
    s.resetTracker = s.setTracker Tracker.idle := by
  unfold State.resetTracker
  split
  case h_1 e => exact absurd e hi
  case h_2 e => exact absurd e hb
  all_goals rfl

theorem State.resetTracker_granted (h : s.filter.tracker.state = .flashBusy) (hg : s.forwardGranted = true) :
    s.resetTracker = s := by
  simp [State.resetTracker, h, hg]

theorem State.resetTracker_ungranted (h : s.filter.tracker.state = .flashBusy) (hg : ¬ s.forwardGranted = true) :
    s.resetTracker = (s.withFilter s.filter.dropForward).withArbiter { s.arbiter with cpWait := none } := by
  simp [State.resetTracker, h, hg]

theorem State.resetTracker_cpWait (h : s.arbiter.cpWait = none) : s.resetTracker.arbiter.cpWait = none := by
  rcases s.resetTracker_arbiter with e | e <;> rw [e]
  exact h

end

/-! ## CRST_IN asserting -/

section
variable (s : State)

@[simp] theorem State.crstAsserts_port : s.crstAsserts.port = .free := rfl
@[simp] theorem State.crstAsserts_lines : s.crstAsserts.lines = { s.lines with crstIn := true } := by
  simp [State.crstAsserts]
@[simp] theorem State.crstAsserts_verifier : s.crstAsserts.verifier = s.endHeldRead.verifier := by
  simp [State.crstAsserts]

theorem State.crstAsserts_filter : s.crstAsserts.filter = s.endHeldRead.resetTracker.filter := rfl
theorem State.crstAsserts_arbiter : s.crstAsserts.arbiter = s.endHeldRead.resetTracker.arbiter := rfl

theorem State.crstAsserts_frame : s.crstAsserts =
    (((((s.withLines s.crstAsserts.lines).withPort .free).withArbiter s.crstAsserts.arbiter).withVerifier
      s.crstAsserts.verifier).withFilter s.crstAsserts.filter) := by
  apply State.ext_blocks <;> simp

/-- CRST_IN moves the tracker and the operation in flight at most: the count, the capture and the flag stay. -/
theorem State.crstAsserts_filter_frame : s.crstAsserts.filter = { s.filter with
    tracker := s.crstAsserts.filter.tracker, op := s.crstAsserts.filter.op } := by
  have hfilter : s.endHeldRead.filter = s.filter := by simp
  rw [State.crstAsserts_filter, State.resetTracker_frame, ← hfilter]
  rfl

end

/-- Settles O20: CRST_IN is `State.endHeldRead` and then `State.resetTracker`, by what the tracker holds. -/
theorem crstInEndsTheAccessAndThePartialSequence : Obligations.CrstInEndsTheAccessAndThePartialSequence := by
  intro s
  have hfilter : s.endHeldRead.filter = s.filter := by simp
  have hkept := s.crstAsserts_filter_frame
  refine ⟨⟨s.crstAsserts, rfl, s.crstAsserts_lines, rfl, s.crstAsserts_frame, by rw [hkept], by rw [hkept], by rw [hkept],
    fun hb => ?_, fun hb => ?_, fun h hp hw => ?_, fun h hp hw i => ?_⟩, rfl⟩
  · rw [State.crstAsserts_filter]
    by_cases hi : s.filter.tracker.state = .idle
    · rw [State.resetTracker_idle (by rw [hfilter]; exact hi), hfilter]
      exact ⟨rfl, fun hn => absurd hi hn, fun _ => rfl⟩
    · rw [State.resetTracker_partial (by rw [hfilter]; exact hi) (by rw [hfilter]; exact hb), State.setTracker, hfilter]
      exact ⟨rfl, fun _ => rfl, fun hn => absurd hn hi⟩
  · intro granted
    have hgranted : s.endHeldRead.forwardGranted = true ↔ granted := by
      simp only [State.forwardGranted_iff, State.endHeldRead_sequence, hfilter, granted]
    have hbusy : s.endHeldRead.filter.tracker.state = .flashBusy := by rw [hfilter]; exact hb
    rw [State.crstAsserts_filter, State.crstAsserts_arbiter]
    refine ⟨fun hg => ?_, fun hg => ?_⟩
    · rw [State.resetTracker_granted hbusy (hgranted.2 hg), hfilter]
    · rw [State.resetTracker_ungranted hbusy (mt hgranted.1 hg), hfilter]
      refine ⟨rfl, rfl, fun o ho => ?_⟩
      simp [Filter.dropForward, ho]
  · rw [State.crstAsserts_arbiter]
    exact State.resetTracker_cpWait (by rw [State.endHeldRead_flash hp hw]; rfl)
  · rw [State.slot_eq s.crstAsserts_verifier, State.endHeldRead_slot hp hw]
    split
    · exact ⟨rfl, rfl, fun _ => rfl⟩
    · next hn => exact ⟨Option.not_isSome_iff_eq_none.1 hn, rfl, fun hi => absurd hi hn⟩

end Sys2Proof.Machine
end

section
/-! The Write Filter at a write's arrival: the write absorbed, refused or forwarded (R116 to R122, R127). -/

namespace Sys2Proof.Machine

/-! ## Refusal (R121, R127) -/

section
variable (s : State) (r : Reason) (a : Addr) (v : Word)

/-- What a refusal leaves, as one update of the alert conditions and one of the filter. -/
theorem State.refuse_eq : s.refuse r a v =
    (s.withAlerts { s.alerts with violation := s.alerts.violation || s.filter.capture.isNone }).withFilter
      { s.filter with
        violations := min (s.filter.violations + 1) 65535
        capture := s.filter.capture.or
          (some { reason := r, addr := a, value := v, boot := s.boot.state, gate := s.gate.state })
        tracker := if s.filter.tracker.state = .flashBusy then s.filter.tracker else Tracker.idle } := by
  unfold State.refuse
  by_cases hbusy : s.filter.tracker.state = .flashBusy
  · cases hc : s.filter.capture <;> simp [hbusy, hc, Filter.violation, State.withAlerts, State.withFilter]
  · cases hc : s.filter.capture <;>
      simp [hbusy, hc, Filter.violation, State.setTracker, State.withAlerts, State.withFilter]

theorem State.refuse_written : (s.withPort .written).refuse r a v = s.refusedWith a v r :=
  State.refuse_eq _ r a v

theorem State.refuse_busy_iff :
    (s.refuse r a v).filter.tracker.state = .flashBusy ↔ s.filter.tracker.state = .flashBusy := by
  obtain ⟨-, -, -, hbusy⟩ := s.refuse_spec r a v
  exact hbusy

/-- A refusal does not see which sequence in progress it discards. -/
theorem State.refuse_setTracker {t : Tracker} (ht : t.state ≠ .flashBusy) (hs : s.filter.tracker.state ≠ .flashBusy) :
    (s.setTracker t).refuse r a v = s.refuse r a v := by
  have hbusy : (s.setTracker t).filter.tracker.state ≠ .flashBusy := ht
  rw [State.refuse_eq, State.refuse_eq, if_neg hbusy, if_neg hs]
  rfl

end

/-! ## The first write of a sequence (R117) -/

section
variable {s : State} {a : Addr} {v : Word} {d : Decode} {b : Bank} {o f : Nat}

theorem State.firstWrite_nowhere (hl : d.loc = none) : s.firstWrite a v d = s.refuse .outOfRange a v := by
  simp [State.firstWrite, hl]

theorem State.firstWrite_enables (hl : d.loc = some (b, o, f)) (h : o = 0x1E00 ∧ v = 0x5A3C#16) : s.firstWrite a v d =
    s.setTracker { state := .en1, bank := some b, writes := [{ addr := a, offset := o, value := v }] } := by
  simp [State.firstWrite, hl, isFirstEnable, h]

theorem State.firstWrite_stray (hl : d.loc = some (b, o, f)) (h : ¬ (o = 0x1E00 ∧ v = 0x5A3C#16)) :
    s.firstWrite a v d = s.refuse .stray a v := by
  have henable : isFirstEnable o v = false := by simpa [isFirstEnable] using h
  simp [State.firstWrite, hl, henable]

/-- A first write does not see which sequence in progress it takes the place of. -/
theorem State.firstWrite_setTracker {t : Tracker} (ht : t.state ≠ .flashBusy)
    (hs : s.filter.tracker.state ≠ .flashBusy) : (s.setTracker t).firstWrite a v d = s.firstWrite a v d := by
  unfold State.firstWrite
  split
  · exact s.refuse_setTracker _ a v ht hs
  · split
    · rfl
    · exact s.refuse_setTracker _ a v ht hs

theorem State.firstWrite_not_busy (hs : s.filter.tracker.state ≠ .flashBusy) :
    (s.firstWrite a v d).filter.tracker.state ≠ .flashBusy := by
  have hrefused (r : Reason) : (s.refuse r a v).filter.tracker.state ≠ .flashBusy :=
    mt (s.refuse_busy_iff r a v).1 hs
  unfold State.firstWrite
  split
  · exact hrefused _
  · split
    · exact nofun
    · exact hrefused _

end

/-! ## How the tracker's state takes a write (R118) -/

section
variable {o : Nat} {v : Word}

theorem TrackerState.take_en1 (h : o = 0x0E1E ∧ v = 0xA5C3#16) : TrackerState.en1.take o v = .absorb .enabled := by
  simp [TrackerState.take, isSecondEnable, h]

theorem TrackerState.take_en1_breaks (h : ¬ (o = 0x0E1E ∧ v = 0xA5C3#16)) : TrackerState.en1.take o v = .breaks := by
  have henable : isSecondEnable o v = false := by simpa [isSecondEnable] using h
  simp [TrackerState.take, henable]

theorem TrackerState.take_enabled_breaks (h : o ≠ 0x1E00 ∨ (v ≠ 0x0071#16 ∧ v ≠ 0x0026#16 ∧ v ≠ 0x00F5#16)) :
    TrackerState.enabled.take o v = .breaks := by
  rcases h with ho | ⟨hprogram, herase, hreset⟩
  · simp [TrackerState.take, ho]
  · simp [TrackerState.take, hprogram, herase, hreset]

theorem TrackerState.take_eraseWait_breaks (h : v ≠ 0x00D9#16) : TrackerState.eraseWait.take o v = .breaks := by
  simp [TrackerState.take, h]

theorem TrackerState.not_busy_of_take {st : TrackerState} (h : st.take o v ≠ .breaks) : st ≠ .flashBusy := by
  rintro rfl
  exact h rfl

/-- A write that is absorbed leaves the sequence unfinished. -/
theorem TrackerState.take_absorb_not_busy {st next : TrackerState} (h : st.take o v = .absorb next) :
    next ≠ .flashBusy := by
  rintro rfl
  unfold TrackerState.take at h
  cases st with
  | en1 | enabled | eraseWait => simp only at h; split_ifs at h <;> cases h
  | idle | programWait | flashBusy => cases h

/-- The last write of a sequence: the RESET command, any data of a PROGRAM, the confirmation of an ERASE. -/
theorem TrackerState.take_final {st : TrackerState} {k : SequenceKind} (h : st.take o v = .final k) :
    (k = .reset ∧ st = .enabled ∧ v = 0x00F5#16) ∨ (k = .program ∧ st = .programWait) ∨
      (k = .erase ∧ st = .eraseWait ∧ v = 0x00D9#16) := by
  unfold TrackerState.take at h
  cases st with
  | enabled =>
    simp only at h
    split_ifs at h with _ _ _ hv
    cases h
    exact .inl ⟨rfl, rfl, hv⟩
  | programWait =>
    cases h
    exact .inr (.inl ⟨rfl, rfl⟩)
  | eraseWait =>
    simp only at h
    split_ifs at h with hv
    cases h
    exact .inr (.inr ⟨rfl, rfl, hv⟩)
  | en1 => simp only at h; split at h <;> cases h
  | idle | flashBusy => cases h

end

/-! ## A write at the tracker (R116 to R120) -/

section
variable {s : State} {a : Addr} {v : Word} {b : Bank} {o f : Nat}

theorem State.trackerWrite_busy (h : s.filter.tracker.state = .flashBusy) :
    s.trackerWrite a v = s.refuse .flashBusy a v := by
  simp [State.trackerWrite, h]

/-- A write that continues no sequence in progress is taken as a first write. -/
theorem State.continueWrite_afresh {d : Decode} (hb : s.filter.tracker.state ≠ .flashBusy)
    (h : ∀ b o f, d.loc = some (b, o, f) → s.filter.tracker.bank = some b →
      s.filter.tracker.state.take o v = .breaks) :
    s.continueWrite a v d = s.firstWrite a v d := by
  rw [← State.firstWrite_setTracker (t := Tracker.idle) (by decide) hb]
  unfold State.continueWrite
  split
  · rfl
  · next b o f hl =>
    by_cases hbank : s.filter.tracker.bank = some b
    · simp [hbank, h b o f hl hbank]
    · simp [hbank]

theorem State.trackerWrite_continues (hb : s.filter.tracker.state ≠ .flashBusy) :
    s.trackerWrite a v = s.continueWrite a v (s.windowMap a) := by
  cases hst : s.filter.tracker.state with
  | idle =>
    rw [State.continueWrite_afresh hb fun b o f _ _ => by rw [hst]; rfl]
    simp [State.trackerWrite, hst]
  | flashBusy => exact absurd hst hb
  | en1 | enabled | programWait | eraseWait => simp [State.trackerWrite, hst]

theorem State.trackerWrite_nowhere (hb : s.filter.tracker.state ≠ .flashBusy) (hl : (s.windowMap a).loc = none) :
    s.trackerWrite a v = s.refuse .outOfRange a v := by
  rw [State.trackerWrite_continues hb, State.continueWrite_afresh hb (by simp [hl]), State.firstWrite_nowhere hl]

section
variable (hl : (s.windowMap a).loc = some (b, o, f))
include hl

theorem State.trackerWrite_afresh (hb : s.filter.tracker.state ≠ .flashBusy)
    (h : s.filter.tracker.bank ≠ some b ∨ s.filter.tracker.state.take o v = .breaks) :
    s.trackerWrite a v = s.firstWrite a v (s.windowMap a) := by
  rw [State.trackerWrite_continues hb, State.continueWrite_afresh hb]
  intro b' o' f' hl' hbank
  cases hl.symm.trans hl'
  exact h.resolve_left (not_not_intro hbank)

variable (hbank : s.filter.tracker.bank = some b)
include hbank

theorem State.trackerWrite_absorbed {next : TrackerState} (h : s.filter.tracker.state.take o v = .absorb next) :
    s.trackerWrite a v = s.setTracker
      { state := next, bank := some b
        writes := s.filter.tracker.writes ++ [{ addr := a, offset := o, value := v }] } := by
  rw [State.trackerWrite_continues (TrackerState.not_busy_of_take (by rw [h]; exact nofun))]
  simp [State.continueWrite, hl, hbank, h]

section
variable {k : SequenceKind} (h : s.filter.tracker.state.take o v = .final k)
include h

theorem State.trackerWrite_permitted (hj : s.judgeSequence k (s.windowMap a).cls = none) :
    s.trackerWrite a v = s.forwardSequence
      { state := s.filter.tracker.state, bank := some b
        writes := s.filter.tracker.writes ++ [{ addr := a, offset := o, value := v }] } := by
  rw [State.trackerWrite_continues (TrackerState.not_busy_of_take (by rw [h]; exact nofun))]
  simp [State.continueWrite, hl, hbank, h, hj]

theorem State.trackerWrite_refused {r : Reason} (hj : s.judgeSequence k (s.windowMap a).cls = some r) :
    s.trackerWrite a v = s.refuse r a v := by
  rw [State.trackerWrite_continues (TrackerState.not_busy_of_take (by rw [h]; exact nofun))]
  simp [State.continueWrite, hl, hbank, h, hj]

end

end

end

/-! ## Arrivals (R99, R116) -/

section
variable {s : State} (hp : s.port = .free) (hc : s.lines.crstIn = false) (hr : s.lines.inReset = false)
include hp hc hr

theorem exec_cpWriteArrival_dropped (h : s.boot.state ≠ .released) (ht : s.boot.state ≠ .transparent) (a : Addr)
    (v : Word) : exec (.cpWriteArrival a v) s = .next (s.withPort .written) := by
  have hclosed : s.boot.state.writable = false := by
    cases hst : s.boot.state with
    | released => exact absurd hst h
    | transparent => exact absurd hst ht
    | selecting | walking | preverify | noBank | halted => rfl
  refine congrArg Host.Outcome.next ((if_pos (s.portTakes_iff.2 ⟨hp, hc, hr⟩)).trans ?_)
  simp [State.writeArrives, hclosed]

theorem exec_cpWriteArrival_tracked (h : s.boot.state = .released ∨ s.boot.state = .transparent) (a : Addr) (v : Word) :
    exec (.cpWriteArrival a v) s = .next ((s.withPort .written).trackerWrite a v) := by
  have hopen : s.boot.state.writable = true := by rcases h with h | h <;> rw [h] <;> rfl
  refine congrArg Host.Outcome.next ((if_pos (s.portTakes_iff.2 ⟨hp, hc, hr⟩)).trans ?_)
  simp [State.writeArrives, hopen]

end

/-- Settles O51: the write is `State.trackerWrite`'s where it reaches the tracker, by how the tracker's state takes it. -/
theorem aWriteIsAbsorbedOrRefusedByTheTracker : Obligations.AWriteIsAbsorbedOrRefusedByTheTracker := by
  intro s a v hp hc hr refused absorbed
  refine ⟨fun h ht => exec_cpWriteArrival_dropped hp hc hr h ht a v, fun hw => ?_⟩
  have htracked := exec_cpWriteArrival_tracked hp hc hr hw a v
  have hrefused {r : Reason} (h : (s.withPort .written).trackerWrite a v = (s.withPort .written).refuse r a v) :
      refused r := htracked.trans (congrArg Host.Outcome.next (h.trans (s.refuse_written r a v)))
  refine ⟨fun h => hrefused (State.trackerWrite_busy h), fun hb hl => hrefused (State.trackerWrite_nowhere hb hl), ?_⟩
  intro b o f hl w t breaks
  refine ⟨fun h => ?_, fun hst hbank ho hv => ?_, fun hst hbank ho => ?_⟩
  · have hbusy : t.state ≠ .flashBusy := by
      rcases h with h | ⟨h, -⟩ | ⟨h, -⟩ | ⟨h, -⟩ | ⟨h, -⟩ <;> rw [h] <;> decide
    have htake : t.bank ≠ some b ∨ t.state.take o v = .breaks := by
      rcases h with h | ⟨h, hn⟩ | ⟨h, hn⟩ | ⟨h, hn⟩ | ⟨h, hn⟩
      · exact .inr (by rw [h]; rfl)
      · exact hn.imp_right fun hn => h ▸ TrackerState.take_en1_breaks hn
      · exact hn.imp_right fun hn => h ▸ TrackerState.take_enabled_breaks hn
      · exact .inl hn
      · exact hn.imp_right fun hn => h ▸ TrackerState.take_eraseWait_breaks hn
    have hfirst := State.trackerWrite_afresh (s := s.withPort .written) hl hbusy htake
    exact ⟨fun he => htracked.trans (congrArg Host.Outcome.next (hfirst.trans (State.firstWrite_enables hl he))),
      fun hn => hrefused (hfirst.trans (State.firstWrite_stray hl hn))⟩
  · exact htracked.trans (congrArg Host.Outcome.next (State.trackerWrite_absorbed (s := s.withPort .written) hl hbank
      (hst ▸ TrackerState.take_en1 ⟨ho, hv⟩)))
  · have htake {next : TrackerState} (h : TrackerState.enabled.take o v = .absorb next) :
        absorbed next b (t.writes ++ [w]) := htracked.trans (congrArg Host.Outcome.next
      (State.trackerWrite_absorbed (s := s.withPort .written) hl hbank (hst ▸ h)))
    exact ⟨fun hv => htake (by rw [ho, hv]; rfl), fun hv => htake (by rw [ho, hv]; rfl)⟩

end Sys2Proof.Machine
end

section
/-! A sequence at its final write: its permission, and the operation in flight it becomes (R118, R120, R122). -/

namespace Sys2Proof.Machine

/-! ## Permission (R120) -/

theorem WipeState.running_iff (st : WipeState) : st.running = true ↔ st ≠ .off ∧ st ≠ .failed := by
  cases st <;> simp [WipeState.running]

section
variable {s : State} {c : WindowClass}

/-- Why a target of class INACTIVE or DATA may not be changed: the update lock, the wipe, SUPPLY_LOW, in this order. -/
theorem State.refusalReason_writable (hc : c = .inactive ∨ c = .data) : s.refusalReason c =
    if c = .inactive ∧ s.fuse.lock then some .updateLocked
    else if s.wipe.state.running then some .wipeRunning
    else if s.alerts.supplyLow then some .supplyLow
    else none := by
  rcases hc with rfl | rfl <;> rfl

theorem State.refusalReason_eq_none_iff (hc : c = .inactive ∨ c = .data) : s.refusalReason c = none ↔
    ¬ ((c = .inactive ∧ s.fuse.lock = true) ∨ (s.wipe.state ≠ .off ∧ s.wipe.state ≠ .failed) ∨
      s.alerts.supplyLow = true) := by
  rw [State.refusalReason_writable hc, ← WipeState.running_iff]
  split_ifs with hlock hwipe hsupply
  · exact iff_of_false nofun (not_not_intro (.inl hlock))
  · exact iff_of_false nofun (not_not_intro (.inr (.inl hwipe)))
  · exact iff_of_false nofun (not_not_intro (.inr (.inr hsupply)))
  · exact iff_of_true rfl (not_or_intro hlock (not_or_intro hwipe hsupply))

section
variable {k : SequenceKind} (hk : k ≠ .reset)
include hk

theorem State.judgeSequence_released (h : s.boot.state = .released) : s.judgeSequence k c = s.refusalReason c := by
  cases k with
  | reset => exact absurd rfl hk
  | program | erase => simp [State.judgeSequence, h]

theorem State.judgeSequence_unreleased (h : s.boot.state ≠ .released) : s.judgeSequence k c = none := by
  cases k with
  | reset => exact absurd rfl hk
  | program | erase => simp [State.judgeSequence, h]

/-- A PROGRAM or an ERASE is permitted in TRANSPARENT, and in RELEASED where nothing speaks against it. -/
theorem State.judgeSequence_permits (h : s.boot.state = .transparent ∨ ((c = .inactive ∨ c = .data) ∧
    ¬ ((c = .inactive ∧ s.fuse.lock = true) ∨ (s.wipe.state ≠ .off ∧ s.wipe.state ≠ .failed) ∨
      s.alerts.supplyLow = true))) : s.judgeSequence k c = none := by
  by_cases hr : s.boot.state = .released
  · rw [State.judgeSequence_released hk hr]
    rcases h with h | ⟨hc, hfree⟩
    · rw [hr] at h
      cases h
    · exact (State.refusalReason_eq_none_iff hc).2 hfree
  · exact State.judgeSequence_unreleased hk hr

end

end

/-! ## The kind and the poll address of a complete sequence (R118, R122) -/

section
variable {t : Tracker}

theorem Tracker.kind_program (h : (t.writes[2]?).map (fun x => x.value) = some 0x0071#16) : t.kind = .program := by
  obtain ⟨x, hx, hv⟩ := Option.map_eq_some_iff.1 h
  simp [Tracker.kind, hx, hv]

theorem Tracker.kind_erase (h : (t.writes[2]?).map (fun x => x.value) = some 0x0026#16) : t.kind = .erase := by
  obtain ⟨x, hx, hv⟩ := Option.map_eq_some_iff.1 h
  simp [Tracker.kind, hx, hv]

theorem Tracker.kind_reset (h : (t.writes[2]?).map (fun x => x.value) = some 0x00F5#16) : t.kind = .reset := by
  obtain ⟨x, hx, hv⟩ := Option.map_eq_some_iff.1 h
  simp [Tracker.kind, hx, hv]

theorem Tracker.pollOffset_reset (h : t.kind = .reset) : t.pollOffset = 0x1E00 := by
  simp [Tracker.pollOffset, h]

theorem Tracker.pollOffset_final (h : t.kind ≠ .reset) {w : AbsorbedWrite} (hw : t.writes[3]? = some w) :
    t.pollOffset = w.offset := by
  unfold Tracker.pollOffset
  rw [hw]
  cases hk : t.kind with
  | reset => exact absurd hk h
  | program | erase => rfl

end

/-! ## The sequence as the operation in flight (R85, R122) -/

section
variable {s : State}

/-- The port requests the forwarded sequence that is to be sent. -/
theorem State.requestCp_sequence {o : Operation} (ho : s.filter.op = some o) (howner : o.owner = .tracker)
    (hphase : o.phase = .sending) (hp : s.port = .writeHeld) (hw : s.arbiter.cpWait = none) (hbusy : s.cpBusy = false) :
    s.requestCp = s.withArbiter { s.arbiter with
      cpWait := some (.sequence { bank := o.bank, kind := o.kind, writes := s.trackerWrites o.bank }) } := by
  simp [State.requestCp, State.cpDue, ho, howner, hphase, hp, hw, hbusy]

theorem State.startForward_eq {b : Bank} {k : SequenceKind} {poll : Nat} (hbank : s.filter.tracker.bank = some b)
    (hk : s.filter.tracker.kind = k) (hpoll : s.filter.tracker.pollOffset = poll) (hp : s.port = .writeHeld)
    (hw : s.arbiter.cpWait = none) (hbusy : s.cpBusy = false) : s.startForward =
      (s.withFilter { s.filter with
        op := some { owner := .tracker, kind := k, bank := b, pollAddr := b.toNat * s.bankWords + poll
                     phase := .sending, retry := false } }).withArbiter
      { s.arbiter with cpWait := some (.sequence
          { bank := b, kind := k
            writes := s.filter.tracker.writes.map fun x => (b.toNat * s.bankWords + x.offset, x.value) }) } := by
  unfold State.startForward
  rw [hbank, hk, hpoll]
  exact State.requestCp_sequence (s := s.withFilter { s.filter with
      op := some { owner := .tracker, kind := k, bank := b, pollAddr := s.flashAddr b poll, phase := .sending
                   retry := false } })
    rfl rfl rfl hp hw hbusy

/-- A sequence that finds no operation in flight is one at once. -/
theorem State.forwardSequence_starts {t : Tracker} {b : Bank} {k : SequenceKind} {poll : Nat} (hbank : t.bank = some b)
    (hk : t.kind = k) (hpoll : t.pollOffset = poll) (ho : s.filter.op = none) (hw : s.arbiter.cpWait = none)
    (hbusy : s.cpBusy = false) : s.forwardSequence t =
      ((s.withPort .writeHeld).withFilter { s.filter with
        tracker := { t with state := .flashBusy }
        op := some { owner := .tracker, kind := k, bank := b, pollAddr := b.toNat * s.bankWords + poll
                     phase := .sending, retry := false } }).withArbiter
      { s.arbiter with cpWait := some (.sequence
          { bank := b, kind := k, writes := t.writes.map fun x => (b.toNat * s.bankWords + x.offset, x.value) }) } := by
  have hfree : (s.setTracker { t with state := .flashBusy }).filter.op.isNone = true := by simp [State.setTracker, ho]
  refine (if_pos hfree).trans ?_
  exact State.startForward_eq (s := (s.setTracker { t with state := .flashBusy }).withPort .writeHeld)
    hbank hk hpoll rfl hw hbusy

/-- Behind an operation in flight the sequence waits, its write held. -/
theorem State.forwardSequence_waits (t : Tracker) (ho : s.filter.op.isSome = true) : s.forwardSequence t =
    (s.withPort .writeHeld).withFilter { s.filter with tracker := { t with state := .flashBusy } } := by
  have hbusy : ¬ (s.setTracker { t with state := .flashBusy }).filter.op.isNone = true := by
    simpa [State.setTracker, Option.ne_none_iff_isSome] using ho
  exact if_neg hbusy

end

/-! ## The last write's arrival (R120, R122) -/

section
variable {s : State} {a : Addr} {v : Word} {b : Bank} {o f : Nat} {k : SequenceKind}
variable (hp : s.port = .free) (hc : s.lines.crstIn = false) (hr : s.lines.inReset = false)
variable (hw : s.boot.state = .released ∨ s.boot.state = .transparent)
variable (hl : (s.windowMap a).loc = some (b, o, f)) (hbank : s.filter.tracker.bank = some b)
variable (htake : s.filter.tracker.state.take o v = .final k)
include hp hc hr hw hl hbank htake

theorem exec_cpWriteArrival_refused {r : Reason} (hj : s.judgeSequence k (s.windowMap a).cls = some r) :
    exec (.cpWriteArrival a v) s = .next (s.refusedWith a v r) := by
  rw [exec_cpWriteArrival_tracked hp hc hr hw, ← State.refuse_written]
  exact congrArg Host.Outcome.next (State.trackerWrite_refused (s := s.withPort .written) hl hbank htake hj)

theorem exec_cpWriteArrival_forwarded (hj : s.judgeSequence k (s.windowMap a).cls = none) :
    exec (.cpWriteArrival a v) s = .next ((s.withPort .written).forwardSequence
      { state := s.filter.tracker.state, bank := some b
        writes := s.filter.tracker.writes ++ [{ addr := a, offset := o, value := v }] }) := by
  rw [exec_cpWriteArrival_tracked hp hc hr hw]
  exact congrArg Host.Outcome.next (State.trackerWrite_permitted (s := s.withPort .written) hl hbank htake hj)

end

/-! ## The tracker after a write that is not forwarded -/

/-- FLASH_BUSY is entered only on a last write whose sequence is permitted (R118, R120). -/
theorem State.trackerWrite_becomes_busy {s : State} {a : Addr} {v : Word} (hb : s.filter.tracker.state ≠ .flashBusy)
    (h : (s.trackerWrite a v).filter.tracker.state = .flashBusy) : ∃ b o f k, (s.windowMap a).loc = some (b, o, f) ∧
      s.filter.tracker.state.take o v = .final k ∧ s.judgeSequence k (s.windowMap a).cls = none := by
  cases hl : (s.windowMap a).loc with
  | none =>
    rw [State.trackerWrite_nowhere hb hl] at h
    exact absurd ((s.refuse_busy_iff _ a v).1 h) hb
  | some x =>
    obtain ⟨b, o, f⟩ := x
    have hfirst (hn : s.filter.tracker.bank ≠ some b ∨ s.filter.tracker.state.take o v = .breaks) : False := by
      rw [State.trackerWrite_afresh hl hb hn] at h
      exact State.firstWrite_not_busy hb h
    by_cases hbank : s.filter.tracker.bank = some b
    · cases htake : s.filter.tracker.state.take o v with
      | absorb next =>
        rw [State.trackerWrite_absorbed hl hbank htake] at h
        exact absurd h (TrackerState.take_absorb_not_busy htake)
      | breaks => exact (hfirst (.inr htake)).elim
      | final k =>
        cases hj : s.judgeSequence k (s.windowMap a).cls with
        | none => exact ⟨b, o, f, k, rfl, htake, hj⟩
        | some r =>
          rw [State.trackerWrite_refused hl hbank htake hj] at h
          exact absurd ((s.refuse_busy_iff r a v).1 h) hb
    · exact (hfirst (.inl hbank)).elim

/-- In RELEASED a PROGRAM or an ERASE is permitted in the inactive half and in DATA regions at most. -/
theorem State.cls_of_permitted {s : State} {a : Addr} {x : Bank × Nat × Nat} (hr : s.boot.state = .released)
    (hl : (s.windowMap a).loc = some x) (h : s.refusalReason (s.windowMap a).cls = none) :
    (s.windowMap a).cls = .inactive ∨ (s.windowMap a).cls = .data := by
  rcases State.windowMap_loc hr hl with hc | hc | hc | hc | hc
  · rw [hc] at h; cases h
  · exact .inr hc
  · rw [hc] at h; cases h
  · rw [hc] at h; cases h
  · exact .inl hc

/-- Settles O52: the last write is refused or forwarded as `State.judgeSequence` says, a permitted sequence is
`State.forwardSequence`'s, and no other write makes the tracker FLASH_BUSY (`State.trackerWrite_becomes_busy`). -/
theorem aFinalWriteIsForwardedOnlyWhereItMayChangeTheFlash :
    Obligations.AFinalWriteIsForwardedOnlyWhereItMayChangeTheFlash := by
  intro s a v hp hc hr hw hb refused c wiping blocked t
  refine ⟨?_, fun hrel t' he hbusy => ?_⟩
  · intro b o f hl hbank w sequence busy forwarded
    have hforwards {k : SequenceKind} {poll : Nat} (htake : t.state.take o v = .final k)
        (hj : s.judgeSequence k c = none) (hk : busy.kind = k) (hpoll : busy.pollOffset = poll) : forwarded k poll := by
      have hforward := exec_cpWriteArrival_forwarded hp hc hr hw hl hbank htake hj
      exact ⟨fun ho hcp hidle => hforward.trans (congrArg Host.Outcome.next
          (State.forwardSequence_starts (s := s.withPort .written) rfl hk hpoll ho hcp hidle)),
        fun ho => hforward.trans (congrArg Host.Outcome.next
          (State.forwardSequence_waits (s := s.withPort .written) _ ho))⟩
    refine ⟨fun hfinal => ?_, fun e1 e2 hws hst ho hv => ?_⟩
    · obtain ⟨k, hk, htake⟩ : ∃ k, k ≠ .reset ∧ t.state.take o v = .final k := by
        rcases hfinal with hst | ⟨hst, hv⟩
        · exact ⟨.program, nofun, by rw [hst]; rfl⟩
        · exact ⟨.erase, nofun, by rw [hst, hv]; rfl⟩
      have hrefused (hrel : s.boot.state = .released) {r : Reason} (h : s.refusalReason c = some r) : refused r :=
        exec_cpWriteArrival_refused hp hc hr hw hl hbank htake ((State.judgeSequence_released hk hrel).trans h)
      refine ⟨fun hrel => ⟨fun h => hrefused hrel (by rw [h]; rfl), fun h => hrefused hrel (by rw [h]; rfl),
        fun h => hrefused hrel (by rw [h]; rfl)⟩, fun hrel hcls => ?_, fun e1 e2 x hws hfree => ?_⟩
      · have hreason := State.refusalReason_writable (s := s) hcls
        refine ⟨fun h hlock => hrefused hrel ?_, fun hlock hwipe => hrefused hrel ?_,
          fun hlock hwipe hlow => hrefused hrel ?_⟩
        · rw [hreason, if_pos ⟨h, hlock⟩]
        · rw [hreason, if_neg hlock, if_pos ((WipeState.running_iff _).2 hwipe)]
        · rw [hreason, if_neg hlock, if_neg (mt (WipeState.running_iff _).1 hwipe), if_pos hlow]
      · have hforwarded {k : SequenceKind} (hk : k ≠ .reset) (hkind : busy.kind = k)
            (htake : t.state.take o v = .final k) : forwarded k o := by
          have hfourth : busy.writes[3]? = some w := by simp [busy, hws]
          exact hforwards htake (State.judgeSequence_permits hk hfree) hkind
            (Tracker.pollOffset_final (by rw [hkind]; exact hk) hfourth)
        refine ⟨fun hst hx => ?_, fun hst hx => ?_⟩
        · exact hforwarded nofun (Tracker.kind_program (by simp [busy, hws, hx])) (by rw [hst]; rfl)
        · obtain ⟨-, hv⟩ := hfinal.resolve_left (by rw [hst]; exact nofun)
          exact hforwarded nofun (Tracker.kind_erase (by simp [busy, hws, hx])) (by rw [hst, hv]; rfl)
    · have hkind : busy.kind = .reset := Tracker.kind_reset (by simp [busy, hws, w, hv])
      exact hforwards (by rw [hst, ho, hv]; rfl) rfl hkind (Tracker.pollOffset_reset hkind)
  · cases (exec_cpWriteArrival_tracked hp hc hr hw a v).symm.trans he
    obtain ⟨b, o, f, k, hl, htake, hj⟩ := State.trackerWrite_becomes_busy (s := s.withPort .written) hb hbusy
    have hchanges (hk : k ≠ .reset) : (c = .inactive ∨ c = .data) ∧ ¬ blocked := by
      have hnone : s.refusalReason c = none := (State.judgeSequence_released hk hrel).symm.trans hj
      have hcls := State.cls_of_permitted hrel hl hnone
      exact ⟨hcls, (State.refusalReason_eq_none_iff hcls).1 hnone⟩
    rcases TrackerState.take_final htake with ⟨-, hst, hv⟩ | ⟨hk, -⟩ | ⟨hk, -⟩
    · exact .inl ⟨hst, hv⟩
    · exact .inr (hchanges (by rw [hk]; exact nofun))
    · exact .inr (hchanges (by rw [hk]; exact nofun))

end Sys2Proof.Machine
end

section
/-! The capture sent and emptied by CAPTURE, and a refusal before and after it (R127, R128). -/

namespace Sys2Proof.Machine

section
variable {s : State}

theorem State.refuse_live (r : Reason) (a : Addr) (v : Word) : (s.refuse r a v).live = s.live :=
  State.live_eq (by simp) (by simp)

/-- CAPTURE in a live part: the capture as it stood is the record, and what is left is empty. -/
theorem exec_slCapture_sends (hf : s.sl.frame = .receiving) (hs : s.live = true) : exec .slCapture s =
    .next (s.emptyCapture.withSl { s.sl with frame := .decided (resultOk :: captureRecord s.filter.capture) }) :=
  congrArg Host.Outcome.next (State.answerFrame_of_live hs hf _)

end

/-- Settles O58: CAPTURE is `exec_slCapture_sends`, a refusal before and after it `State.refuse_eq`. -/
theorem captureIsSentAndEmptied : Obligations.CaptureIsSentAndEmptied := by
  intro s hf hs emptied
  refine ⟨exec_slCapture_sends hf hs, rfl, fun r a v => ?_⟩
  intro record n
  refine ⟨⟨?_, ?_⟩, ?_, fun c hc => ?_⟩
  · exact (s.refuse_spec r a v).1
  · have hframe : (s.refuse r a v).sl.frame = .receiving := by rw [← hf]; simp
    have hcapture : (s.refuse r a v).filter.capture = some (s.filter.capture.getD record) := by
      rw [(s.refuse_spec r a v).2.1]
      cases s.filter.capture <;> rfl
    rw [exec_slCapture_sends hframe ((s.refuse_live r a v).trans hs), hcapture]
    rfl
  · rw [State.refuse_eq]
    exact ⟨rfl, rfl, by simp [emptied]⟩
  · obtain ⟨hcount, hcapture, -⟩ := s.refuse_spec r a v
    exact ⟨by rw [hcapture, hc]; rfl, hcount⟩

end Sys2Proof.Machine
end

section
/-! The operation in flight sent and followed, its recovery, and the wipe's erases (R91, R122, R125, R131, R133, R134). -/

namespace Sys2Proof.Machine

/-! ## Bank conditions at the Flash Arbiter (R91) -/

section
variable (a : Arbiter) (b : Bank) (c : BankCondition)

@[simp] theorem Arbiter.setCond_cond_same : (a.setCond b c).cond b = c := by cases b <;> rfl

@[simp] theorem Arbiter.setCond_cond_other : (a.setCond b c).cond b.other = a.cond b.other := by cases b <;> rfl

@[simp] theorem Arbiter.setCond_access : (a.setCond b c).access = a.access := by cases b <;> rfl

@[simp] theorem Arbiter.setCond_cpWait : (a.setCond b c).cpWait = a.cpWait := by cases b <;> rfl

@[simp] theorem Arbiter.setCond_suspended : (a.setCond b c).suspended = a.suspended := by cases b <;> rfl

@[simp] theorem Arbiter.setCond_parked : (a.setCond b c).parked = a.parked := by cases b <;> rfl

/-- The bank conditions are those of the fields. -/
theorem Arbiter.cond_eq {a a' : Arbiter} (h0 : a'.cond0 = a.cond0) (h1 : a'.cond1 = a.cond1) (b : Bank) :
    a'.cond b = a.cond b := by
  cases b
  · exact h0
  · exact h1

theorem Arbiter.park_frame : a.park b =
    { a with suspended := (a.park b).suspended, parked := (a.park b).parked } := by
  unfold Arbiter.park
  split
  · split <;> rfl
  · rfl

theorem Arbiter.park_parks {u : Burst} (h : a.suspended = some u) (hb : u.bank = b) :
    (a.park b).suspended = none ∧ (a.park b).parked = some u := by
  simp [Arbiter.park, h, hb]

theorem Arbiter.park_keeps (h : ∀ u, a.suspended = some u → u.bank ≠ b) : a.park b = a := by
  unfold Arbiter.park
  split
  · next u hu => exact if_neg (h u hu)
  · rfl

end

/-! ## A sequence sent, at the arbiter (R91, R122) -/

/-- The arbiter after a sequence of a bank has been sent: the access ended, and for a PROGRAM or an ERASE the bank BUSY and
its suspended burst parked. -/
def Arbiter.sent (a : Arbiter) (q : SequenceRequest) : Arbiter :=
  match q.kind with
  | .reset => { a with access := none }
  | .program | .erase => ({ a with access := none }.setCond q.bank .busy).park q.bank

/-- The part after a sequence's writes have reached the flash and its bank's condition has followed. -/
def State.sequenceOut (s : State) (q : SequenceRequest) : State :=
  (s.withFlash (Flash.writes s.bankWords s.flash q.writes)).withArbiter (s.arbiter.sent q)

theorem State.sendWrites_goBusy (s : State) (q : SequenceRequest) : (s.sendWrites q).goBusy q = s.sequenceOut q := by
  unfold State.goBusy State.sequenceOut Arbiter.sent
  cases q.kind <;> rfl

section
variable (a : Arbiter) (q : SequenceRequest)

theorem Arbiter.sent_reset (h : q.kind = .reset) : a.sent q = { a with access := none } := by
  simp [Arbiter.sent, h]

theorem Arbiter.sent_busy (h : q.kind ≠ .reset) :
    a.sent q = ({ a with access := none }.setCond q.bank .busy).park q.bank := by
  unfold Arbiter.sent
  cases hk : q.kind with
  | reset => exact absurd hk h
  | program | erase => rfl

@[simp] theorem Arbiter.sent_access : (a.sent q).access = none := by
  by_cases h : q.kind = .reset
  · rw [a.sent_reset q h]
  · rw [a.sent_busy q h, Arbiter.park_frame, Arbiter.setCond_access]

@[simp] theorem Arbiter.sent_cpWait : (a.sent q).cpWait = a.cpWait := by
  by_cases h : q.kind = .reset
  · rw [a.sent_reset q h]
  · rw [a.sent_busy q h, Arbiter.park_frame, Arbiter.setCond_cpWait]

theorem Arbiter.sent_cond : (a.sent q).cond q.bank = if q.kind = .reset then a.cond q.bank else .busy := by
  split
  · next h =>
    rw [a.sent_reset q h]
    exact Arbiter.cond_eq rfl rfl _
  · next h =>
    rw [a.sent_busy q h, Arbiter.park_frame]
    exact (Arbiter.cond_eq rfl rfl _).trans (Arbiter.setCond_cond_same _ _ _)

theorem Arbiter.sent_cond_other : (a.sent q).cond q.bank.other = a.cond q.bank.other := by
  by_cases h : q.kind = .reset
  · rw [a.sent_reset q h]
    exact Arbiter.cond_eq rfl rfl _
  · rw [a.sent_busy q h, Arbiter.park_frame]
    exact (Arbiter.cond_eq rfl rfl _).trans ((Arbiter.setCond_cond_other _ _ _).trans (Arbiter.cond_eq rfl rfl _))

theorem Arbiter.sent_parks {u : Burst} (hu : a.suspended = some u) (hb : u.bank = q.bank) (h : q.kind ≠ .reset) :
    (a.sent q).suspended = none ∧ (a.sent q).parked = some u := by
  rw [a.sent_busy q h]
  exact Arbiter.park_parks _ _ ((Arbiter.setCond_suspended _ _ _).trans hu) hb

theorem Arbiter.sent_keeps (h : (∀ u, a.suspended = some u → u.bank ≠ q.bank) ∨ q.kind = .reset) :
    (a.sent q).suspended = a.suspended ∧ (a.sent q).parked = a.parked := by
  by_cases hk : q.kind = .reset
  · rw [a.sent_reset q hk]
    exact ⟨rfl, rfl⟩
  · rw [a.sent_busy q hk, Arbiter.park_keeps]
    · exact ⟨Arbiter.setCond_suspended _ _ _, Arbiter.setCond_parked _ _ _⟩
    · rw [Arbiter.setCond_suspended]
      exact h.resolve_right hk

end

/-! ## The requester's follow-up (R97, R122, R125, R133) -/

section
variable {s : State} {q : SequenceRequest}

/-- The operation polled: its phase, and the poll pair requested. -/
theorem State.startPolling_eq (s : State) (o : Operation) : s.startPolling o =
    (s.withFilter { s.filter with op := some { o with phase := .polling } }).withArbiter
      { s.arbiter with pollWait := some { bank := o.bank, addr := o.pollAddr } } := rfl

section
variable {o : Operation} (ho : s.filter.op = some o)
include ho

theorem State.sequenceSent_forwarded (ha : s.arbiter.access = some (.cpSequence q)) (hp : s.port = .writeHeld) :
    s.sequenceSent = ((s.sequenceOut q).startPolling o).withPort .free := by
  have hsent : (s.sequenceOut q).filter.op = some o := ho
  have hport : ((s.sequenceOut q).startPolling o).port = .writeHeld := hp
  have hdue : (((s.sequenceOut q).startPolling o).withPort .free).cpDue = none := by
    simp [State.cpDue, State.startPolling_eq]
  simp only [State.sequenceSent, ha, State.forwardSent, State.sendWrites_goBusy, hsent, hport, if_true]
  exact State.requestCp_of_none_due hdue

section
variable (ha : s.arbiter.access = some (.maintenance q))
include ha

theorem State.sequenceSent_maintenance (hphase : o.phase ≠ .recovering) :
    s.sequenceSent = (s.sequenceOut q).startPolling o := by
  have hsent : (s.sequenceOut q).filter.op = some o := ho
  simp only [State.sequenceSent, ha, State.maintSent, State.sendWrites_goBusy, hsent, hphase, if_false]

theorem State.sequenceSent_recovered (hphase : o.phase = .recovering) (hk : q.kind = .reset) : s.sequenceSent =
    (s.sendWrites q).recovered o := by
  have hreset : (s.sendWrites q).goBusy q = s.sendWrites q := by simp [State.goBusy, hk]
  have hsent : (s.sendWrites q).filter.op = some o := ho
  simp only [State.sequenceSent, ha, State.maintSent, hreset, hsent, hphase, if_true]

end

end

end

theorem State.requestCp_arbiter (s : State) :
    s.requestCp.arbiter = { s.arbiter with cpWait := s.requestCp.arbiter.cpWait } := by
  unfold State.requestCp
  split
  · split <;> rfl
  · rfl

/-! ## A sequence that waited for the wipe's operation (R131, R133) -/

section
variable {s : State}

theorem State.startWaiting_none (h : s.filter.tracker.state ≠ .flashBusy) : s.startWaiting = s :=
  if_neg fun ⟨hb, _⟩ => h hb

theorem State.startWaiting_reset {b : Bank} {ws : List AbsorbedWrite}
    (ht : s.filter.tracker = { state := .flashBusy, bank := some b, writes := ws })
    (hreset : (ws[2]?).map (fun x => x.value) = some 0x00F5#16) (ho : s.filter.op = none) (hp : s.port = .writeHeld)
    (hw : s.arbiter.cpWait = none) (ha : s.arbiter.access = none) : s.startWaiting =
      (s.withFilter { s.filter with
        op := some { owner := .tracker, kind := .reset, bank := b, pollAddr := b.toNat * s.bankWords + 0x1E00
                     phase := .sending, retry := false } }).withArbiter
      { s.arbiter with cpWait := some (.sequence
          { bank := b, kind := .reset, writes := ws.map fun x => (b.toNat * s.bankWords + x.offset, x.value) }) } := by
  have hstarts : s.filter.tracker.state = .flashBusy ∧ s.filter.op.isNone = true := by simp [ht, ho]
  have hkind : s.filter.tracker.kind = .reset := Tracker.kind_reset (by rw [ht]; exact hreset)
  have hidle : s.cpBusy = false := by simp [State.cpBusy, ha]
  refine (if_pos hstarts).trans ?_
  rw [State.startForward_eq (by rw [ht]) hkind (Tracker.pollOffset_reset hkind) hp hw hidle, ht]

/-- Starting what waited touches the Controller Port's request alone at the arbiter. -/
theorem State.startWaiting_arbiter :
    s.startWaiting.arbiter = { s.arbiter with cpWait := s.startWaiting.arbiter.cpWait } := by
  unfold State.startWaiting
  split
  · unfold State.startForward
    split
    · exact State.requestCp_arbiter _
    · rfl
  · rfl

end

/-- Settles O30: the requester's follow-up (the `State.sequenceSent_…` lemmas) on the arbiter that `Arbiter.sent`
leaves. -/
theorem aSequenceSentMakesItsBankBusyAndIsPolled : Obligations.ASequenceSentMakesItsBankBusyAndIsPolled := by
  intro s q sent busy
  have hbusy (p : Option PollRequest) : busy { s.arbiter.sent q with pollWait := p } :=
    ⟨s.arbiter.sent_access q, (Arbiter.cond_eq rfl rfl _).trans (s.arbiter.sent_cond q),
      (Arbiter.cond_eq rfl rfl _).trans (s.arbiter.sent_cond_other q), fun u hu hb => s.arbiter.sent_parks q hu hb,
      s.arbiter.sent_keeps q⟩
  refine ⟨fun o ha ho _ hp _ => ?_, fun o ha ho => ⟨fun hphase => ?_, fun hphase hk hkind => ?_⟩,
    fun b ha ht => ?_⟩
  · have hsent := State.sequenceSent_forwarded ho ha hp
    rw [State.startPolling_eq] at hsent
    refine ⟨_, congrArg Host.Outcome.next hsent, rfl, rfl, rfl, hbusy _⟩
  · have hsent := State.sequenceSent_maintenance ho ha hphase
    rw [State.startPolling_eq] at hsent
    exact ⟨_, congrArg Host.Outcome.next hsent, rfl, rfl, hbusy _⟩
  · intro idle
    have hsent := State.sequenceSent_recovered ho ha hphase hk
    refine ⟨fun howner => congrArg Host.Outcome.next (hsent.trans ?_), ?_⟩
    · rw [State.recovered, howner]
      exact State.endForwarded_of_not_reset hkind true
    · intro howner failed
      have hfails : s.sequenceSent = failed.startWaiting := by rw [hsent, State.recovered, howner]; rfl
      refine ⟨fun hb => congrArg Host.Outcome.next (hfails.trans (State.startWaiting_none hb)),
        fun b ws htracker hreset hp hw => congrArg Host.Outcome.next (hfails.trans ?_)⟩
      exact State.startWaiting_reset (s := failed) htracker hreset rfl hp ((Arbiter.setCond_cpWait _ _ _).trans hw)
        (Arbiter.setCond_access _ _ _)
  · refine congrArg Host.Outcome.next ?_
    have hsettle : (s.sendWrites q).arbiter.settle = some { bank := b, step := .sending } := ht
    simp only [State.sequenceSent, ha, State.settleSent, hsettle]
    rfl

/-! ## The wipe's erases (R131, R134) -/

/-- Whatever work the programmer takes, the update lock stays, and a lock clear asked for is begun or still asked for. -/
theorem takesWork_lock {t : Tables} {active : Option Bank} {g : Fuse} {work : List FuseItem} {f : Fuse}
    (h : takesWork t active g work f) :
    g.lock = f.lock ∧ (f.lockClear = true → g.lockClear = true ∨ g.op = some .lockClear) := by
  induction work with
  | nil =>
    cases h
    split
    · exact ⟨rfl, fun _ => .inr rfl⟩
    · exact ⟨rfl, .inl⟩
  | cons item rest ih =>
    cases item with
    | demote | undemote =>
      cases h
      exact ⟨rfl, .inl⟩
    | commit =>
      obtain ⟨todo, -, hnil, hcons⟩ := h
      by_cases ht : todo = []
      · exact ih (hnil ht)
      · cases hcons ht
        exact ⟨rfl, .inl⟩

section
variable {s : State}

theorem State.fuseResume_lock : s.fuseResume.fuse.lock = s.fuse.lock ∧
    (s.fuse.lockClear = true → s.fuseResume.fuse.lockClear = true ∨ s.fuseResume.fuse.op = some .lockClear) := by
  obtain ⟨-, htakes, hstays⟩ := s.fuseResume_spec
  cases hr : s.fuseReady
  · rw [hstays hr]
    exact ⟨rfl, .inl⟩
  · exact takesWork_lock (htakes hr)

theorem State.wipeAdvance_lock : s.wipeAdvance.fuse.lock = s.fuse.lock := by
  unfold State.wipeAdvance
  split <;> rfl

/-- The part after the wipe's erase has ended and before what waited for it is started. -/
def State.sectorDone (s : State) (o : Operation) : State := ((s.reportIdle o.bank).setOp none).wipeAdvance

theorem State.wipeErased_eq (o : Operation) : s.wipeErased o = (s.sectorDone o).startWaiting.fuseResume := rfl

theorem State.sectorDone_filter (o : Operation) : (s.sectorDone o).filter = { s.filter with op := none } := by
  simp [State.sectorDone, State.setOp]

theorem State.sectorDone_arbiter (o : Operation) : (s.sectorDone o).arbiter = s.arbiter.setCond o.bank .idle := by
  simp [State.sectorDone, State.reportIdle]

theorem State.sectorDone_next (o : Operation) (h : s.wipe.k + 1 < bankSectors s.lines.fsz) : (s.sectorDone o).wipe =
    { s.wipe with state := if s.alerts.supplyLow then .suspended else .waiting, k := s.wipe.k + 1 } :=
  congrArg State.wipe (if_neg (Nat.not_le.2 h))

theorem State.sectorDone_last (o : Operation) (h : bankSectors s.lines.fsz ≤ s.wipe.k + 1) :
    (s.sectorDone o).wipe = { s.wipe with state := .clearing } ∧ (s.sectorDone o).fuse.lockClear = true := by
  have hlast : s.sectorDone o = (((s.reportIdle o.bank).setOp none).withWipe { s.wipe with state := .clearing }).withFuse
      { s.fuse with lockClear := true } := if_pos h
  rw [hlast]
  exact ⟨rfl, rfl⟩

/-- The wipe and the cells are those of the advance: nothing after it moves the wipe, and the lock stays. -/
theorem State.wipeErased_wipe (o : Operation) : (s.wipeErased o).wipe = (s.sectorDone o).wipe := by
  simp [State.wipeErased_eq]

theorem State.wipeErased_fuse (o : Operation) : (s.wipeErased o).fuse.lock = s.fuse.lock ∧
    ((s.sectorDone o).fuse.lockClear = true →
      (s.wipeErased o).fuse.lockClear = true ∨ (s.wipeErased o).fuse.op = some .lockClear) := by
  have hwaiting : (s.sectorDone o).startWaiting.fuse = (s.sectorDone o).fuse := by simp
  have hfuse := State.fuseResume_lock (s := (s.sectorDone o).startWaiting)
  rw [hwaiting] at hfuse
  exact ⟨hfuse.1.trans State.wipeAdvance_lock, hfuse.2⟩

theorem State.wipeErased_filter (o : Operation) : (s.wipeErased o).filter = (s.sectorDone o).startWaiting.filter := by
  simp [State.wipeErased_eq]

theorem State.wipeErased_arbiter (o : Operation) :
    (s.wipeErased o).arbiter = (s.sectorDone o).startWaiting.arbiter := by
  simp [State.wipeErased_eq]

theorem State.wipeErased_frame (o : Operation) : s.wipeErased o = (((s.withArbiter (s.wipeErased o).arbiter).withFilter
    (s.wipeErased o).filter).withWipe (s.wipeErased o).wipe).withFuse (s.wipeErased o).fuse := by
  apply State.ext_blocks <;> simp

theorem State.wipeStarts_erases {b : Bank} (hs : s.live = true) (hw : s.wipe.state = .waiting)
    (hb : s.wipe.bank = some b) (ht : s.filter.tracker.state = .idle) (ho : s.filter.op = none)
    (hlow : s.alerts.supplyLow = false) : s.wipeStarts =
      ((s.withWipe { s.wipe with state := .erasing }).withFilter { s.filter with
        op := some { owner := .wipe, kind := .erase, bank := b, pollAddr := s.flashAddr b (s.wipe.k * sectorWords)
                     phase := .sending, retry := false } }).withArbiter
      { s.arbiter with
        maintWait := some { bank := b, kind := .erase, writes := s.eraseWrites b (s.wipe.k * sectorWords) } } := by
  have hstarts : s.wipeCanStart = true := by simp [State.wipeCanStart, hs, hw, ht, ho, hlow]
  unfold State.wipeStarts
  rw [if_pos hstarts, hb]
  rfl

end

/-- Settles O34: a sector's start is `State.wipeStarts_erases`, its clean end `State.wipeErased`: the advance
(`State.sectorDone`), then what waited, then the programmer. -/
theorem theWipeErasesSectorAfterSector : Obligations.TheWipeErasesSectorAfterSector := by
  intro s b
  refine ⟨fun hs hw hb ht ho hlow => ?_, fun p o ha hm ho howner _ => ?_⟩
  · exact congrArg Host.Outcome.next (State.wipeStarts_erases hs hw hb ht ho hlow)
  · have hends : s.pollEnds = s.endAccess.wipeErased o := by
      rw [State.pollEnds_filter ha ho (State.judgePair_readFlash_array hm rfl), State.readFlash_array hm, State.judged,
        howner]
    have hfilter : (s.endAccess.sectorDone o).filter = { s.filter with op := none } := State.sectorDone_filter o
    have harbiter : (s.endAccess.sectorDone o).arbiter = { s.arbiter with access := none }.setCond o.bank .idle :=
      State.sectorDone_arbiter o
    have hwaiting := State.startWaiting_arbiter (s := s.endAccess.sectorDone o)
    obtain ⟨hlock, hclear⟩ := State.wipeErased_fuse (s := s.endAccess) o
    refine ⟨s.endAccess.wipeErased o, congrArg Host.Outcome.next hends, State.wipeErased_frame o, hlock, ?_, ?_,
      fun hk => ?_, fun hk => ?_, fun hb => ?_, fun b' ws ht hreset hp hcp => ?_⟩
    · rw [State.wipeErased_arbiter, hwaiting, harbiter]
      exact (Arbiter.cond_eq rfl rfl _).trans (Arbiter.setCond_cond_same _ _ _)
    · rw [State.wipeErased_arbiter, hwaiting, harbiter]
      exact Arbiter.setCond_access _ _ _
    · rw [State.wipeErased_wipe, State.sectorDone_next (s := s.endAccess) o hk]
      exact ⟨rfl, rfl⟩
    · obtain ⟨hwipe, hasked⟩ := State.sectorDone_last (s := s.endAccess) o hk
      rw [State.wipeErased_wipe, hwipe]
      exact ⟨rfl, rfl, hclear hasked⟩
    · have hnone := State.startWaiting_none (s := s.endAccess.sectorDone o) (by rw [hfilter]; exact hb)
      exact ⟨by rw [State.wipeErased_filter, hnone, hfilter], by rw [State.wipeErased_arbiter, hnone, harbiter]⟩
    · have hreset := State.startWaiting_reset (s := s.endAccess.sectorDone o) (by rw [hfilter]; exact ht) hreset
        (by rw [hfilter]) (by simpa [State.sectorDone] using hp)
        (by rw [harbiter]; exact (Arbiter.setCond_cpWait _ _ _).trans hcp)
        (by rw [harbiter]; exact Arbiter.setCond_access _ _ _)
      have hwords : (s.endAccess.sectorDone o).bankWords = s.bankWords := by
        simp [State.bankWords, State.sectorDone, State.endAccess]
      rw [State.wipeErased_filter, State.wipeErased_arbiter, hreset, hfilter, harbiter, hwords]
      exact ⟨rfl, rfl⟩

end Sys2Proof.Machine
end

section
/-! Frames of the Engine Link (R137, R138, R144 to R146): what its commands and its boundaries send. -/

namespace Sys2Proof.Machine

section
variable {s : State}

theorem State.elCommanding_iff : s.elCommanding = true ↔ s.live = true ∧ s.el.phase = .command := by
  simp [State.elCommanding]

theorem State.elBegins_deselected (h : s.el.selected = false) : s.elBegins = s.withEl
    { s.el with selected := true, out := 0xFF#8, phase := if s.live then .command else .none } := by
  simp [State.elBegins, h]

theorem State.elEnds_selected (h : s.el.selected = true) : s.elEnds = (s.withEl
    { s.el with selected := false, out := 0xFF#8, phase := .none, latch := none, ahead := .empty }).withArbiter
    { s.arbiter with elWait := none, access := s.arbiter.access.map Access.dropEl } := by
  rw [State.elEnds, if_pos h]
  rfl

theorem State.elStatusBegins_commanding (h : s.elCommanding = true) :
    s.elStatusBegins = s.withEl { s.el with phase := .statusOut s.el.under, under := false } := if_pos h

theorem exec_elIdent_commanding (h : s.elCommanding = true) :
    exec .elIdent s = .next (s.setPhase (.identOut identBytes)) := congrArg Host.Outcome.next (if_pos h)

theorem exec_elUnknownCommand_commanding (h : s.elCommanding = true) (code : Byte) :
    exec (.elUnknownCommand code) s = .next (s.setPhase .discard) := congrArg Host.Outcome.next (if_pos h)

/-! ## Boundaries (R138, R145, R146) -/

theorem State.elBoundary_discard (hl : s.live = true) (hs : s.el.selected = true) (hp : s.el.phase = .discard) :
    s.elBoundary = s.sendEl 0xFF#8 := by
  simp [State.elBoundary, hl, hs, hp]

/-- A boundary of IDENT_OUT sends the next byte that is left, and 0xFF when none is. -/
theorem State.elBoundary_identOut {left : List Byte} (hl : s.live = true) (hs : s.el.selected = true)
    (hp : s.el.phase = .identOut left) :
    s.elBoundary = s.withEl { s.el with out := left.headD 0xFF#8, phase := .identOut left.tail } := by
  cases left with
  | nil =>
    have hsent : s.elBoundary = s.sendEl 0xFF#8 := by simp [State.elBoundary, hl, hs, hp]
    rw [hsent, List.tail_nil, ← hp]
    rfl
  | cons b bs => simp [State.elBoundary, hl, hs, hp, State.sendEl, State.setPhase]

theorem State.elStatusBoundary_statusOut {under : Bool} (hl : s.live = true) (hs : s.el.selected = true)
    (hp : s.el.phase = .statusOut under) : s.elStatusBoundary = s.sendEl (s.elStatusByte under) := by
  simp [State.elStatusBoundary, hl, hs, hp]

theorem State.elStatusByte_no_window (h : s.engineWindow = none) (under : Bool) :
    s.elStatusByte under = 0x04#8 ||| if under then 0x08#8 else 0x00#8 := by
  rw [State.elStatusByte, h]
  rfl

/-- The status byte's low bits name a COMPLETE and a FAILED window (R185). -/
theorem State.elStatusByte_window {r : Nat} {g : ImageRegion} (h : s.engineWindow = some (r, g)) (under : Bool) :
    s.elStatusByte under = (if g.state = .complete then 0x01#8 else if g.state = .failed then 0x02#8 else 0x00#8) |||
      if under then 0x08#8 else 0x00#8 := by
  cases hg : g.state <;> simp [State.elStatusByte, h, hg, boolByte]

end

/-! ## A frame's boundaries in turn -/

/-- The outgoing byte after `n` boundaries that send `bytes` and then 0xFF. -/
def EngineLink.outAfter (e : EngineLink) (bytes : List Byte) : Nat → Byte
  | 0 => e.out
  | n + 1 => bytes.getD n 0xFF#8

/-- The part `n` boundaries after IDENT (R146). -/
def State.identSent (s : State) (n : Nat) : State :=
  s.withEl { s.el with phase := .identOut (identBytes.drop n), out := s.el.outAfter identBytes n }

/-- The part `n` boundaries after a byte that is no command (R138). -/
def State.discardSent (s : State) (n : Nat) : State :=
  s.withEl { s.el with phase := .discard, out := s.el.outAfter [] n }

section
variable {s : State} (hl : s.live = true) (hs : s.el.selected = true)
include hl hs

theorem State.identSent_boundary (n : Nat) : (s.identSent n).elBoundary = s.identSent (n + 1) := by
  rw [State.elBoundary_identOut (s := s.identSent n) hl hs rfl, List.tail_drop, List.headD_eq_head?_getD,
    List.head?_drop, ← List.getD_eq_getElem?_getD]
  rfl

theorem State.discardSent_boundary (n : Nat) : (s.discardSent n).elBoundary = s.discardSent (n + 1) :=
  State.elBoundary_discard hl hs rfl

end

/-- Settles O53: each command by its lemma, and the runs of boundaries after IDENT and after a byte that is no command by
`State.identSent_boundary` and `State.discardSent_boundary`. -/
theorem anEngineLinkFrameRuns : Obligations.AnEngineLinkFrameRuns := by
  intro s
  refine ⟨fun k hk => ⟨fun h => s.el.dout_deselected h k, fun h => ?_⟩,
    fun h => congrArg Host.Outcome.next (State.elBegins_deselected h),
    fun h => congrArg Host.Outcome.next (State.elEnds_selected h), fun hl hp => ?_,
    fun hl hs hp => congrArg Host.Outcome.next (State.elBoundary_discard hl hs hp), fun under hl hs hp => ?_,
    fun hl hs hp => ?_⟩
  · rw [s.el.dout_selected h, BitVec.getMsbD_eq_getLsbD]
    simp [hk]
  · have hc := State.elCommanding_iff.2 ⟨hl, hp⟩
    exact ⟨exec_elUnknownCommand_commanding hc, congrArg Host.Outcome.next (State.elStatusBegins_commanding hc)⟩
  · intro sent u
    have hsent : sent (s.elStatusByte under) :=
      congrArg Host.Outcome.next (State.elStatusBoundary_statusOut hl hs hp)
    refine ⟨fun hw => ?_, fun r g hw => ?_⟩
    · rwa [State.elStatusByte_no_window hw] at hsent
    · rw [State.elStatusByte_window hw] at hsent
      refine ⟨fun hg => ?_, fun hg => ?_, fun hg => ?_⟩
      · simpa [hg] using hsent
      · simpa [hg] using hsent
      · simpa [hg] using hsent
  · have hc := State.elCommanding_iff.2 ⟨hl, hp⟩
    refine ⟨⟨s.identSent, exec_elIdent_commanding hc, rfl, fun n =>
      ⟨congrArg Host.Outcome.next (State.identSent_boundary hl hs n), rfl, rfl⟩⟩, fun code =>
      ⟨s.discardSent, exec_elUnknownCommand_commanding hc code, fun n =>
        ⟨congrArg Host.Outcome.next (State.discardSent_boundary hl hs n), rfl, rfl⟩⟩⟩

end Sys2Proof.Machine
end

section
/-! The Engine Link's window, its read-ahead, and a word's return (R140, R141, R144). -/

namespace Sys2Proof.Machine

/-! ## The engine window (R139, R140) -/

section
variable {s : State}

theorem State.engineWindow_released (h : s.boot.state = .released) : s.engineWindow = findEngine s.tables.regions 0 :=
  if_pos h

theorem State.engineWindow_of_not_released (h : s.boot.state ≠ .released) : s.engineWindow = none := if_neg h

theorem State.engineWindow_first {i : Nat} {g : ImageRegion} (hb : s.boot.state = .released)
    (h : s.tables.regions[i]? = some (.image g)) (hg : g.engine = true)
    (hfirst : ∀ j x, j < i → s.tables.regions[j]? = some (.image x) → x.engine = false) :
    s.engineWindow = some (i, g) := by
  rw [State.engineWindow_released hb, findEngine_first h hg hfirst, Nat.zero_add]

theorem State.engineWindow_none (hb : s.boot.state = .released)
    (h : ∀ g, Region.image g ∈ s.tables.regions → g.engine = false) : s.engineWindow = none :=
  (State.engineWindow_released hb).trans (findEngine_none h)

end

theorem insideWindow_iff (g : ImageRegion) (p : Nat) : insideWindow g p = true ↔ p < g.count * 4096 := decide_eq_true_iff

/-! ## Read-ahead (R141) -/

theorem EngineLink.wanted_of_no_latch {e : EngineLink} (h : e.latch = none) (p : Nat) : e.wanted p = p / 2 := by
  rw [EngineLink.wanted, h]

/-- R141's conditions for the request of a window word. -/
def State.mayAsk (s : State) (g : ImageRegion) (n : Nat) : Prop :=
  s.live = true ∧ s.el.ahead = .empty ∧ s.arbiter.elWait = none ∧
    (∀ q keep, s.arbiter.access ≠ some (.elRead q keep)) ∧ 2 * n < g.count * 4096 ∧ g.state ≠ .failed ∧
    s.tables.chunkState (g.first + n / 2048) = .good

/-- The request for a window word is made, and the ahead buffer waits for it. -/
def State.asked (s : State) (b : Bank) (g : ImageRegion) (n : Nat) : State :=
  (s.withEl { s.el with ahead := .pending n }).withArbiter { s.arbiter with
    elWait := some { window := n, bank := b, addr := b.toNat * s.bankWords + (g.base * 2048 + n) } }

section
variable {s : State}

theorem State.readAhead_idle
    (h : (∀ p, s.el.phase ≠ .readData p true) ∨ s.engineWindow = none ∨ s.boot.active = none) : s.readAhead = s := by
  unfold State.readAhead
  split
  · next hp hw hb => simp [hp, hw, hb] at h
  · rfl

section
variable {p r : Nat} {g : ImageRegion} {b : Bank} (hp : s.el.phase = .readData p true)
  (hw : s.engineWindow = some (r, g)) (hb : s.boot.active = some b)
include hp hw hb

theorem State.readAhead_asks (h : s.mayAsk g (s.el.wanted p)) : s.readAhead = s.asked b g (s.el.wanted p) := by
  obtain ⟨hlive, hempty, hwait, haccess, hinside, hstate, hchunk⟩ := h
  have hidle := s.elIdle_iff.2 ⟨hwait, haccess⟩
  have hin := (insideWindow_iff g _).2 hinside
  simp [State.readAhead, hp, hw, hb, hlive, hempty, hidle, hin, hstate, chunkWords, hchunk, State.asked,
    State.windowAddr_eq]

theorem State.readAhead_keeps (h : ¬ s.mayAsk g (s.el.wanted p)) : s.readAhead = s := by
  unfold State.readAhead
  simp only [hp, hw, hb]
  refine if_neg fun hc => h ?_
  simp only [Bool.and_eq_true, decide_eq_true_eq, insideWindow_iff, State.elIdle_iff] at hc
  obtain ⟨⟨⟨⟨⟨hlive, hempty⟩, hwait, haccess⟩, hinside⟩, hstate⟩, hchunk⟩ := hc
  exact ⟨hlive, hempty, hwait, haccess, hinside, hstate, hchunk⟩

end

/-! ## READ (R138) -/

theorem State.elReads_commanding (h : s.elCommanding = true) (a : Addr) :
    s.elReads a = (s.setPhase (.readData a.toNat s.engineWindow.isSome)).readAhead := by
  simp [State.elReads, h]

theorem State.elReads_no_window (h : s.elCommanding = true) (hw : s.engineWindow = none) (a : Addr) :
    s.elReads a = s.withEl { s.el with phase := .readData a.toNat false } := by
  rw [State.elReads_commanding h, hw]
  exact State.readAhead_idle (.inr (.inl hw))

section
variable {r : Nat} {g : ImageRegion} {b : Bank} {a : Addr} (hc : s.elCommanding = true)
  (hw : s.engineWindow = some (r, g))
include hc hw

theorem State.elReads_window : s.elReads a = (s.setPhase (.readData a.toNat true)).readAhead := by
  rw [State.elReads_commanding hc, hw]
  rfl

variable (hb : s.boot.active = some b) (hlatch : s.el.latch = none)
include hb hlatch

/-- READ with nothing latched asks for the word that holds its address. -/
theorem State.elReads_asks (h : s.mayAsk g (a.toNat / 2)) :
    s.elReads a = (s.setPhase (.readData a.toNat true)).asked b g (a.toNat / 2) := by
  have hwanted : (s.setPhase (.readData a.toNat true)).el.wanted a.toNat = a.toNat / 2 :=
    EngineLink.wanted_of_no_latch hlatch _
  rw [State.elReads_window hc hw, ← hwanted]
  exact State.readAhead_asks rfl hw hb (by rw [hwanted]; exact h)

theorem State.elReads_keeps (h : ¬ s.mayAsk g (a.toNat / 2)) : s.elReads a = s.setPhase (.readData a.toNat true) := by
  have hwanted : (s.setPhase (.readData a.toNat true)).el.wanted a.toNat = a.toNat / 2 :=
    EngineLink.wanted_of_no_latch hlatch _
  rw [State.elReads_window hc hw]
  exact State.readAhead_keeps rfl hw hb (by rw [hwanted]; exact h)

end

/-! ## A word's return (R141, R144) -/

theorem EngineLink.takeWord_holds {e : EngineLink} {p n : Nat} {w : Bool} (hp : e.phase = .readData p w)
    (h : n = p / 2 ∨ n = e.wanted p) (v : Word) : e.takeWord n v = { e with ahead := .held n v } := by
  simp only [EngineLink.takeWord, hp]
  exact if_pos h.symm

theorem EngineLink.takeWord_stale {e : EngineLink} {p n : Nat} {w : Bool} (hp : e.phase = .readData p w)
    (hn : n ≠ p / 2) (hwanted : n ≠ e.wanted p) (v : Word) : e.takeWord n v = { e with ahead := .empty } := by
  simp only [EngineLink.takeWord, hp]
  exact if_neg fun h => h.elim hwanted hn

/-- A word still asked for is the array's word, taken by the link. -/
theorem State.elReturns_kept {q : ElWordRequest} (ha : s.arbiter.access = some (.elRead q true))
    (hm : (s.flash.bank (bankOfFlash s.bankWords q.addr)).mode = .array) : s.elReturns =
      ((s.withEl (s.el.takeWord q.window (s.flash.arrayWord q.addr))).withArbiter
        { s.arbiter with access := none }).readAhead := by
  have hread : s.readFlash q.addr = (s.flash.arrayWord q.addr, s) := by simp [State.readFlash, Flash.read, hm]
  simp only [State.elReturns, ha, hread, if_true]
  rfl

theorem State.elReturns_dropped {q : ElWordRequest} (ha : s.arbiter.access = some (.elRead q false)) :
    s.elReturns = (s.wordRead q.addr).readAhead := by
  simp only [State.elReturns, ha]
  rfl

end

/-- Settles O54: the window by the first ENGINE-flagged record, read-ahead by R141's conditions (`State.readAhead_asks`,
`State.readAhead_keeps`), READ as read-ahead at its address, and the returned word by what the link takes. -/
theorem readAsksForTheWordAhead : Obligations.ReadAsksForTheWordAhead := by
  intro s
  refine ⟨State.engineWindow_of_not_released, fun hb => ⟨fun i g h hg hfirst => State.engineWindow_first hb h hg hfirst,
    State.engineWindow_none hb⟩, State.readAhead_idle, fun p r g b hp hw hb => ?_, fun a hl hp => ?_,
    fun q p w ha hp hm => ⟨fun h => ?_, fun hn hwanted => ?_⟩,
    fun q ha => congrArg Host.Outcome.next (State.elReturns_dropped ha)⟩
  · exact ⟨State.readAhead_asks hp hw hb, State.readAhead_keeps hp hw hb⟩
  · have hc := State.elCommanding_iff.2 ⟨hl, hp⟩
    refine ⟨fun hw => congrArg Host.Outcome.next (State.elReads_no_window hc hw a),
      fun r g b hw hb hempty hlatch hwait haccess => ?_⟩
    have hchunk : a.toNat / 2 / 2048 = a.toNat / 4096 := Nat.div_div_eq_div_mul ..
    refine ⟨fun hinside hstate hgood => ?_, fun h => ?_⟩
    · exact congrArg Host.Outcome.next (State.elReads_asks hc hw hb hlatch
        ⟨hl, hempty, hwait, by simp [haccess], by omega, hstate, by rwa [hchunk]⟩)
    · refine congrArg Host.Outcome.next (State.elReads_keeps hc hw hb hlatch ?_)
      rintro ⟨-, -, -, -, hinside, hstate, hgood⟩
      rw [hchunk] at hgood
      rcases h with h | h | h
      · omega
      · exact hstate h
      · exact h hgood
  · refine congrArg Host.Outcome.next ?_
    rw [State.elReturns_kept ha hm, EngineLink.takeWord_holds hp h]
    exact State.readAhead_of_full (by simp)
  · refine congrArg Host.Outcome.next ?_
    rw [State.elReturns_kept ha hm, EngineLink.takeWord_stale hp hn hwanted]

end Sys2Proof.Machine
end

section
/-! A boundary of READ (R141, R142): the byte chosen at p, the claim of an UNCHECKED chunk, and the advance of p. -/

namespace Sys2Proof.Machine

section
variable {s : State} {p : Nat}

/-! ## The byte of a GOOD chunk -/

theorem State.aheadByte_held {v : Word} (h : s.el.ahead = .held (p / 2) v) :
    s.aheadByte p = s.withEl { s.el with out := windowByte p v, latch := some (p / 2, v), ahead := .empty } := by
  simp [State.aheadByte, h]

theorem State.aheadByte_underrun (h : ∀ v, s.el.ahead ≠ .held (p / 2) v) :
    s.aheadByte p = s.withEl { s.el with out := 0xFF#8, under := true } := by
  unfold State.aheadByte
  split
  · next n v hheld =>
    have hn : n ≠ p / 2 := by
      rintro rfl
      exact h v hheld
    exact if_neg hn
  · rfl
  · rfl

theorem State.goodByte_latched {v : Word} (h : s.el.latch = some (p / 2, v)) :
    s.goodByte p = s.sendEl (windowByte p v) := by
  simp [State.goodByte, h]

theorem State.goodByte_not_latched (h : ∀ v, s.el.latch ≠ some (p / 2, v)) : s.goodByte p = s.aheadByte p := by
  unfold State.goodByte
  split
  · next n v hlatch =>
    have hn : n ≠ p / 2 := by
      rintro rfl
      exact h v hlatch
    exact if_neg hn
  · rfl

/-! ## The byte at p -/

theorem State.readByte_no_window (h : s.engineWindow = none) (w : Bool) : s.readByte p w = s.sendEl 0xFF#8 := by
  simp [State.readByte, h]

section
variable {r : Nat} {g : ImageRegion} (hw : s.engineWindow = some (r, g))
include hw

theorem State.readByte_outside {w : Bool} (h : w = false ∨ g.state = .failed ∨ g.count * 4096 ≤ p) :
    s.readByte p w = s.sendEl 0xFF#8 := by
  have hcond : (!w || decide (g.state = .failed) || !insideWindow g p) = true := by
    simpa [insideWindow, or_assoc] using h
  simp only [State.readByte, hw, hcond, if_true]

variable (hg : g.state ≠ .failed) (hp : p < g.count * 4096)
include hg hp

theorem State.readByte_bad (h : s.tables.chunkState (g.first + p / 4096) = .bad) :
    s.readByte p true = s.sendEl 0xFF#8 := by
  simp [State.readByte, hw, hg, insideWindow, hp, h]

theorem State.readByte_unchecked (h : s.tables.chunkState (g.first + p / 4096) = .unchecked) :
    s.readByte p true = ((s.sendEl 0xFF#8).claimDemand false r (p / 4096) none).1 := by
  simp [State.readByte, hw, hg, insideWindow, hp, h]

theorem State.readByte_good (h : s.tables.chunkState (g.first + p / 4096) = .good) :
    s.readByte p true = s.goodByte p := by
  simp [State.readByte, hw, hg, insideWindow, hp, h]

end

/-- The state of a window's chunk is the Digest Store's. -/
theorem State.chunkStateOf_window {r : Nat} {g : ImageRegion} (hw : s.engineWindow = some (r, g)) (c : Nat) :
    s.chunkStateOf r c = s.tables.chunkState (g.first + c) := by
  rw [State.chunkStateOf, State.engineWindow_image hw]

/-- The Engine Link's demand leaves no trace where no slot can be had (R71). -/
theorem State.claimDemand_drops {r c : Nat} (hs : s.chunkStateOf r c ≠ .bad) (w : Option Nat)
    (hn : s.chunkHolder r c = none) (hf : s.lowestFree = none) (hv : ∀ j, ¬ (s.slot j).preemptible) :
    (s.claimDemand false r c w).1 = s := by
  simp [State.claimDemand, hs, hn, hf, State.victim_none hv]

/-! ## The advance of p -/

theorem State.elBoundary_readData {w : Bool} (hl : s.live = true) (hs : s.el.selected = true)
    (hp : s.el.phase = .readData p w) : s.elBoundary = s.readBoundary p w := by
  simp [State.elBoundary, hl, hs, hp]

theorem State.requestPassed_eq (s : State) (p : Nat) : s.requestPassed p = match s.el.ahead with
    | .pending n => decide (n < p / 2) && s.arbiter.elWait.isSome
    | _ => false := by
  unfold State.requestPassed
  cases s.el.ahead <;> rfl

/-- After the byte, p advances: what it has passed goes, and the wanted word is asked for. -/
theorem State.readBoundary_advances {w gone : Bool} {x : State} (hx : s.readByte p w = x)
    (hgone : x.requestPassed (p + 1) = gone) : s.readBoundary p w = ((x.withEl { x.el with
      phase := .readData (p + 1) w
      latch := x.el.latch.filter fun l => decide ((p + 1) / 2 ≤ l.1)
      ahead := if gone then .empty else x.el.ahead }).withArbiter { x.arbiter with
      elWait := if gone then none else x.arbiter.elWait }).readAhead := by
  subst hx hgone
  rfl

end

/-- Settles O55: the boundary is its byte and the advance (`State.readBoundary_advances`), the byte is one of the
`State.readByte_…` lemmas, and an UNCHECKED chunk's claim one of the `State.claimDemand_…` lemmas. -/
theorem aReadBoundarySendsTheByteAtP : Obligations.AReadBoundarySendsTheByteAtP := by
  intro s p w hl hs hp sent byte word passed ends
  have hends : ∀ x, s.readByte p w = x → ends x := fun x hx => congrArg Host.Outcome.next
    ((State.elBoundary_readData hl hs hp).trans (State.readBoundary_advances hx (x.requestPassed_eq (p + 1))))
  refine ⟨fun hw => hends _ (State.readByte_no_window hw w), fun r g hw =>
    ⟨fun h => hends _ (State.readByte_outside hw h), ?_⟩⟩
  rintro rfl hg hin c st
  refine ⟨fun hst => hends _ (State.readByte_bad hw hg hin hst), fun hst => ?_, fun hst => ?_⟩
  · have hbyte := State.readByte_unchecked hw hg hin hst
    have hclaim : (sent 0xFF#8).chunkStateOf r c ≠ .bad := by
      rw [State.chunkStateOf_window (s := sent 0xFF#8) hw]
      exact fun hbad => by cases hst.symm.trans hbad
    exact ⟨fun i hn => hends _ (hbyte.trans (State.claimDemand_joins hclaim false none hn)),
      fun i hn hf => hends _ (hbyte.trans (State.claimDemand_takes hclaim false none hn hf)),
      fun i hn hf hv => ⟨_, State.preempt_spec (sent 0xFF#8) i r c none hf,
        hends _ (hbyte.trans (State.claimDemand_preempts hclaim false none hn hf hv))⟩,
      fun hn hf hv => hends _ (hbyte.trans (State.claimDemand_drops hclaim none hn hf hv))⟩
  · have hbyte := State.readByte_good hw hg hin hst
    refine ⟨fun v hv => hends _ (hbyte.trans (State.goodByte_latched hv)), fun hlatch => ?_⟩
    have hahead := hbyte.trans (State.goodByte_not_latched hlatch)
    exact ⟨fun v hv => hends _ (hahead.trans (State.aheadByte_held hv)),
      fun hv => hends _ (hahead.trans (State.aheadByte_underrun hv))⟩

end Sys2Proof.Machine
end

section
/-! The Scanner's stepping and the end of its pass (R149 to R151, R153 to R155, R157): the test of the end, what each position asks
for, one equation of `State.scanResume` for each outcome of a step, and the patrol pass begun. -/

namespace Sys2Proof.Machine

/-! ## The end of a pass (R153, R157) -/

/-- The pass makes its claims with this purpose (R150, R155). -/
abbrev Pass.fillsFor (a : Pass) (p : Purpose) : Prop := (a = .first ∧ p = .scan) ∨ (a = .patrol ∧ p = .patrol)

theorem Pass.claims_of_fillsFor {a : Pass} {p : Purpose} (h : a.fillsFor p) : a.claims = true := by
  rcases h with ⟨rfl, -⟩ | ⟨rfl, -⟩ <;> rfl

/-- The part with its pass ended. -/
def State.passEnded (s : State) : State := s.withScan { s.scan with pass := .none, cursor := none }

section
variable {s : State} {p : Purpose}

/-- A pass that makes claims ends at the end mark, where no slot of its purpose is in use. -/
theorem State.endPass_at_endMark (hp : s.scan.pass.fillsFor p) (hc : s.scan.cursor = some .endMark) :
    s.endPass = if s.anySlot p then s else s.passEnded := by
  have hover : s.passOver = !s.anySlot p := by
    rcases hp with ⟨hp, rfl⟩ | ⟨hp, rfl⟩ <;> simp [State.passOver, State.outstanding, hp, hc]
  rw [State.endPass, hover]
  cases s.anySlot p <;> rfl

/-- A stopping patrol ends wherever its cursor is. -/
theorem State.endPass_stopping (hp : s.scan.pass = .patrolStopping) :
    s.endPass = if s.anySlot .patrol then s else s.passEnded := by
  have hover : s.passOver = !s.anySlot .patrol := by simp [State.passOver, State.outstanding, hp]
  rw [State.endPass, hover]
  cases s.anySlot .patrol <;> rfl

theorem State.scanResume_of_not_claims (hp : s.scan.pass.claims = false) : s.scanResume = s.endPass := by
  simp [State.scanResume, hp]

theorem State.scanSteps_at_endMark (hc : s.scan.cursor = some .endMark) (fuel : Nat) : State.scanSteps fuel s = s := by
  cases fuel <;> simp only [State.scanSteps, hc]

theorem State.scanResume_at_endMark (hc : s.scan.cursor = some .endMark) : s.scanResume = s.endPass := by
  rw [State.scanResume, State.scanSteps_at_endMark hc, ite_self]

/-- Where the Scanner only tests the end of its pass, it goes on while a slot is outstanding, and else ends. -/
theorem State.pass_tested (hr : s.scanResume = s.endPass) (he : s.endPass = if s.anySlot p then s else s.passEnded) :
    ((∃ i : Fin 8, (s.slot i).state ≠ .free ∧ (s.slot i).purpose = some p) → s.scanResume = s ∧ s.endPass = s) ∧
    ((¬ ∃ i : Fin 8, (s.slot i).state ≠ .free ∧ (s.slot i).purpose = some p) →
      s.scanResume = s.passEnded ∧ s.endPass = s.passEnded) := by
  rw [hr, he, ← s.anySlot_iff p, and_self, and_self]
  exact ⟨fun h => if_pos h, fun h => if_neg h⟩

end

/-! ## What a position asks for (R150, R155) -/

section
variable {s : State} {pos r : Nat} {g : ImageRegion} (hr : s.scan.list[pos - 1]? = some r) (hg : s.tables.image r = some g)
include hr hg

theorem State.scanRegion_of_entry : s.scanRegion pos = some (r, g) := by
  simp [State.scanRegion, Scan.entry, hr, hg]

theorem State.scanCount_of_entry : s.scanCount pos = g.count := by
  rw [State.scanCount, State.scanRegion_of_entry hr hg]

/-- In the first pass a FAILED region is skipped, an UNCHECKED chunk claimed and any other passed (R150). -/
theorem State.scanAction_first (hp : s.scan.pass = .first) (k : Nat) : s.scanAction pos k =
    if g.state = .failed then .skipRegion
    else if s.tables.chunkState (g.first + k) = .unchecked then .claim .scan r else .advance := by
  simp [State.scanAction, State.scanRegion_of_entry hr hg, hp]

/-- In a patrol pass a region that is not COMPLETE is skipped, a GOOD chunk claimed (R155). -/
theorem State.scanAction_patrol (hp : s.scan.pass = .patrol) (k : Nat) : s.scanAction pos k =
    if g.state ≠ .complete then .skipRegion
    else if s.tables.chunkState (g.first + k) = .good then .claim .patrol r else .advance := by
  simp [State.scanAction, State.scanRegion_of_entry hr hg, hp]

theorem State.scanAction_claim {p : Purpose} {k : Nat} (hp : s.scan.pass.fillsFor p)
    (h : (p = .scan ∧ g.state ≠ .failed ∧ s.tables.chunkState (g.first + k) = .unchecked) ∨
      (p = .patrol ∧ g.state = .complete ∧ s.tables.chunkState (g.first + k) = .good)) :
    s.scanAction pos k = .claim p r := by
  rcases hp with ⟨hp, rfl⟩ | ⟨hp, rfl⟩
  · obtain ⟨-, hstate, hchunk⟩ := h.resolve_right (nofun)
    rw [State.scanAction_first hr hg hp, if_neg hstate, if_pos hchunk]
  · obtain ⟨-, hstate, hchunk⟩ := h.resolve_left (nofun)
    rw [State.scanAction_patrol hr hg hp, if_neg (not_not.2 hstate), if_pos hchunk]

end

/-- The Scanner's slot is taken at class 5. -/
theorem State.takeSlot_scanner (s : State) {p : Purpose} (hp : p = .scan ∨ p = .patrol) (i : Fin 8) (r k : Nat) :
    s.takeSlot i p (.chunk r k) none false =
      s.slotAsking i (claimedSlot p r k (s.inUseCount + 1) none false (s.slot i).buffer) .class5 := by
  rw [State.takeSlot_eq, State.takeSlot_wait]
  rcases hp with rfl | rfl <;> rfl

/-! ## The outcomes of a step -/

section
variable {s : State} {pos k r : Nat} (hp : s.scan.pass.claims = true) (hc : s.scan.cursor = some (.at_ pos k))
  (h1 : 1 ≤ pos) (hr : s.scan.list[pos - 1]? = some r)
include hp hc h1 hr

theorem State.scanResume_skips (ha : s.scanAction pos k = .skipRegion) :
    s.scanResume = (s.setCursor (s.scan.nextEntry pos)).scanResume := by
  rw [State.scanResume_step hp hc h1 hr, State.scanStep, ha]

theorem State.scanResume_passes (ha : s.scanAction pos k = .advance) :
    s.scanResume = (s.setCursor (s.scan.advance pos k (s.scanCount pos))).scanResume := by
  rw [State.scanResume_step hp hc h1 hr, State.scanStep, ha]

variable {p : Purpose} (ha : s.scanAction pos k = .claim p r) (hb : s.chunkStateOf r k ≠ .bad)
include ha hb

/-- A chunk that a slot holds is passed (R150). -/
theorem State.scanResume_joins {i : Fin 8} (hn : s.chunkHolder r k = some i) :
    s.scanResume = (s.setCursor (s.scan.advance pos k (s.scanCount pos))).scanResume := by
  have hclaim : s.claimScan p r k = (s, .joined i) := by simp [State.claimScan, hb, hn]
  rw [State.scanResume_step hp hc h1 hr, State.scanStep, ha]
  simp only [hclaim]

/-- A claim that finds a slot FREE takes the lowest, and the cursor goes on (R69, R150). -/
theorem State.scanResume_takes {i : Fin 8} (hn : s.chunkHolder r k = none) (hi : s.lowestFree = some i) :
    s.scanResume = ((s.takeSlot i p (.chunk r k) none false).setCursor
      (s.scan.advance pos k (s.scanCount pos))).scanResume := by
  have hclaim : s.claimScan p r k = (s.takeSlot i p (.chunk r k) none false, .taken i) := by
    simp [State.claimScan, hb, hn, hi]
  rw [State.scanResume_step hp hc h1 hr, State.scanStep, ha]
  simp only [hclaim]

end

/-- Settles O23: a pass that only tests its end is `State.pass_tested`; elsewhere the position's action (`State.scanAction_first`,
`State.scanAction_patrol`) chooses among the equations of `State.scanResume` for one step. -/
theorem theScannerStepsAndEndsItsPass : Obligations.TheScannerStepsAndEndsItsPass := by
  intro s outstanding ended on
  refine ⟨fun hp => ?_, fun hp => ?_, fun p hp => ⟨fun hc => ?_, fun hc => ?_, ?_⟩⟩
  · have hend := State.endPass_of_none hp
    exact ⟨(State.scanResume_of_not_claims (by rw [hp]; rfl)).trans hend, hend⟩
  · exact State.pass_tested (State.scanResume_of_not_claims (by rw [hp]; rfl)) (State.endPass_stopping hp)
  · exact State.pass_tested (State.scanResume_at_endMark hc) (State.endPass_at_endMark hp hc)
  · exact State.endPass_short (Pass.claims_of_fillsFor hp) hc
  · intro pos k r g hc h1 hr hg region chunk st
    have hclaims := Pass.claims_of_fillsFor hp
    have hchunk : s.scan.advance pos k (s.scanCount pos) = chunk := by rw [State.scanCount_of_entry hr hg]; rfl
    have hfirst : p = .scan → s.scan.pass = .first := fun h => by simpa [h] using hp
    have hpatrol : p = .patrol → s.scan.pass = .patrol := fun h => by simpa [h] using hp
    refine ⟨fun h hf => ?_, fun h hf hst => ?_, fun h hn => ?_, fun h => ?_⟩
    · exact State.scanResume_skips hclaims hc h1 hr (by rw [State.scanAction_first hr hg (hfirst h), if_pos hf])
    · have hne : st ≠ .unchecked := by rcases hst with hst | hst <;> simp [hst]
      rw [State.scanResume_passes hclaims hc h1 hr
        (by rw [State.scanAction_first hr hg (hfirst h), if_neg hf, if_neg hne]), hchunk]
      rfl
    · exact State.scanResume_skips hclaims hc h1 hr (by rw [State.scanAction_patrol hr hg (hpatrol h), if_pos hn])
    · have haction := State.scanAction_claim hr hg hp h
      have hbad : s.chunkStateOf r k ≠ .bad := by
        have hst : s.chunkStateOf r k = st := by simp only [State.chunkStateOf, hg]; rfl
        rw [hst]
        rcases h with ⟨-, -, hst⟩ | ⟨-, -, hst⟩ <;> simp [hst]
      refine ⟨fun i hi => ?_, fun i hn hi => ?_, fun hn hf => State.scanResume_stops hf hclaims hc h1 hr haction hn⟩
      · rw [State.scanResume_joins hclaims hc h1 hr haction hbad hi, hchunk]
        rfl
      · rw [State.scanResume_takes hclaims hc h1 hr haction hbad hn hi, hchunk,
          State.takeSlot_scanner s (h.imp And.left And.left)]
        rfl

end Sys2Proof.Machine
end

section
/-! A patrol pass started by the timer and by the PATROL command (R150, R154, R155, R180). -/

namespace Sys2Proof.Machine

/-! ## The claim a pass begins with -/

/-- While a slot of the pass is in use the pass goes on, and the Scanner leaves that slot to it. -/
theorem State.scanResume_keeps_pass {s : State} {p : Purpose} {i : Fin 8} (hp : s.scan.pass.fillsFor p)
    (hi : (s.slot i).state ≠ .free) (hpurpose : (s.slot i).purpose = some p) :
    s.scanResume.scan.pass = s.scan.pass ∧ s.scanResume.slot i = s.slot i := by
  obtain ⟨-, hpass, hslot⟩ := State.scanSteps_keeps s.scanFuel s
  have hsame := hslot i hi
  have hany : (State.scanSteps s.scanFuel s).anySlot p = true :=
    (State.anySlot_iff _ _).2 ⟨i, by rwa [hsame], by rwa [hsame]⟩
  have hend : (State.scanSteps s.scanFuel s).endPass = State.scanSteps s.scanFuel s := by
    have hfills : (State.scanSteps s.scanFuel s).scan.pass.fillsFor p := by rwa [hpass]
    by_cases hc : (State.scanSteps s.scanFuel s).scan.cursor = some .endMark
    · rw [State.endPass_at_endMark hfills hc, if_pos hany]
    · exact State.endPass_short (Pass.claims_of_fillsFor hfills) hc
  rw [State.scanResume, if_pos (Pass.claims_of_fillsFor hp), hend]
  exact ⟨hpass, hsame⟩

/-- A claim that finds a slot FREE keeps the pass on, whatever the Scanner does next. -/
theorem State.scanResume_claims {s : State} {p : Purpose} {pos k r : Nat} {i : Fin 8} (hp : s.scan.pass.fillsFor p)
    (hc : s.scan.cursor = some (.at_ pos k)) (h1 : 1 ≤ pos) (hr : s.scan.list[pos - 1]? = some r)
    (ha : s.scanAction pos k = .claim p r) (hb : s.chunkStateOf r k ≠ .bad) (hn : s.chunkHolder r k = none)
    (hi : s.lowestFree = some i) : s.scanResume.scan.pass = s.scan.pass ∧
      s.scanResume.slot i = claimedSlot p r k (s.inUseCount + 1) none false (s.slot i).buffer := by
  have htakes := State.scanResume_takes (Pass.claims_of_fillsFor hp) hc h1 hr ha hb hn hi
  have htaken : ((s.takeSlot i p (.chunk r k) none false).setCursor (s.scan.advance pos k (s.scanCount pos))).slot i =
      claimedSlot p r k (s.inUseCount + 1) none false (s.slot i).buffer :=
    (State.takeSlot_slot _ _ _ _ _ _ _).trans (if_pos rfl)
  obtain ⟨hpass, hslot⟩ := State.scanResume_keeps_pass (p := p) (s := (s.takeSlot i p (.chunk r k) none false).setCursor
    (s.scan.advance pos k (s.scanCount pos))) hp (by rw [htaken]; exact nofun) (by rw [htaken]; rfl)
  rw [htakes]
  exact ⟨hpass, hslot.trans htaken⟩

/-- A patrol pass begins with a fill of the first chunk of its first region, where that region is COMPLETE, the chunk GOOD and not
held, and a slot FREE (R155). -/
theorem State.patrolPass_claims {s : State} {r : Nat} {g : ImageRegion} {i : Fin 8} (hr : s.scan.list.head? = some r)
    (hg : s.tables.image r = some g) (hcomplete : g.state = .complete) (hgood : s.tables.chunkState g.first = .good)
    (hn : s.chunkHolder r 0 = none) (hi : s.lowestFree = some i) :
    let t := (s.passBegun .patrol).scanResume
    t.scan.pass = .patrol ∧ t.scan.list = s.scan.list ∧ (t.slot i).state = .filling ∧
      (t.slot i).purpose = some .patrol ∧ (t.slot i).content = some (.chunk r 0) := by
  intro t
  have hentry : (s.passBegun .patrol).scan.list[1 - 1]? = some r := by rwa [← List.head?_eq_getElem?]
  have hcursor : (s.passBegun .patrol).scan.cursor = some (.at_ 1 0) := by
    have hne : s.scan.list ≠ [] := by rintro h; simp [h] at hr
    simp [State.passBegun, scanBegin, hne]
  have haction := State.scanAction_claim (s := s.passBegun .patrol) (p := .patrol) (k := 0) hentry hg
    (.inr ⟨rfl, rfl⟩) (.inr ⟨rfl, hcomplete, hgood⟩)
  have hbad : (s.passBegun .patrol).chunkStateOf r 0 ≠ .bad := by simp [State.chunkStateOf, State.passBegun, hg, hgood]
  obtain ⟨hpass, hslot⟩ := State.scanResume_claims (.inr ⟨rfl, rfl⟩) hcursor (Nat.le_refl 1) hentry haction hbad hn hi
  refine ⟨hpass, (s.passBegun .patrol).scanResume_list, ?_⟩
  rw [hslot]
  exact ⟨rfl, rfl, rfl⟩

/-- What the Scanner makes of a pass begun leaves all but itself, the slots and the arbiter. -/
theorem State.passBegun_scanResume_frame (s : State) (p : Pass) :
    let t := (s.passBegun p).scanResume
    t = ((s.withScan t.scan).withVerifier t.verifier).withArbiter t.arbiter := by
  intro t
  apply State.ext_blocks <;> simp [t, State.passBegun]

/-! ## The timer's expiry and the PATROL command (R154, R180) -/

section
variable {s : State}

theorem State.patrolReady_iff : s.patrolReady = true ↔
    s.gate.state = .opened ∧ s.boot.params.patrolInterval ≠ 0 ∧ s.scan.pass = .none := by
  simp [State.patrolReady, and_assoc]

theorem State.patrolReady_eq_false (h : s.gate.state ≠ .opened ∨ s.boot.params.patrolInterval = 0 ∨ s.scan.pass ≠ .none) :
    s.patrolReady = false := by
  rw [Bool.eq_false_iff, Ne, State.patrolReady_iff]
  rintro ⟨hg, hi, hp⟩
  rcases h with h | h | h
  · exact h hg
  · exact hi h
  · exact h hp

section
variable (hs : s.live = true) (hr : s.timer.running = true) (hp : s.timer.purpose = .patrol)
include hs hr hp

theorem State.patrolExpires_starts (h : s.patrolReady = true) :
    s.patrolExpires = ((s.withTimer { s.timer with counter := 0 }).passBegun .patrol).scanResume := by
  have hready : s.timerWraps.patrolReady = true := h
  rw [State.patrolExpires, if_pos (State.timerFor_of_running hs hr hp)]
  exact (if_pos hready).trans (State.startPass_eq _ _)

theorem State.patrolExpires_ignored (h : s.patrolReady = false) :
    s.patrolExpires = s.withTimer { s.timer with counter := 0 } := by
  have hready : ¬ s.timerWraps.patrolReady = true := Bool.eq_false_iff.1 h
  rw [State.patrolExpires, if_pos (State.timerFor_of_running hs hr hp)]
  exact if_neg hready

end

section
variable (hs : s.live = true) (hf : s.sl.frame = .receiving)
include hs hf

theorem exec_slPatrol_starts (h : s.patrolReady = true) : exec .slPatrol s =
    .next ((s.passBegun .patrol).scanResume.withSl { s.sl with frame := .decided [resultOk] }) := by
  refine congrArg Host.Outcome.next ((State.answerFrame_of_live hs hf _).trans ?_)
  rw [State.startPatrol, if_pos h, State.startPass_eq]

theorem exec_slPatrol_refused (h : s.patrolReady = false) : exec .slPatrol s =
    .next (s.withSl { s.sl with frame := .decided [resultRefused] }) := by
  refine congrArg Host.Outcome.next ((State.answerFrame_of_live hs hf _).trans ?_)
  rw [State.startPatrol, if_neg (Bool.eq_false_iff.1 h)]

end

end

/-- Settles O22: the expiry and the command start a pass where one may start (`State.patrolExpires_starts`,
`exec_slPatrol_starts`), which begins with the claim of `State.patrolPass_claims`, and else do nothing to the Scanner. -/
theorem aPatrolPassStartsAtTheFirstChunk : Obligations.APatrolPassStartsAtTheFirstChunk := by
  refine ⟨fun s hs hg hn hp => ?_, fun s r g i hs hg hn hp hr himg hst hch _ hh hi => ?_, fun s hs h => ?_⟩
  · have hready := State.patrolReady_iff.2 ⟨hg, hn, hp⟩
    exact ⟨fun hrun hpur => congrArg Host.Outcome.next (State.patrolExpires_starts hs hrun hpur hready),
      fun hf => exec_slPatrol_starts hs hf hready⟩
  · have hready := State.patrolReady_iff.2 ⟨hg, hn, hp⟩
    refine ⟨fun hrun hpur => ⟨_, congrArg Host.Outcome.next (State.patrolExpires_starts hs hrun hpur hready),
      State.passBegun_scanResume_frame _ _,
      State.patrolPass_claims (s := s.withTimer { s.timer with counter := 0 }) hr himg hst hch hh hi⟩, fun hf => ?_⟩
    exact ⟨_, exec_slPatrol_starts hs hf hready,
      congrArg (fun t => t.withSl { s.sl with frame := .decided [0x01#8] }) (s.passBegun_scanResume_frame .patrol),
      State.patrolPass_claims hr himg hst hch hh hi⟩
  · have hready := State.patrolReady_eq_false h
    exact ⟨fun hrun hpur => congrArg Host.Outcome.next (State.patrolExpires_ignored hs hrun hpur hready),
      fun hf => exec_slPatrol_refused hs hf hready⟩

end Sys2Proof.Machine
end

section
/-! A verdict on a required region in RELEASED and the print gate (R157, R159, R160, R166, R167): the gate latched with a patrol
pass left to drain, or opened with its timer and its fuse work. -/

namespace Sys2Proof.Machine

/-! ## A patrol pass left to drain (R157) -/

/-- A patrol pass that was stopped: PATROL_STOPPING while a slot of it is in use, and NONE after that. -/
def State.patrolDrains (s : State) : Prop := s.scan.pass = if s.anySlot .patrol then .patrolStopping else .none

theorem State.anySlot_congr {s t : State} (h : ∀ i, t.slot i = s.slot i) (p : Purpose) : t.anySlot p = s.anySlot p := by
  simp only [State.anySlot, h]

theorem State.patrolDrains_of_same {s t : State} (h : s.patrolDrains) (hp : t.scan.pass = s.scan.pass)
    (hs : ∀ i, t.slot i = s.slot i) : t.patrolDrains := by
  rw [State.patrolDrains, hp, State.anySlot_congr hs]
  exact h

theorem State.endPass_drains {s : State} (h : s.scan.pass = .patrolStopping) : s.endPass.patrolDrains := by
  rw [State.patrolDrains, State.anySlot_congr (s := s) (fun i => State.slot_eq (by simp) i), State.endPass_stopping h]
  split
  · exact h
  · rfl

/-- The gate that latches stops a patrol pass. -/
theorem State.latchGate_drains {s : State} (hg : s.gate.state ≠ .latched) (hp : s.scan.pass = .patrol)
    (cause : GateCause) : (s.latchGate cause).patrolDrains := by
  have hstop : (s.latching cause).stopPatrol.patrolDrains := by
    rw [State.stopPatrol, if_pos (show (s.latching cause).scan.pass = .patrol from hp)]
    exact State.endPass_drains rfl
  rw [State.latchGate_of_not_latched hg]
  exact State.patrolDrains_of_same hstop (by simp) fun i => State.slot_eq (by simp) i

/-- A slot of a patrol pass is in use beside one slot. -/
abbrev State.patrolsBeside (s : State) (i : Fin 8) : Prop :=
  ∃ j, j ≠ i ∧ (s.slot j).state ≠ .free ∧ (s.slot j).purpose = some .patrol

/-- A slot given back is offered before the end of a pass that makes no claims is tested: by then it is no patrol slot, and the
others are what they were. -/
theorem State.releaseSlot_tests {s : State} (hp : s.scan.pass.claims = false) (i : Fin 8) :
    ∃ u : State, s.releaseSlot i = u.endPass ∧ u.scan.pass = s.scan.pass ∧ (u.slot i).purpose ≠ some .patrol ∧
      ∀ j, j ≠ i → (u.slot j).state = (s.slot j).state ∧ (u.slot j).purpose = (s.slot j).purpose := by
  obtain ⟨⟨hfree, hothers, -⟩, -⟩ := s.freeSlot_spec i
  cases hd : s.verifier.pendingDemand with
  | none =>
    refine ⟨s.freeSlot i, ?_, rfl, by simp [hfree], fun j hj => by rw [hothers j hj]; exact ⟨rfl, rfl⟩⟩
    rw [State.releaseSlot_of_none_pending hd]
    exact State.scanResume_of_not_claims (s := s.freeSlot i) hp
  | some d =>
    have hslot := State.takeSlot_slot ((s.freeSlot i).withVerifier
      { (s.freeSlot i).verifier with pendingDemand := none }) i .demand (.chunk d.region d.index) d.waiter d.waiter.isNone
    refine ⟨(s.freeSlot i).takePending i d, ?_, rfl, ?_, fun j hj => ?_⟩
    · rw [State.releaseSlot_of_pending hd, State.takePending, State.takeSlot_demand]
    · rw [State.takePending, hslot, if_pos rfl]
      exact nofun
    · rw [State.takePending, hslot, if_neg (Ne.symm hj)]
      exact hothers j hj ▸ ⟨rfl, rfl⟩

/-- The slot given back is not counted among those that keep a stopped patrol pass. -/
theorem State.releaseSlot_drains {s : State} (h : s.patrolDrains) (i : Fin 8) :
    (s.releaseSlot i).scan.pass = if s.patrolsBeside i then .patrolStopping else .none := by
  have hclaims : s.scan.pass.claims = false := by
    rw [h]
    split <;> rfl
  obtain ⟨u, hu, hpass, hi, hothers⟩ := State.releaseSlot_tests hclaims i
  have hleft : u.anySlot .patrol = true ↔ s.patrolsBeside i := by
    rw [State.anySlot_iff]
    constructor
    · rintro ⟨j, hj, hpurpose⟩
      have hne : j ≠ i := by rintro rfl; exact hi hpurpose
      obtain ⟨hstate, hsame⟩ := hothers j hne
      exact ⟨j, hne, hstate ▸ hj, hsame ▸ hpurpose⟩
    · rintro ⟨j, hne, hj, hpurpose⟩
      obtain ⟨hstate, hsame⟩ := hothers j hne
      exact ⟨j, hstate ▸ hj, hsame ▸ hpurpose⟩
  simp only [hu, ← hleft]
  cases hs : s.anySlot .patrol with
  | true =>
    have hstopping : u.scan.pass = .patrolStopping := by rw [hpass, h, if_pos hs]
    rw [State.endPass_stopping hstopping]
    split
    · exact hstopping
    · rfl
  | false =>
    have hnone : u.scan.pass = .none := by rw [hpass, h, hs]; rfl
    have hover : ¬ u.anySlot .patrol = true := by
      rw [hleft]
      rintro ⟨j, -, hj⟩
      exact Bool.eq_false_iff.1 hs ((s.anySlot_iff _).2 ⟨j, hj⟩)
    rw [State.endPass_of_none hnone, if_neg hover, hnone]

/-! ## The gate opened (R159, R166, R167) -/

/-- What an opening places on an empty work list. -/
def State.openingWork (s : State) : List FuseItem :=
  if s.boot.active.isSome ∧ s.fuse.demoted = s.boot.active then [.commit, .undemote] else [.commit]

/-- What a programmer takes of a list does not depend on the list that its state held before. -/
theorem takesWork_of_work {t : Tables} {active : Option Bank} {g : Fuse} {l w : List FuseItem} {f : Fuse}
    (h : takesWork t active g l { f with work := w }) : takesWork t active g l f := by
  induction l with
  | nil => simpa [takesWork] using h
  | cons item rest ih =>
    cases item with
    | demote | undemote => exact h
    | commit =>
      obtain ⟨todo, htargets, hnil, hcons⟩ := h
      exact ⟨todo, htargets, fun ht => ih (hnil ht), hcons⟩

theorem State.raiseOpening_fuse {s : State} (hw : s.fuse.work = []) :
    s.raiseOpening.fuse = { s.fuse with work := s.openingWork } := by
  have hcommit : s.fuse.raise .commit = { s.fuse with work := [.commit] } := by simp [Fuse.raise, hw]
  rw [State.raiseOpening, hcommit, State.openingWork]
  split <;> rfl

theorem State.fuseReady_eq {s t : State} (hl : t.lines = s.lines) (hb : t.boot = s.boot) (ha : t.alerts = s.alerts)
    (ho : t.fuse.op = s.fuse.op) : t.fuseReady = s.fuseReady := by
  simp only [State.fuseReady, State.live_eq hl hb, ha, ho]

theorem State.fuseReady_iff (s : State) :
    s.fuseReady = true ↔ s.live = true ∧ s.fuse.op = none ∧ s.alerts.supplyLow = false := by
  simp [State.fuseReady, and_assoc]

section
variable (s : State)

theorem State.openGate_gate : s.openGate.gate = Gate.open_ := by simp [State.openGate]

theorem State.openGate_timer : s.openGate.timer = (s.withGate Gate.open_).loadPatrol.timer := by simp [State.openGate]

/-- The patrol interval is loaded; one of 0 leaves the timer stopped (R166). -/
theorem State.openGate_loads : (s.boot.params.patrolInterval = 0 → s.openGate.timer.running = false) ∧
    (s.boot.params.patrolInterval ≠ 0 → s.openGate.timer = Timer.load s.boot.params.patrolInterval .patrol) := by
  rw [State.openGate_timer, State.loadPatrol]
  refine ⟨fun h => ?_, fun h => ?_⟩
  · rw [if_pos (by simpa using h)]
    rfl
  · rw [if_neg (by simpa using h)]
    rfl

variable {s}

/-- The work of an opening is taken at once where the programmer may begin work, and else waits on its list. -/
theorem State.openGate_fuse (hw : s.fuse.work = []) :
    (s.fuseReady = true → takesWork s.tables s.boot.active s.openGate.fuse s.openingWork s.fuse) ∧
    (s.fuseReady = false → s.openGate.fuse = { s.fuse with work := s.openingWork }) := by
  have hfuse : ((s.withGate Gate.open_).loadPatrol).raiseOpening.fuse = { s.fuse with work := s.openingWork } := by
    rw [State.raiseOpening_fuse (by simpa using hw)]
    simp [State.openingWork]
  obtain ⟨-, htakes, hstays⟩ := ((s.withGate Gate.open_).loadPatrol).raiseOpening.fuseResume_spec
  rw [State.fuseReady_eq (s := s) (by simp) (by simp) (by simp) (by rw [hfuse])] at htakes hstays
  rw [hfuse] at htakes
  refine ⟨fun h => takesWork_of_work (w := s.openingWork) ?_, fun h => ?_⟩
  · simpa [State.openGate] using htakes h
  · rw [State.openGate, hstays h, hfuse]

end

/-! ## The verdict and the gate -/

/-- Recording a verdict leaves the gate, the timer and the Scanner to the Boot Controller's reaction. -/
theorem State.verdictRecorded_rest (s : State) (t : Tables) (bad : Bool) (record : Nat) :
    (s.verdictRecorded t bad record).gate = s.gate ∧ (s.verdictRecorded t bad record).timer = s.timer ∧
    (s.verdictRecorded t bad record).scan = s.scan := by
  cases bad <;> simp [State.verdictRecorded, State.badReport]

section
variable {s : State} {g : ImageRegion} (hb : s.boot.state = .released)
include hb

theorem State.regionChanged_latches (hs : g.state = .failed) (hr : g.cls.required = true) :
    s.regionChanged g = s.latchGate .chunkBad := by
  simp only [State.regionChanged, hb, hs, hr, if_true]

theorem State.regionChanged_judges (hs : g.state = .complete) : s.regionChanged g = s.judgeOpening := by
  simp only [State.regionChanged, hb, hs]

end

/-- A BOOT or PRINT region is COMPLETE where all that are required are. -/
theorem Tables.complete_of_requiredComplete {t : Tables} {i : Nat} {g : ImageRegion} (h : t.requiredComplete = true)
    (hi : t.image i = some g) (hr : g.cls.required = true) : g.state = .complete := by
  have hmem : Region.image g ∈ t.regions := List.mem_of_getElem? ((t.image_eq_some_iff i g).1 hi)
  simpa [hr] using List.all_eq_true.1 h _ hmem

section
variable {s : State} {r c : Nat} {g : ImageRegion} {k : ChunkRecord} {e d : List Byte}
  (hb : s.boot.state = .released) (hi : s.tables.image r = some g) (hk : s.tables.chunks[g.first + c]? = some k)
  (he : k.expected = some e) (hr : g.cls.required = true)
include hb hi hk he hr

/-- A mismatch that fails a required region latches the gate (R160), and a patrol pass drains (R157). -/
theorem State.takeVerdict_latches (hs : k.state ≠ .bad) (hf : g.state ≠ .failed) (hg : s.gate.state ≠ .latched)
    (hd : d ≠ e) :
    let t := s.takeVerdict r c d
    t.gate = { state := .latched, cause := some .chunkBad, pgate := false, count := 0, fresh := false } ∧
    t.timer = { s.timer with running := false } ∧
    (FuseItem.demote ∈ t.fuse.work ∨ t.fuse.op = some (.demote s.boot.active)) ∧
    (s.scan.pass = .patrol → t.patrolDrains) := by
  intro t
  obtain ⟨hsame, -⟩ | ⟨-, hmatch, -⟩ | ⟨-, -, fromGood, hv⟩ := Tables.verdict_cases hk he r g d
  · exact absurd hsame (by simp [hs, hd])
  · exact absurd hmatch hd
  · generalize (s.tables.setChunkState (g.first + c) .bad).setImage r (g.afterBad fromGood) = tables at hv
    have hchange : regionChange r g (g.afterBad fromGood) = some (r, g.afterBad fromGood) := if_neg hf
    have ht : t = _ := State.takeVerdict_eq hi d
    rw [hv, hchange, Option.elim_some] at ht
    obtain ⟨-, hboot, -⟩ := s.verdictRecorded_blocks tables true (g.first + c)
    obtain ⟨hgate, htimer, hscan⟩ := s.verdictRecorded_rest tables true (g.first + c)
    generalize s.verdictRecorded tables true (g.first + c) = u at ht hboot hgate htimer hscan
    replace ht := ht.trans (State.regionChanged_latches (g := g.afterBad fromGood) (by rwa [hboot]) rfl hr)
    have hgu : u.gate.state ≠ .latched := hgate ▸ hg
    obtain ⟨hlatched, hstopped, hdemote, -⟩ := State.latchGate_spec hgu .chunkBad
    rw [ht]
    exact ⟨hlatched, hstopped.trans (by rw [htimer]), by rwa [hboot] at hdemote,
      fun hp => State.latchGate_drains hgu (hscan ▸ hp) .chunkBad⟩

/-- A match on a chunk of a required region opens a CLOSED gate where it leaves every required region COMPLETE (R159). -/
theorem State.takeVerdict_opens (hu : k.state = .unchecked) (hchk : g.state = .checking) (hg : s.gate.state = .closed)
    (hd : d = e) : s.takeVerdict r c d =
      if (s.chunkProved r g (g.first + c)).tables.requiredComplete then (s.chunkProved r g (g.first + c)).openGate
      else s.chunkProved r g (g.first + c) := by
  have hverdict : s.takeVerdict r c d = (regionChange r g g.afterGood).elim (s.chunkProved r g (g.first + c)) fun x =>
      (s.chunkProved r g (g.first + c)).regionChanged x.2 := by
    have heq := State.takeVerdict_eq (c := c) hi d
    rwa [Tables.verdict_match r hk he hu hd] at heq
  rw [hverdict]
  have himage : (s.chunkProved r g (g.first + c)).tables.image r = some g.afterGood :=
    Tables.image_setImage (by rwa [Tables.image_setChunkState]) _
  by_cases hn : g.good + 1 = g.count
  · have hstate : g.afterGood.state = .complete := by simp [ImageRegion.afterGood, hchk, hn]
    have hchange : regionChange r g g.afterGood = some (r, g.afterGood) := by simp [regionChange, hstate, hchk]
    rw [hchange, Option.elim_some, State.regionChanged_judges (s := s.chunkProved r g (g.first + c)) hb hstate]
    exact if_congr ⟨fun ⟨_, _, h⟩ => h, fun h => ⟨hb, hg, h⟩⟩ rfl rfl
  · have hstate : g.afterGood.state = .checking := by simp [ImageRegion.afterGood, hchk, hn]
    have hchange : regionChange r g g.afterGood = none := by simp [regionChange, hstate, hchk]
    have hwaits : ¬ (s.chunkProved r g (g.first + c)).tables.requiredComplete = true := fun h => by
      have hcomplete := Tables.complete_of_requiredComplete h himage hr
      rw [hstate] at hcomplete
      cases hcomplete
    rw [hchange, if_neg hwaits, Option.elim_none]

end

theorem State.completeHash_list (s : State) (i : Fin 8) (r c : Nat) :
    (s.completeHash i r c).scan.list = s.scan.list := by
  unfold State.completeHash
  split
  · simp [State.engineIdle]
  · rfl

/-- The completion of a hash leaves a patrol pass that the verdict stopped with the slots it still has (R157). -/
theorem State.completeHash_drains {s x : State} {i : Fin 8} {r c : Nat} (hv : x.verifier = s.verifier)
    (he : s.verifier.engine = some i) (h : x.patrolDrains) :
    (x.completeHash i r c).scan.pass = if s.patrolsBeside i then .patrolStopping else .none := by
  have hslots (j : Fin 8) : (x.answerWaiter i r c).engineIdle.slot j = x.slot j :=
    State.slot_eq (t := x.answerWaiter i r c) (by simp) j
  have hdrains := State.releaseSlot_drains
    (State.patrolDrains_of_same (t := (x.answerWaiter i r c).engineIdle) h (by simp) hslots) i
  rw [State.completeHash, if_pos (by rw [hv, he])]
  simpa only [State.engineNext_blocks, State.patrolsBeside, hslots, State.slot_eq hv] using hdrains

/-- Settles O36: the completion of the hash leaves the gate, the timer and the programmer to the verdict, which latches the gate
(`State.takeVerdict_latches`) or opens it (`State.takeVerdict_opens`, the `State.openGate_…` lemmas). -/
theorem aVerdictMovesTheGate : Obligations.AVerdictMovesTheGate := by
  intro s i r c g k e hb heng hcont himg hrec hexp hcls good latched
  have hreq : g.cls.required = true := by rcases hcls with h | h <;> rw [h] <;> rfl
  have hexec : exec .chunkHashComplete s =
      .next ((s.takeVerdict r c (s.slotDigest i)).completeHash i r c).readAhead :=
    congrArg Host.Outcome.next (State.chunkHashed_eq heng hcont)
  obtain ⟨hlines, -, -, -, -⟩ := State.takeVerdict_of_released hb (c := c) himg (s.slotDigest i)
  obtain ⟨hverifier, -, -, hlist, -⟩ := State.takeVerdict_slots_of_released hb (c := c) himg (s.slotDigest i)
  have hlatches (hs : k.state ≠ .bad) (hf : g.state ≠ .failed) (hg : s.gate.state ≠ .latched) (hbad : good = false) :
      ∃ t, latched t ∧ t.scan.list = s.scan.list ∧ (s.scan.pass = .patrol →
        t.scan.pass = if s.patrolsBeside i then .patrolStopping else .none) := by
    obtain ⟨hgate, htimer, hdemote, hdrains⟩ :=
      State.takeVerdict_latches hb himg hrec hexp hreq hs hf hg (of_decide_eq_false hbad)
    refine ⟨_, ⟨hexec, ?_⟩, ?_, fun hp => ?_⟩
    · simp only [State.readAhead_blocks, State.completeHash_blocks]
      exact ⟨hlines, hgate, htimer, hdemote⟩
    · simpa [State.completeHash_list] using hlist
    · simpa using State.completeHash_drains hverifier heng (hdrains hp)
  refine ⟨fun hu hchk hg hbad => ?_, fun hs hc hg hbad => hlatches (by simp [hs]) (by simp [hc]) (by simp [hg]) hbad,
    fun hu hchk hg hgood => ⟨_, hexec, ?_⟩⟩
  · obtain ⟨t, ht, -⟩ := hlatches (by simp [hu]) (by simp [hchk]) (by simp [hg]) hbad
    exact ⟨t, ht⟩
  · have hd : s.slotDigest i = e := of_decide_eq_true hgood
    have hopens := State.takeVerdict_opens hb himg hrec hexp hreq hu hchk hg hd
    have htables : (s.takeVerdict r c (s.slotDigest i)).tables = (s.chunkProved r g (g.first + c)).tables := by
      rw [hopens]
      split
      · simp
      · rfl
    simp only [State.readAhead_blocks, State.completeHash_blocks]
    refine ⟨hlines, fun hwaits => ?_, fun hcomplete => ?_⟩
    · rw [htables] at hwaits
      rw [hopens, if_neg (by simp [hwaits])]
      exact ⟨rfl, rfl, rfl⟩
    · rw [htables] at hcomplete
      rw [hopens, if_pos hcomplete]
      obtain ⟨hstopped, hloaded⟩ := (s.chunkProved r g (g.first + c)).openGate_loads
      refine ⟨State.openGate_gate _, hstopped, hloaded, fun hw => ?_⟩
      obtain ⟨htakes, hstays⟩ := State.openGate_fuse (s := s.chunkProved r g (g.first + c)) hw
      refine ⟨fun hl ho hlow => ?_, fun hbusy => hstays (Bool.eq_false_iff.2 fun hready => ?_)⟩
      · simp only [State.openGate_blocks]
        exact htakes ((State.fuseReady_iff _).2 ⟨hl, ho, hlow⟩)
      · obtain ⟨-, ho, hlow⟩ : _ ∧ s.fuse.op = none ∧ s.alerts.supplyLow = false := (State.fuseReady_iff _).1 hready
        rcases hbusy with h | h
        · simp [ho] at h
        · simp [hlow] at h

end Sys2Proof.Machine
end

section
/-! What every step keeps of the print gate and of the walker's waiting (R26, R36, R158 to R160): outside RELEASED and TRANSPARENT the
gate is not OPEN, so that the tables and the boot state may change as they like; in RELEASED a required region that stops being
COMPLETE latches the gate in the same event. -/

namespace Sys2Proof.Machine

/-! ## The two laws together -/

/-- PGATE high only while OPEN, and a cause exactly while LATCHED: what R158 says of the gate alone. -/
def Gate.coherent (g : Gate) : Prop := (g.pgate = true → g.state = .opened) ∧ (g.cause.isSome = true ↔ g.state = .latched)

/-- A coherent gate that is not OPEN, of which the law asks nothing of the boot state and the tables. -/
def Gate.shut (g : Gate) : Prop := g.coherent ∧ g.state ≠ .opened

/-- The gate law and the walk law, which a step keeps together: while the walker waits the boot state is WALKING, and so the gate is
shut (`State.gateWalkLaw_waiting`). -/
def State.gateWalkLaw (s : State) : Prop := s.gateLaw ∧ s.walkLaw

theorem Gate.open_coherent : Gate.open_.coherent := by simp [Gate.coherent, Gate.open_]

theorem Gate.latched_shut (cause : GateCause) :
    Gate.shut { state := .latched, cause := some cause, pgate := false, count := 0, fresh := false } := by
  simp [Gate.shut, Gate.coherent]

section
variable {g : Gate} (h : g.coherent)
include h

/-- A gate that is OPEN may have any level of PGATE. -/
theorem Gate.coherent_of_opened (ho : g.state = .opened) (level fresh : Bool) (count : Nat) :
    Gate.coherent { g with pgate := level, count := count, fresh := fresh } := ⟨fun _ => ho, h.2⟩

/-- PGATE may go low in every state of the gate. -/
theorem Gate.coherent_low (fresh : Bool) (count : Nat) :
    Gate.coherent { g with pgate := false, count := count, fresh := fresh } := ⟨nofun, h.2⟩

theorem Gate.halted_shut : g.halted.shut := by
  obtain ⟨-, hcause⟩ := h
  cases hs : g.state <;> simp_all [Gate.halted, Gate.shut, Gate.coherent]

end

section
variable {s t : State}

theorem State.gateLaw_coherent (h : s.gateLaw) : s.gate.coherent := ⟨h.1, h.2.1⟩

theorem State.gateLaw_of_shut (h : s.gate.shut) : s.gateLaw :=
  let ⟨⟨hpgate, hcause⟩, hshut⟩ := h
  ⟨hpgate, hcause, fun ho => absurd ho hshut⟩

/-- Outside RELEASED and TRANSPARENT the gate is not OPEN. -/
theorem State.gateLaw_shut (h : s.gateLaw) (ht : s.boot.state ≠ .transparent) (hr : s.boot.state ≠ .released) :
    s.gate.shut :=
  let ⟨hpgate, hcause, hopen⟩ := h
  ⟨⟨hpgate, hcause⟩, fun ho => (hopen ho).elim ht fun hreleased => hr hreleased.1⟩

theorem State.gateLaw_shut_of_intake (h : s.gateLaw) (hi : s.boot.state.intake = true) : s.gate.shut :=
  State.gateLaw_shut h (fun hb => by simp [hb, BootState.intake] at hi) fun hb => by simp [hb, BootState.intake] at hi

theorem State.walkLaw_of_idle (h : s.walk.job = .none) : s.walkLaw := fun hj => absurd h hj

/-- Outside WALKING, and once the walk has ended, the walker waits for nothing. -/
theorem State.walkLaw_idle (h : s.walkLaw) (hs : s.boot.state ≠ .walking ∨ s.walk.outcome ≠ none) :
    s.walk.job = .none := by
  by_contra hj
  obtain ⟨hb, ho⟩ := h hj
  exact hs.elim (absurd hb) (absurd ho)

theorem State.walkLaw_of_same (h : s.walkLaw) (hb : t.boot.state = s.boot.state) (hw : t.walk = s.walk) : t.walkLaw := by
  simpa only [State.walkLaw, hb, hw] using h

/-- The two laws speak of the gate, the boot state, the tables and the walk. -/
theorem State.gateWalkLaw_of_same (h : s.gateWalkLaw) (hs : t.gate = s.gate ∧ t.boot.state = s.boot.state ∧
    t.tables = s.tables ∧ t.walk = s.walk) : t.gateWalkLaw := by
  obtain ⟨hg, hb, ht, hw⟩ := hs
  simpa only [State.gateWalkLaw, State.gateLaw, State.walkLaw, hg, hb, ht, hw] using h

theorem State.gateWalkLaw_of_shut_idle (hg : t.gate.shut) (hj : t.walk.job = .none) : t.gateWalkLaw :=
  ⟨State.gateLaw_of_shut hg, State.walkLaw_of_idle hj⟩

/-- While the walker waits the boot state is WALKING and the gate is shut. -/
theorem State.gateWalkLaw_waiting (h : s.gateWalkLaw) (hj : s.walk.job ≠ .none) :
    s.gate.shut ∧ s.boot.state = .walking ∧ s.walk.outcome = none := by
  obtain ⟨hb, ho⟩ := h.2 hj
  exact ⟨State.gateLaw_shut_of_intake h.1 (by rw [hb]; rfl), hb, ho⟩

/-- In PREVERIFY the gate is shut and the walker waits for nothing. -/
theorem State.gateWalkLaw_preverify (h : s.gateWalkLaw) (hb : s.boot.state = .preverify) :
    s.gate.shut ∧ s.walk.job = .none :=
  ⟨State.gateLaw_shut_of_intake h.1 (by rw [hb]; rfl), State.walkLaw_idle h.2 (.inl (by simp [hb]))⟩

end

/-! ## The gate (R158 to R162) -/

section
variable {s : State}

theorem State.latchGate_shut (h : s.gate.coherent) (cause : GateCause) : (s.latchGate cause).gate.shut := by
  by_cases hl : s.gate.state = .latched
  · rw [State.latchGate, if_pos hl]
    exact ⟨h, by simp [hl]⟩
  · rw [(State.latchGate_spec hl cause).1]
    exact Gate.latched_shut cause

/-- A gate may latch whatever the tables say. -/
theorem State.latchGate_gateWalkLaw (hg : s.gate.coherent) (hw : s.walkLaw) (cause : GateCause) :
    (s.latchGate cause).gateWalkLaw :=
  ⟨State.gateLaw_of_shut (State.latchGate_shut hg cause), State.walkLaw_of_same hw (by simp) (by simp)⟩

/-- The gate opens in RELEASED with every required region COMPLETE. -/
theorem State.judgeOpening_gateWalkLaw (h : s.gateWalkLaw) : s.judgeOpening.gateWalkLaw := by
  unfold State.judgeOpening
  split
  · next hopens =>
    obtain ⟨hb, -, hcomplete⟩ := hopens
    refine ⟨?_, State.walkLaw_of_same h.2 (by simp) (by simp)⟩
    have hcoherent : s.openGate.gate.coherent := s.openGate_gate ▸ Gate.open_coherent
    exact ⟨hcoherent.1, hcoherent.2, fun _ => .inr (by simpa using ⟨hb, hcomplete⟩)⟩
  · exact h

/-- The PGATE clock moves no more of the gate than its level and its counts. -/
theorem State.withGate_gateWalkLaw (h : s.gateWalkLaw) {g : Gate} (hg : g.coherent) (hs : g.state = s.gate.state) :
    (s.withGate g).gateWalkLaw :=
  ⟨⟨hg.1, hg.2, fun ho => h.1.2.2 (hs ▸ ho)⟩, h.2⟩

theorem State.pgateToggles_gateWalkLaw (h : s.gateWalkLaw) : s.pgateToggles.gateWalkLaw := by
  unfold State.pgateToggles
  split
  · next ho =>
    exact State.withGate_gateWalkLaw h (Gate.coherent_of_opened (State.gateLaw_coherent h.1) ho.1 _ _ _) rfl
  · exact h

theorem State.tickGate_gateWalkLaw (h : s.gateWalkLaw) : s.tickGate.gateWalkLaw := by
  unfold State.tickGate
  split
  · split
    · exact State.pgateToggles_gateWalkLaw h
    · exact State.withGate_gateWalkLaw h (State.gateLaw_coherent h.1) rfl
  · exact h

end

/-! ## Boot states entered (R12 to R17) -/

section
variable {s : State} (hg : s.gate.shut)
include hg

theorem State.enterNoBank_gateWalkLaw : s.enterNoBank.gateWalkLaw :=
  State.gateWalkLaw_of_shut_idle (by simpa using hg) rfl

theorem State.fallback_gateWalkLaw : s.fallback.gateWalkLaw := by
  refine State.gateWalkLaw_of_shut_idle (by simpa using hg) ?_
  unfold State.fallback
  dsimp only
  split <;> rfl

theorem State.enterReleased_gateWalkLaw (hj : s.walk.job = .none) : s.enterReleased.gateWalkLaw := by
  have hshut : s.releasing.gate.shut := by simpa using hg
  have hlaw : s.releasing.gateWalkLaw := State.gateWalkLaw_of_shut_idle hshut (by simpa [State.releasing] using hj)
  rw [State.enterReleased_eq]
  split
  · exact State.latchGate_gateWalkLaw hshut.1 hlaw.2 .chunkBad
  · exact State.judgeOpening_gateWalkLaw hlaw

theorem State.enterPreverify_gateWalkLaw (hj : s.walk.job = .none) : s.enterPreverify.gateWalkLaw := by
  unfold State.enterPreverify
  dsimp only
  split
  · exact State.enterReleased_gateWalkLaw (by simpa using hg) (by simpa using hj)
  · exact State.gateWalkLaw_of_shut_idle (by simpa using hg) (by simpa using hj)

end

/-! ## The walker (R26 to R39) -/

section
variable {s : State}

theorem State.reject_idle (fatal : Bool) (kind : WalkFault) : (s.reject fatal kind).walk.job = .none := by
  unfold State.reject
  split <;> rfl

/-- An IMAGE entry is rejected or taken (R27). -/
theorem State.processImage_cases (m : Memory) (i : Nat) (f : Frame) :
    (∃ fatal kind, s.processImage m i f = s.reject fatal kind) ∨ ∃ c, s.processImage m i f = s.takeImage m i f c := by
  unfold State.processImage
  dsimp only
  split
  · exact .inl ⟨_, _, rfl⟩
  · split
    · exact .inl ⟨_, _, rfl⟩
    · split
      · exact .inl ⟨_, _, rfl⟩
      · split
        · exact .inl ⟨_, _, rfl⟩
        · split
          · exact .inl ⟨_, _, rfl⟩
          · split
            · exact .inl ⟨_, _, rfl⟩
            · exact .inr ⟨_, rfl⟩

/-- A DELEGATE entry is rejected or its manifest claimed (R32). -/
theorem State.processDelegate_cases (m : Memory) (i : Nat) (f : Frame) :
    (∃ fatal kind, s.processDelegate m i f = s.reject fatal kind) ∨ s.processDelegate m i f = s.claimDelegate m i := by
  unfold State.processDelegate
  dsimp only
  split
  · exact .inl ⟨_, _, rfl⟩
  · split
    · exact .inl ⟨_, _, rfl⟩
    · split
      · exact .inl ⟨_, _, rfl⟩
      · exact .inr rfl

theorem State.claimDelegate_outcome (m : Memory) (i : Nat) : (s.claimDelegate m i).walk.outcome = s.walk.outcome := by
  unfold State.claimDelegate
  split
  · rfl
  · next b _ =>
    obtain ⟨-, -, -, -, -, hwalk, -⟩ := State.claimIntake_blocks s .manifest b (entryManifestLoc m i / chunkWords)
    have houtcome := congrArg Walk.outcome hwalk
    split <;> next hclaim => rw [hclaim] at houtcome; exact houtcome

/-- A step after which the walker waits has made its claim, and has not ended the walk. -/
theorem State.walkStep_waits (hj : s.walk.job = .none) :
    s.walkStep.walk.job = .none ∨ s.walkStep.walk.outcome = s.walk.outcome := by
  unfold State.walkStep
  split
  · left
    unfold State.closeWalk
    split
    · rfl
    · split
      · rfl
      · exact hj
  · dsimp only
    split
    · exact .inr (by simp [State.popFrame])
    · split
      · obtain ⟨fatal, kind, hrejected⟩ | ⟨c, htaken⟩ := State.processImage_cases _ _ _
        · exact .inl (hrejected ▸ State.reject_idle fatal kind)
        · exact .inr (by simp [htaken, State.takeImage])
      · split
        · left
          unfold State.processData
          dsimp only
          split <;> rfl
        · obtain ⟨fatal, kind, hrejected⟩ | hclaimed := State.processDelegate_cases _ _ _
          · exact .inl (hrejected ▸ State.reject_idle fatal kind)
          · exact .inr (hclaimed ▸ State.claimDelegate_outcome _ _)

theorem State.walkStep_walkLaw (hgoes : s.walkGoes = true) : s.walkStep.walkLaw := by
  obtain ⟨hb, hj, ho⟩ := (State.walkGoes_iff s).1 hgoes
  rcases State.walkStep_waits hj with h | h
  · exact State.walkLaw_of_idle h
  · exact fun _ => ⟨by simpa using hb, h.trans ho⟩

theorem State.walkRun_walkLaw (hw : s.walkLaw) (fuel : Nat) : (State.walkRun fuel s).walkLaw := by
  induction fuel generalizing s with
  | zero => exact hw
  | succ n ih =>
    unfold State.walkRun
    split
    · next hgoes => exact ih (State.walkStep_walkLaw hgoes)
    · exact hw

theorem State.walkOn_gateWalkLaw (hg : s.gate.shut) (hw : s.walkLaw) (fuel : Nat) :
    (State.walkOn fuel s).gateWalkLaw := by
  induction fuel generalizing s with
  | zero => exact ⟨State.gateLaw_of_shut hg, hw⟩
  | succ n ih =>
    have hrun : (State.walkRun s.walkFuel s).walkLaw := State.walkRun_walkLaw hw _
    have hshut : (State.walkRun s.walkFuel s).gate.shut := by simpa using hg
    unfold State.walkOn
    dsimp only
    split
    · next hsuccess =>
      exact State.enterPreverify_gateWalkLaw hshut (State.walkLaw_idle hrun (.inr (by simp [hsuccess])))
    · exact ih (by simpa using hshut) (State.fallback_gateWalkLaw hshut).2
    · exact ⟨State.gateLaw_of_shut hshut, hrun⟩

theorem State.walkOnAll_gateWalkLaw (hg : s.gate.shut) (hw : s.walkLaw) : s.walkOnAll.gateWalkLaw :=
  State.walkOn_gateWalkLaw hg hw _

/-! ## Manifests under judgement (R7 to R10, R32) -/

theorem State.endSelecting_gateWalkLaw (h : s.gateWalkLaw) : s.endSelecting.gateWalkLaw := by
  unfold State.endSelecting
  split
  · next hends =>
    have hb : s.boot.state = .selecting := by
      simp only [Bool.and_eq_true, decide_eq_true_eq] at hends
      exact hends.1.1
    have hg : s.gate.shut := State.gateLaw_shut_of_intake h.1 (by rw [hb]; rfl)
    dsimp only
    split
    · exact State.enterNoBank_gateWalkLaw hg
    · exact State.walkOnAll_gateWalkLaw hg (State.walkLaw_of_idle rfl)
  · exact h

theorem State.rejectRoot_gateWalkLaw (h : s.gateWalkLaw) (k : Bank) (i : Fin 8) : (s.rejectRoot k i).gateWalkLaw :=
  State.endSelecting_gateWalkLaw (State.gateWalkLaw_of_same h (by simp))

theorem State.askPass_gateWalkLaw (h : s.gateWalkLaw) (k : Bank) (i : Fin 8) (st : JudgeStep) (d : List Byte) :
    (s.askPass k i st d).gateWalkLaw :=
  State.gateWalkLaw_of_same h (by simp [State.askPass])

theorem State.delegateAt_waits {i : Fin 8} {j : DelegateJob} (h : s.delegateAt i = some j) : s.walk.job ≠ .none := by
  intro hj
  simp [State.delegateAt, hj] at h

/-- The delegation for which the walker waits goes on to its next pass. -/
theorem State.setDelegate_gateWalkLaw (h : s.gateWalkLaw) (hj : s.walk.job ≠ .none) (j : DelegateJob) :
    (s.setDelegate j).gateWalkLaw := by
  obtain ⟨hg, hb, ho⟩ := State.gateWalkLaw_waiting h hj
  exact ⟨State.gateLaw_of_shut hg, fun _ => ⟨hb, ho⟩⟩

theorem State.dropDelegate_gateWalkLaw (hg : s.gate.shut) (j : DelegateJob) : (s.dropDelegate j).gateWalkLaw :=
  State.walkOnAll_gateWalkLaw (by simpa using hg) (State.walkLaw_of_idle (State.reject_idle _ _))

theorem State.acceptDelegate_walkLaw (hw : s.walkLaw) (j : DelegateJob) : (s.acceptDelegate j).walkLaw := by
  unfold State.acceptDelegate
  split
  · exact hw
  · exact State.walkLaw_of_idle rfl

theorem State.manifestFilled_gateWalkLaw (h : s.gateWalkLaw) (i : Fin 8) : (s.manifestFilled i).gateWalkLaw := by
  unfold State.manifestFilled State.rootFilled State.delegateFilled
  split
  · split
    · exact State.askPass_gateWalkLaw h _ _ _ _
    · exact State.rejectRoot_gateWalkLaw h _ _
  · split
    · next j hat =>
      have hj := State.delegateAt_waits hat
      split
      · split
        · exact State.gateWalkLaw_of_same (State.setDelegate_gateWalkLaw h hj { j with at_ := .key }) (by simp)
        · exact State.dropDelegate_gateWalkLaw (State.gateWalkLaw_waiting h hj).1 j
      · exact h
    · exact h

theorem State.rootKeyed_gateWalkLaw (h : s.gateWalkLaw) (k : Bank) (i : Fin 8) (d : List Byte) :
    (s.rootKeyed k i d).gateWalkLaw := by
  unfold State.rootKeyed
  split
  · exact State.askPass_gateWalkLaw h _ _ _ _
  · exact State.rejectRoot_gateWalkLaw h _ _

theorem State.delegateKeyed_gateWalkLaw (h : s.gateWalkLaw) (hj : s.walk.job ≠ .none) (j : DelegateJob) (d : List Byte) :
    (s.delegateKeyed j d).gateWalkLaw := by
  unfold State.delegateKeyed
  split
  · exact State.gateWalkLaw_of_same (State.setDelegate_gateWalkLaw h hj { j with at_ := .span }) (by simp)
  · exact State.dropDelegate_gateWalkLaw (State.gateWalkLaw_waiting h hj).1 j

theorem State.engineNext_gateWalkLaw (h : s.gateWalkLaw) : s.engineNext.gateWalkLaw := State.gateWalkLaw_of_same h (by simp)

theorem State.passDone_gateWalkLaw (h : s.gateWalkLaw) (i : Fin 8) : (s.passDone i).gateWalkLaw :=
  State.gateWalkLaw_of_same h (by simp)

theorem State.keyHashed_gateWalkLaw (h : s.gateWalkLaw) : s.keyHashed.gateWalkLaw := by
  unfold State.keyHashed
  split
  · dsimp only
    split
    · exact State.engineNext_gateWalkLaw (State.rootKeyed_gateWalkLaw (State.passDone_gateWalkLaw h _) _ _ _)
    · next hat =>
      split
      · exact State.engineNext_gateWalkLaw (State.delegateKeyed_gateWalkLaw (State.passDone_gateWalkLaw h _)
          (by simpa using State.delegateAt_waits hat) _ _)
      · exact h
    · exact h
  · exact h

theorem State.spanHashed_gateWalkLaw (h : s.gateWalkLaw) : s.spanHashed.gateWalkLaw := by
  unfold State.spanHashed
  split
  · next i _ _ =>
    have hdone := State.passDone_gateWalkLaw h i
    dsimp only
    split
    · exact State.gateWalkLaw_of_same hdone (by simp)
    · next j _ hat =>
      split
      · have hj : (s.passDone i).walk.job ≠ .none := by simpa using State.delegateAt_waits hat
        exact State.gateWalkLaw_of_same (State.setDelegate_gateWalkLaw hdone hj { j with at_ := .check }) (by simp)
      · exact h
    · exact h
  · exact h

theorem State.checked_gateWalkLaw (h : s.gateWalkLaw) (q : CheckRequest) (pass : Bool) :
    (s.checked q pass).gateWalkLaw := by
  unfold State.checked
  split
  · split
    · exact State.endSelecting_gateWalkLaw (State.gateWalkLaw_of_same h (by simp))
    · exact State.rejectRoot_gateWalkLaw h _ _
  · next j _ hat =>
    obtain ⟨hg, -, -⟩ := State.gateWalkLaw_waiting h (State.delegateAt_waits hat)
    split
    · split
      · exact State.walkOnAll_gateWalkLaw (by simpa using hg) (State.acceptDelegate_walkLaw h.2 j)
      · exact State.dropDelegate_gateWalkLaw hg j
    · exact h
  · exact h

theorem State.checkEnds_gateWalkLaw (h : s.gateWalkLaw) : s.checkEnds.gateWalkLaw := by
  unfold State.checkEnds
  split
  · exact State.checked_gateWalkLaw (s := s.withVerifier s.verifier.nextCheck) h _ _
  · exact h

end

/-! ## Verdicts (R47 to R49, R53, R159, R160) -/

section
variable {t : Tables} {i : Nat} {g : ImageRegion} (hi : t.image i = some g) (h : t.requiredComplete = true)
include h

/-- A record replaced leaves every required region COMPLETE where the new record is COMPLETE or not required. -/
theorem Tables.setImage_requiredComplete {g' : ImageRegion} (hc : g'.cls.required = true → g'.state = .complete) :
    (t.setImage i g').requiredComplete = true := by
  simp only [Tables.requiredComplete, Tables.setImage, List.all_eq_true] at h ⊢
  intro r hr
  rcases List.mem_or_eq_of_mem_set hr with hr | rfl
  · exact h r hr
  · cases hreq : g'.cls.required <;> simp [hc, hreq]

theorem Tables.setChunkState_requiredComplete (record : Nat) (st : ChunkState) :
    (t.setChunkState record st).requiredComplete = true := by
  unfold Tables.setChunkState
  split <;> exact h

include hi

/-- A verdict leaves every required region COMPLETE, or is the change of one to FAILED. -/
theorem Tables.verdict_requiredComplete (record : Nat) (digest : List Byte) :
    (t.verdict i g record digest).1.requiredComplete = true ∨
    ∃ g', (t.verdict i g record digest).2.2 = some (i, g') ∧ g'.state = .failed ∧ g'.cls.required = true := by
  cases hk : t.chunks[record]? with
  | none => exact .inl (by simpa only [Tables.verdict, hk] using h)
  | some k =>
    cases he : k.expected with
    | none => exact .inl (by simpa only [Tables.verdict, hk, he] using h)
    | some e =>
      have hcomplete (hr : g.cls.required = true) : g.state = .complete := Tables.complete_of_requiredComplete h hi hr
      have hset := Tables.setChunkState_requiredComplete h record
      obtain ⟨-, hv⟩ | ⟨-, -, hv⟩ | ⟨-, -, fromGood, hv⟩ := Tables.verdict_cases hk he i g digest <;> rw [hv]
      · exact .inl h
      · refine .inl (Tables.setImage_requiredComplete (hset _) fun hr => ?_)
        simp [ImageRegion.afterGood, hcomplete hr]
      · by_cases hr : g.cls.required = true
        · exact .inr ⟨g.afterBad fromGood, by simp [regionChange, ImageRegion.afterBad, hcomplete hr], rfl, hr⟩
        · exact .inl (Tables.setImage_requiredComplete (hset _) fun hr' => absurd hr' hr)

end

section
variable {s : State}

theorem State.regionChanged_gateWalkLaw (h : s.gateWalkLaw) (g : ImageRegion) : (s.regionChanged g).gateWalkLaw := by
  unfold State.regionChanged
  split
  · next hb _ =>
    obtain ⟨hg, hj⟩ := State.gateWalkLaw_preverify h hb
    split
    · exact State.enterReleased_gateWalkLaw hg hj
    · exact h
  · next hb _ =>
    obtain ⟨hg, -⟩ := State.gateWalkLaw_preverify h hb
    split
    · exact State.walkOnAll_gateWalkLaw (by simpa using hg) (State.fallback_gateWalkLaw hg).2
    · exact h
  · exact State.judgeOpening_gateWalkLaw h
  · split
    · exact State.latchGate_gateWalkLaw (State.gateLaw_coherent h.1) h.2 .chunkBad
    · exact h
  · exact h

/-- In RELEASED with the gate OPEN a verdict leaves every required region COMPLETE, or latches the gate; elsewhere the law asks
nothing of the tables. -/
theorem State.takeVerdict_gateWalkLaw (h : s.gateWalkLaw) (r c : Nat) (digest : List Byte) :
    (s.takeVerdict r c digest).gateWalkLaw := by
  cases hi : s.tables.image r with
  | none => simpa only [State.takeVerdict, hi] using h
  | some g =>
    have hverdict (hcomplete : s.tables.requiredComplete = true) :=
      Tables.verdict_requiredComplete hi hcomplete (g.first + c) digest
    rw [State.takeVerdict_eq hi]
    generalize s.tables.verdict r g (g.first + c) digest = v at hverdict
    obtain ⟨-, hboot, -, hwalk, htables⟩ := s.verdictRecorded_blocks v.1 v.2.1 (g.first + c)
    obtain ⟨hgate, -, -⟩ := s.verdictRecorded_rest v.1 v.2.1 (g.first + c)
    generalize s.verdictRecorded v.1 v.2.1 (g.first + c) = u at *
    have hw : u.walkLaw := State.walkLaw_of_same h.2 (by rw [hboot]) hwalk
    have hg : u.gate.coherent := hgate ▸ State.gateLaw_coherent h.1
    have hother (hu : u.gateWalkLaw) : (v.2.2.elim u fun x => u.regionChanged x.2).gateWalkLaw := by
      cases v.2.2 with
      | none => exact hu
      | some x => exact State.regionChanged_gateWalkLaw hu x.2
    by_cases ho : u.gate.state = .opened
    · obtain hb | ⟨hb, hcomplete⟩ := h.1.2.2 (hgate ▸ ho)
      · exact hother ⟨⟨hg.1, hg.2, fun _ => .inl (hboot ▸ hb)⟩, hw⟩
      · obtain hkept | ⟨g', hchange, hfailed, hreq⟩ := hverdict hcomplete
        · exact hother ⟨⟨hg.1, hg.2, fun _ => .inr ⟨hboot ▸ hb, htables ▸ hkept⟩⟩, hw⟩
        · rw [hchange, Option.elim_some, State.regionChanged_latches (hboot ▸ hb) hfailed hreq]
          exact State.latchGate_gateWalkLaw hg hw .chunkBad
    · exact hother ⟨State.gateLaw_of_shut ⟨hg, ho⟩, hw⟩

theorem State.chunkHashed_gateWalkLaw (h : s.gateWalkLaw) : s.chunkHashed.gateWalkLaw := by
  unfold State.chunkHashed
  split
  · next i _ _ =>
    split
    · next r c _ =>
      exact State.gateWalkLaw_of_same (State.takeVerdict_gateWalkLaw h r c (s.slotDigest i)) (by simp)
    · exact h
    · exact h
  · exact h

/-! ## Digest lists (R29, R30) -/

theorem State.finishList_gateWalkLaw (hg : s.gate.shut) (j : ListJob) : (s.finishList j).gateWalkLaw := by
  unfold State.finishList
  split
  · exact State.walkOnAll_gateWalkLaw (by simpa using hg) (State.walkLaw_of_idle rfl)
  · exact State.walkOnAll_gateWalkLaw (by simpa using hg) (State.walkLaw_of_idle (State.reject_idle _ _))

theorem State.pieceHashed_gateWalkLaw (h : s.gateWalkLaw) (hj : s.walk.job ≠ .none) (i : Fin 8) (j : ListJob) :
    (s.pieceHashed i j).gateWalkLaw := by
  obtain ⟨hg, hb, ho⟩ := State.gateWalkLaw_waiting h hj
  unfold State.pieceHashed
  dsimp only
  split
  · exact State.finishList_gateWalkLaw (by simpa using hg) _
  · exact ⟨State.gateLaw_of_shut (by simpa using hg), fun _ => by simpa using ⟨hb, ho⟩⟩

theorem State.listHashed_gateWalkLaw (h : s.gateWalkLaw) : s.listHashed.gateWalkLaw := by
  unfold State.listHashed
  split
  · next hlist =>
    split
    · exact State.engineNext_gateWalkLaw (State.pieceHashed_gateWalkLaw h (by simp [hlist]) _ _)
    · exact h
  · exact h

/-! ## The other commands that reach the gate, the boot state, the tables or the walk -/

theorem State.burstCounted_gateWalkLaw (h : s.gateWalkLaw) (i : Fin 8) : (s.burstCounted i).gateWalkLaw := by
  unfold State.burstCounted
  dsimp only
  split
  · exact State.gateWalkLaw_of_same h (by simp)
  · split
    · exact State.manifestFilled_gateWalkLaw (State.gateWalkLaw_of_same h (by simp)) i
    · exact State.gateWalkLaw_of_same h (by simp)

theorem State.burstEnds_gateWalkLaw (h : s.gateWalkLaw) : s.burstEnds.gateWalkLaw := by
  unfold State.burstEnds
  split
  · split
    · dsimp only
      split
      · exact State.burstCounted_gateWalkLaw (State.gateWalkLaw_of_same h (by simp)) _
      · exact State.gateWalkLaw_of_same h (by simp)
    · exact h
  · exact h

theorem State.intakeExpires_gateWalkLaw (h : s.gateWalkLaw) : s.intakeExpires.gateWalkLaw := by
  unfold State.intakeExpires
  split
  · dsimp only
    split
    · next hi => exact State.enterNoBank_gateWalkLaw (s := s.timerWraps) (State.gateLaw_shut_of_intake h.1 hi)
    · exact h
  · exact h

theorem State.bootExpires_gateWalkLaw (h : s.gateWalkLaw) : s.bootExpires.gateWalkLaw := by
  unfold State.bootExpires
  split
  · dsimp only
    split
    · exact State.latchGate_gateWalkLaw (s := s.timerWraps.withAlerts { s.alerts with late := true })
        (State.gateLaw_coherent h.1) h.2 .late
    · exact h
  · exact h

theorem State.tick_gateWalkLaw (h : s.gateWalkLaw) : s.tick.gateWalkLaw := by
  have htimer : s.tickTimer.gateWalkLaw := by
    unfold State.tickTimer
    split
    · split
      · split
        · exact State.intakeExpires_gateWalkLaw h
        · exact State.bootExpires_gateWalkLaw h
        · exact State.gateWalkLaw_of_same h (by simp)
      · exact h
    · exact h
  exact State.gateWalkLaw_of_same (t := s.tickTimer.tickGate.pollRetries) (State.tickGate_gateWalkLaw htimer) (by simp)

theorem State.answerFrame_gateWalkLaw (h : s.gateWalkLaw) {act : State × List Byte} (ha : act.1.gateWalkLaw) :
    (s.answerFrame act).gateWalkLaw := by
  unfold State.answerFrame
  split
  · split
    · exact ha
    · exact h
  all_goals exact h

/-! ## Part resets and HALTED (R3, R5, R18) -/

theorem State.beginReset_gateWalkLaw (h : s.gateWalkLaw) (cause : ResetCause) : (s.beginReset cause).gateWalkLaw := by
  cases hr : s.lines.inReset
  · obtain ⟨-, -, hj, -⟩ := State.beginReset_atRest hr cause
    refine ⟨?_, State.walkLaw_of_idle hj⟩
    rw [State.beginReset_eq hr]
    have hlow := Gate.coherent_low (State.gateLaw_coherent h.1) false 0
    exact ⟨hlow.1, hlow.2, by simpa using h.1.2.2⟩
  · rwa [State.beginReset_of_inReset hr]

theorem State.enterHalted_gateWalkLaw (h : s.gateWalkLaw) : s.enterHalted.gateWalkLaw :=
  State.gateWalkLaw_of_shut_idle (by simpa using Gate.halted_shut (State.gateLaw_coherent h.1)) rfl

/-- A part reset ends in TRANSPARENT with the gate OPEN, or in SELECTING with the gate CLOSED. -/
theorem State.endReset_gateWalkLaw (fsz swl : BitVec 2) (low : Bool) : (s.endReset fsz swl low).gateWalkLaw := by
  unfold State.endReset
  dsimp only
  split
  · exact ⟨⟨Gate.open_coherent.1, Gate.open_coherent.2, fun _ => .inl rfl⟩, State.walkLaw_of_idle rfl⟩
  · refine State.gateWalkLaw_of_shut_idle ?_ (by simp [State.volatileReset, Walk.reset])
    simp [State.volatileReset, Gate.shut, Gate.coherent, Gate.reset]

theorem State.brownOutFalls_gateWalkLaw (h : s.gateWalkLaw) : s.brownOutFalls.gateWalkLaw := by
  have hseen : s.brownOutSeen.gateWalkLaw := State.gateWalkLaw_of_same h (by simp)
  rw [State.brownOutFalls_eq]
  split
  · exact State.enterHalted_gateWalkLaw hseen
  · exact hseen

theorem State.brownOutRecovers_gateWalkLaw (h : s.gateWalkLaw) : s.brownOutRecovers.gateWalkLaw := by
  unfold State.brownOutRecovers
  split
  · exact h
  · split
    · exact State.beginReset_gateWalkLaw h .brownOut
    · exact h

/-! ## Every command -/

theorem exec_gateWalkLaw {c : Instr} {t : State} (h : s.gateWalkLaw) (he : exec c s = .next t) : t.gateWalkLaw := by
  cases c with
  -- reset and brown-out
  | powerOn flash => rw [next_inj he]; cases flash <;> exact State.beginReset_gateWalkLaw h .powerOn
  | nrstFall => rw [next_inj he]; exact State.beginReset_gateWalkLaw h .pin
  | partResetEnd fsz swl low =>
    rw [next_inj he]
    split
    · exact State.endReset_gateWalkLaw fsz swl low
    · exact h
  | brownOutFall => rw [next_inj he]; exact State.brownOutFalls_gateWalkLaw h
  | brownOutRecovery => rw [next_inj he]; exact State.brownOutRecovers_gateWalkLaw h
  -- the timer and the PGATE clock
  | intakeDeadlineExpiry => rw [next_inj he]; exact State.intakeExpires_gateWalkLaw h
  | bootDeadlineExpiry => rw [next_inj he]; exact State.bootExpires_gateWalkLaw h
  | pgateHalfPeriod => rw [next_inj he]; exact State.pgateToggles_gateWalkLaw h
  -- fills, hashes and checks
  | burstComplete => rw [next_inj he]; exact State.burstEnds_gateWalkLaw h
  | chunkHashComplete => rw [next_inj he]; exact State.chunkHashed_gateWalkLaw h
  | listPieceHashComplete => rw [next_inj he]; exact State.listHashed_gateWalkLaw h
  | keyPassComplete => rw [next_inj he]; exact State.keyHashed_gateWalkLaw h
  | spanPassComplete => rw [next_inj he]; exact State.spanHashed_gateWalkLaw h
  | signatureCheckEnd => rw [next_inj he]; exact State.checkEnds_gateWalkLaw h
  -- the commands that reach none of the four blocks
  | slStatus | slRegion _ | slChunks _ _ | slCapture | slCounters | slKeys | slProvision _ _ | slRevoke _ | slClose
  | slLock | slWipe | slPatrol | slUnknown _ =>
    rw [next_inj he]
    exact State.answerFrame_gateWalkLaw h (State.gateWalkLaw_of_same h (by simp))
  | supplyWarningRise | cpReadArrival _ | cpWriteArrival _ _ | elIdent | elUnknownCommand _ =>
    rw [next_inj he]
    split <;> exact State.gateWalkLaw_of_same h (by simp)
  | crstInAssert => rw [next_inj he]; exact State.gateWalkLaw_of_same h (by simp [State.crstAsserts])
  | supplyWarningFall | crstInDeassert | patrolIntervalExpiry | flashGrant | burstWordBoundary | cpWordReturn
  | cpReadAbandon | cpAccessEnd | sequenceSent | flashOperationEnd _ _ | pollPairComplete | pollRetryTick
  | wipeSectorStart | elFrameBegin | elRead _ | elStatus | elReadByteBoundary | elStatusByteBoundary | elWordReturn
  | elFrameEnd | slFrameEnd | slFrameBegin | fuseStepEnd | fuseOperationEnd =>
    rw [next_inj he]
    exact State.gateWalkLaw_of_same h (by simp)

end

/-- Settles O10: the walker's waiting says WALKING, so that only in RELEASED and TRANSPARENT can a step find the gate OPEN; there the
tables change by a verdict alone, which leaves the required regions COMPLETE or latches the gate
(`State.takeVerdict_gateWalkLaw`), and the gate opens only on them (`State.judgeOpening_gateWalkLaw`) or in TRANSPARENT
(`State.endReset_gateWalkLaw`). -/
theorem everyStepKeepsTheGateLaw : Obligations.EveryStepKeepsTheGateLaw := by
  intro s t hg hw h
  obtain rfl | ⟨c, rest, h⟩ := step_cases h
  · exact State.tick_gateWalkLaw ⟨hg, hw⟩
  · exact exec_gateWalkLaw (s := s.withPending rest) ⟨hg, hw⟩ h

end Sys2Proof.Machine
end

section
/-! One slow tick, part by part (R97, R124, R162, R165; logs 2 and 3). -/

namespace Sys2Proof.Machine

section
variable {s : State} (hl : s.live = true)
include hl

/-- PGATE changes level in an OPEN gate (R162). -/
theorem State.pgateToggles_of_opened (ho : s.gate.state = .opened) :
    s.pgateToggles = s.withGate { s.gate with pgate := !s.gate.pgate, count := 0, fresh := false } :=
  if_pos ⟨ho, hl⟩

/-- The PGATE clock at a tick of a part that acts: with the gate OPEN it changes the level or counts (R162). -/
theorem State.tickGate_of_live : s.tickGate =
    if s.gate.state = .opened then
      s.withGate (if s.gate.fresh = true ∨ s.boot.params.halfPeriod ≤ s.gate.count + 1 then
          { s.gate with pgate := !s.gate.pgate, count := 0, fresh := false }
        else { s.gate with count := s.gate.count + 1 })
    else s := by
  by_cases ho : s.gate.state = .opened
  · rw [State.tickGate, if_pos ⟨ho, hl⟩, if_pos ho, State.pgateToggles_of_opened hl ho]
    split <;> rfl
  · rw [State.tickGate, if_neg fun h => ho h.1, if_neg ho]

/-- The row of the timer's purpose is what the tick does at the compare value (R165). -/
theorem State.tickTimer_acts (hr : s.timer.running = true) (hc : s.timer.counter + 1 = s.timer.compare) :
    s.tickTimer.timer.counter = 0 ∧ exec (match s.timer.purpose with
      | .intake => .intakeDeadlineExpiry
      | .bootDeadline => .bootDeadlineExpiry
      | .patrol => .patrolIntervalExpiry) s = .next s.tickTimer := by
  rw [State.tickTimer_expires hl hr hc]
  cases hp : s.timer.purpose with
  | intake => exact ⟨State.intakeExpires_counter (State.timerFor_of_running hl hr hp), rfl⟩
  | bootDeadline => exact ⟨State.bootExpires_counter (State.timerFor_of_running hl hr hp), rfl⟩
  | patrol => exact ⟨State.patrolExpires_counter (State.timerFor_of_running hl hr hp), rfl⟩

end

theorem State.tickTimer_of_not_running {s : State} (hr : s.timer.running = false) : s.tickTimer = s := by
  simp [State.tickTimer, hr]

/-- Settles O3: the tick is `State.tickTimer`, then `State.tickGate`, then `State.pollRetries`, each in a part that still acts
(`State.tickTimer_live`, `State.tickGate_live`). -/
theorem anEmptyQueueStepsOneTick : Obligations.AnEmptyQueueStepsOneTick := by
  intro s hl gated asked settled expiry
  have hgated (u : State) (hu : u.live = true) : u.tickGate = gated u := State.tickGate_of_live hu
  have hpolls (u : State) (hu : u.live = true) : u.pollRetries = settled (asked u) := by
    rw [State.pollRetries, if_pos hu]
    rfl
  have htimer : s.tickTimer.live = true := State.tickTimer_live hl
  refine ⟨fun hq => ⟨s.tickTimer, ?_, State.tickTimer_of_not_running, State.tickTimer_counts hl, fun hr hc => ?_⟩,
    congrArg Host.Outcome.next (hpolls s hl), fun ho => congrArg Host.Outcome.next (State.pgateToggles_of_opened hl ho)⟩
  · rw [step, hq, ← hgated _ htimer, ← hpolls _ (State.tickGate_live htimer)]
    rfl
  · obtain ⟨hcounter, hacts⟩ := State.tickTimer_acts hl hr hc
    exact ⟨hacts, hcounter⟩

end Sys2Proof.Machine
end

section
/-! The supply's warning level and ALERT (R132, R163, R164, R168, R173). -/

namespace Sys2Proof.Machine

section
variable (s : State)

/-- ALERT while NOBANK is present, or a masked-in condition is, outside a part reset (R164). -/
theorem State.alert_iff : s.alert = true ↔ s.lines.inReset = false ∧ (s.alerts.noBank = true ∨
    (s.alerts.bad = true ∧ s.boot.params.mask.bad = true) ∨ (s.alerts.late = true ∧ s.boot.params.mask.late = true) ∨
    (s.alerts.violation = true ∧ s.boot.params.mask.violation = true) ∨
    (s.alerts.supplyLow = true ∧ s.boot.params.mask.supplyLow = true)) := by
  simp [State.alert, or_assoc]

/-- The fall below the warning level (R132, R168). -/
theorem State.supplyFalls_eq : s.supplyFalls = (s.withAlerts { s.alerts with supplyLow := true }).withWipe
    { s.wipe with state := if s.live = true ∧ s.wipe.state = .waiting then .suspended else s.wipe.state } := by
  unfold State.supplyFalls
  by_cases h : s.live = true ∧ s.wipe.state = .waiting
  · rw [if_pos h]
    exact if_pos h
  · rw [if_neg h]
    exact if_neg h

/-- The rise above the warning level, before the programmer takes its work (R132, R168). -/
def State.supplyRisen : State := (s.withAlerts { s.alerts with supplyLow := false }).withWipe
  { s.wipe with state := if s.live = true ∧ s.wipe.state = .suspended then .waiting else s.wipe.state }

theorem State.supplyRises_eq : s.supplyRises = s.supplyRisen.fuseResume := by
  refine congrArg State.fuseResume ?_
  unfold State.supplyRisen
  by_cases h : s.live = true ∧ s.wipe.state = .suspended
  · rw [if_pos h]
    exact if_pos h
  · rw [if_neg h]
    exact if_neg h

/-- With the supply risen the programmer may begin work where it is IDLE and the part acts (R173). -/
theorem State.supplyRisen_fuseReady : s.supplyRisen.fuseReady = true ↔ s.live = true ∧ s.fuse.op = none := by
  rw [State.fuseReady_iff]
  exact and_congr_right fun _ => and_iff_left rfl

end

/-- Settles O19: the rise is `State.supplyRisen` with the programmer resumed, which changes the fuse block alone and takes the work
exactly where it may (`State.fuseResume_spec`). -/
theorem theWarningLevelMovesSupplyLowAndTheWipe : Obligations.TheWarningLevelMovesSupplyLowAndTheWipe := by
  intro s
  refine ⟨s.alert_iff, congrArg Host.Outcome.next s.supplyFalls_eq, fun hb => congrArg Host.Outcome.next (if_pos hb),
    fun hb => ⟨s.supplyRises, congrArg Host.Outcome.next (if_neg (by simp [hb])), ?_⟩⟩
  obtain ⟨hfuse, htakes, hstays⟩ := s.supplyRisen.fuseResume_spec
  rw [s.supplyRises_eq]
  refine ⟨hfuse, fun hl ho => htakes (s.supplyRisen_fuseReady.2 ⟨hl, ho⟩), fun hbusy => ?_⟩
  have hnot : s.supplyRisen.fuseReady = false := Bool.eq_false_iff.2 fun hready => by
    obtain ⟨hl, ho⟩ := s.supplyRisen_fuseReady.1 hready
    simp [hl, ho] at hbusy
  rw [hstays hnot]
  rfl

end Sys2Proof.Machine
end

section
/-! The one-way cells and the operation in progress (R171 to R173, R177): what a change of the fuse block may do to them, and what
the programmer does with its work. -/

namespace Sys2Proof.Machine

/-! ## Cells going forward (R171, R172) -/

section
variable {f g h : Fuse}

theorem KeyState.rank_pos {k : KeyState} : 0 < k.rank ↔ k ≠ .empty := by cases k <;> simp [KeyState.rank]

theorem Fuse.forward_refl (f : Fuse) : f.forward f := ⟨id, fun _ => ⟨le_rfl, fun _ => rfl⟩, fun _ => le_rfl⟩

theorem Fuse.forward_trans (h1 : f.forward g) (h2 : g.forward h) : f.forward h := by
  obtain ⟨hlife1, hkeys1, hcounters1⟩ := h1
  obtain ⟨hlife2, hkeys2, hcounters2⟩ := h2
  refine ⟨hlife2 ∘ hlife1, fun i => ?_, fun c => (hcounters1 c).trans (hcounters2 c)⟩
  obtain ⟨hrank1, hdigest1⟩ := hkeys1 i
  obtain ⟨hrank2, hdigest2⟩ := hkeys2 i
  refine ⟨hrank1.trans hrank2, fun hi => ?_⟩
  have hg : g.keys[i].state ≠ .empty := KeyState.rank_pos.1 ((KeyState.rank_pos.2 hi).trans_le hrank1)
  exact (hdigest2 hg).trans (hdigest1 hi)

/-- The one-way cells are the same; the rewritable cells, the operation and the work may differ. -/
def Fuse.sameCells (f g : Fuse) : Prop := g.lifecycle = f.lifecycle ∧ g.keys = f.keys ∧ g.counters = f.counters

theorem Fuse.sameCells_trans (h1 : f.sameCells g) (h2 : g.sameCells h) : f.sameCells h :=
  ⟨h2.1.trans h1.1, h2.2.1.trans h1.2.1, h2.2.2.trans h1.2.2⟩

theorem Fuse.forward_of_sameCells (hc : f.sameCells g) : f.forward g := by
  obtain ⟨hlife, hkeys, hcounters⟩ := hc
  rw [Fuse.forward, hlife, hkeys, hcounters]
  exact f.forward_refl

/-- A key slot goes forward where its new cells say so; the others stay. -/
theorem Fuse.setKey_forward {i : Fin 4} {k : KeySlot} (hr : f.keys[i].state.rank ≤ k.state.rank)
    (hd : f.keys[i].state ≠ .empty → k.digest = f.keys[i].digest) : f.forward (f.setKey i k) := by
  refine ⟨id, fun j => ?_, fun _ => le_rfl⟩
  by_cases hj : j = i
  · subst hj
    simpa [Fuse.setKey] using ⟨hr, hd⟩
  · have hkept : (f.setKey i k).keys[j] = f.keys[j] := Vector.getElem_set_ne i.2 j.2 fun h => hj (Fin.ext h.symm)
    rw [hkept]
    exact ⟨le_rfl, fun _ => rfl⟩

theorem Fuse.stepCounter_forward (f : Fuse) (c : Fin 8) : f.forward (f.stepCounter c) := by
  refine ⟨id, fun _ => ⟨le_rfl, fun _ => rfl⟩, fun d => ?_⟩
  by_cases hd : d = c
  · subst hd
    simp [Fuse.stepCounter]
  · exact (Vector.getElem_set_ne c.2 d.2 fun h => hd (Fin.ext h.symm)).ge

end

/-! ## The operation in progress (R173, R177) -/

/-- The operation is bound to no key slot, so that the law asks nothing of the cells for it. -/
def FuseOp.keyFree : FuseOp → Bool
  | .provision _ _ | .revoke _ => false
  | _ => true

section
variable {s t u : State}

theorem State.fuseLaw_iff (s : State) : s.fuseLaw ↔
    (∀ i d, s.fuse.op = some (.provision i d) → s.fuse.keys[i].state = .empty) ∧
    (∀ i, s.fuse.op = some (.revoke i) → s.fuse.keys[i].state = .active) := by
  unfold State.fuseLaw
  split
  · next i d ho => simp [ho]
  · next i ho => simp [ho]
  · next hp hr => exact iff_of_true trivial ⟨fun i d ho => (hp i d ho).elim, fun i ho => (hr i ho).elim⟩

theorem State.fuseLaw_of_keyFree (h : ∀ op, s.fuse.op = some op → op.keyFree = true) : s.fuseLaw :=
  s.fuseLaw_iff.2 ⟨fun _ _ ho => absurd (h _ ho) nofun, fun _ ho => absurd (h _ ho) nofun⟩

/-- The cells the operation in progress writes are a step forward, by the law (R171, R173). -/
theorem State.written_forward (hl : s.fuseLaw) {op : FuseOp} (ho : s.fuse.op = some op) :
    s.fuse.forward (s.fuse.written op) := by
  obtain ⟨hprovision, hrevoke⟩ := s.fuseLaw_iff.1 hl
  cases op with
  | provision i d =>
    have hempty := hprovision i d ho
    exact Fuse.setKey_forward (by rw [hempty]; exact Nat.zero_le _) fun h => absurd hempty h
  | revoke i =>
    have hactive := hrevoke i ho
    exact Fuse.setKey_forward (by rw [hactive]; exact Nat.le_succ _) fun _ => rfl
  | close => exact ⟨fun _ => rfl, fun _ => ⟨le_rfl, fun _ => rfl⟩, fun _ => le_rfl⟩
  | commit _ | demote _ | undemote | lockClear | lockSet => exact s.fuse.forward_refl

/-! ## What a step does to both -/

/-- From a state of the law: the one-way cells go forward and the law holds again. -/
def State.advances (s t : State) : Prop := s.fuseLaw → t.fuseLaw ∧ s.fuse.forward t.fuse

theorem State.advances_trans (h1 : s.advances t) (h2 : t.advances u) : s.advances u := fun h =>
  let ⟨ht, hst⟩ := h1 h
  let ⟨hu, htu⟩ := h2 ht
  ⟨hu, Fuse.forward_trans hst htu⟩

theorem State.advances_of_sameCells (hc : s.fuse.sameCells t.fuse)
    (ho : t.fuse.op = s.fuse.op ∨ ∀ op, t.fuse.op = some op → op.keyFree = true) : s.advances t := by
  refine fun h => ⟨?_, Fuse.forward_of_sameCells hc⟩
  rcases ho with ho | ho
  · rw [State.fuseLaw_iff, ho, hc.2.1]
    exact s.fuseLaw_iff.1 h
  · exact State.fuseLaw_of_keyFree ho

theorem State.advances_of_same (h : t.fuse = s.fuse) : s.advances t :=
  State.advances_of_sameCells (by rw [h]; exact ⟨rfl, rfl, rfl⟩) (.inl (by rw [h]))

/-- A change outside the fuse block may follow. -/
theorem State.advances_then (h : s.advances t) (hu : u.fuse = t.fuse) : s.advances u :=
  State.advances_trans h (State.advances_of_same hu)

/-- A change outside the fuse block may come first. -/
theorem State.advances_after (ht : t.fuse = s.fuse) (h : t.advances u) : s.advances u :=
  State.advances_trans (State.advances_of_same ht) h

/-! ## The programmer's work (R167, R173, R175) -/

/-- Whatever work the programmer takes, the one-way cells stay, and an operation it begins is bound to no key slot. -/
theorem takesWork_sameCells {l : Tables} {active : Option Bank} {g : Fuse} {work : List FuseItem} {f : Fuse}
    (h : takesWork l active g work f) :
    f.sameCells g ∧ (g.op = f.op ∨ ∀ op, g.op = some op → op.keyFree = true) := by
  induction work with
  | nil =>
    cases h
    split
    · exact ⟨⟨rfl, rfl, rfl⟩, .inr fun op ho => by cases ho; rfl⟩
    · exact ⟨⟨rfl, rfl, rfl⟩, .inl rfl⟩
  | cons item rest ih =>
    cases item with
    | demote | undemote =>
      cases h
      exact ⟨⟨rfl, rfl, rfl⟩, .inr fun op ho => by cases ho; rfl⟩
    | commit =>
      obtain ⟨todo, -, hnil, hcons⟩ := h
      by_cases ht : todo = []
      · exact ih (hnil ht)
      · cases hcons ht
        exact ⟨⟨rfl, rfl, rfl⟩, .inr fun op ho => by cases ho; rfl⟩

theorem State.fuseResume_advances (s : State) : s.advances s.fuseResume := by
  obtain ⟨-, htakes, hstays⟩ := s.fuseResume_spec
  cases hr : s.fuseReady
  · rw [hstays hr]
    exact State.advances_of_same rfl
  · obtain ⟨hcells, hop⟩ := takesWork_sameCells (htakes hr)
    exact State.advances_of_sameCells hcells hop

/-- An operation's end, its cells written: the programmer goes IDLE and takes its next work. -/
theorem State.endFuse_forward {f : Fuse} (hf : f.forward u.fuse) : u.endFuse.fuseLaw ∧ f.forward u.endFuse.fuse :=
  let idle := u.withFuse { u.fuse with op := none }
  let ⟨hlaw, hforward⟩ := idle.fuseResume_advances (State.fuseLaw_of_keyFree nofun)
  ⟨hlaw, Fuse.forward_trans (g := idle.fuse) hf hforward⟩

theorem Fuse.raise_cells (f : Fuse) (item : FuseItem) : f.sameCells (f.raise item) ∧ (f.raise item).op = f.op := by
  unfold Fuse.raise
  split <;> exact ⟨⟨rfl, rfl, rfl⟩, rfl⟩

/-- A command's operation begins. -/
theorem State.beginFuse_advances {op : FuseOp} (h : s.fuseLaw → (s.beginFuse op).fuseLaw) : s.advances (s.beginFuse op) :=
  fun hl => ⟨h hl, Fuse.forward_of_sameCells ⟨rfl, rfl, rfl⟩⟩

theorem State.beginFuse_keyFree {op : FuseOp} (h : op.keyFree = true) : s.advances (s.beginFuse op) :=
  State.beginFuse_advances fun _ => State.fuseLaw_of_keyFree fun _ ho => by cases ho; exact h

end

/-! ## The programmer's own commands (R172, R173) -/

section
variable (s : State)

/-- A step's end raises its counter; the COMMIT goes on with the counters left, or ends (R172, log 13). -/
theorem State.fuseStep_eq {s : State} {c : Fin 8} {n : Nat} {rest : List (Fin 8 × Nat)}
    (ho : s.fuse.op = some (.commit ((c, n) :: rest))) : s.fuseStep =
      if s.fuse.counters[c] + 1 < n then (s.withFuse (s.fuse.stepCounter c)).beginFuse (.commit ((c, n) :: rest))
      else if rest = [] then (s.withFuse (s.fuse.stepCounter c)).endFuse
      else (s.withFuse (s.fuse.stepCounter c)).beginFuse (.commit rest) := by
  have hraised : (s.fuse.stepCounter c).counters[c] = s.fuse.counters[c] + 1 := by simp [Fuse.stepCounter]
  simp only [State.fuseStep, ho, State.withFuse_fuse, hraised]
  by_cases hn : s.fuse.counters[c] + 1 < n
  · simp only [if_pos hn]
    rfl
  · simp only [if_neg hn, List.isEmpty_iff]

theorem State.fuseStep_advances : s.advances s.fuseStep := by
  by_cases hcommit : ∃ c n rest, s.fuse.op = some (.commit ((c, n) :: rest))
  · obtain ⟨c, n, rest, ho⟩ := hcommit
    have hstep := s.fuse.stepCounter_forward c
    have hgoes (left) : s.advances ((s.withFuse (s.fuse.stepCounter c)).beginFuse (.commit left)) := fun _ =>
      ⟨State.fuseLaw_of_keyFree fun op hop => by cases hop; rfl, hstep⟩
    rw [State.fuseStep_eq ho]
    split
    · exact hgoes _
    · split
      · exact fun _ => State.endFuse_forward hstep
      · exact hgoes _
  · unfold State.fuseStep
    split
    · next c n rest ho => exact absurd ⟨c, n, rest, ho⟩ hcommit
    · exact State.advances_of_same rfl

theorem State.fuseEnds_advances : s.advances s.fuseEnds := by
  unfold State.fuseEnds
  split
  · exact State.advances_of_same rfl
  · exact State.advances_of_same rfl
  · next ho => exact fun hl => State.endFuse_forward (State.written_forward hl ho)
  · next op _ _ ho => exact fun hl => State.endFuse_forward (State.written_forward hl ho)

/-! ## The commands that use the programmer (R177, R179, R180) -/

theorem State.provision_advances (slot : Byte) (digest : List Byte) : s.advances (s.provision slot digest).1 := by
  unfold State.provision
  split
  · exact State.advances_of_same rfl
  · split
    · exact State.advances_of_same rfl
    · split
      · exact State.advances_of_same rfl
      · next i _ _ hrefused =>
        have hempty : s.fuse.keys[i].state = .empty := not_not.1 fun h => hrefused (.inr h)
        exact State.beginFuse_advances fun _ => hempty

theorem State.revoke_advances (slot : Byte) : s.advances (s.revoke slot).1 := by
  unfold State.revoke
  split
  · exact State.advances_of_same rfl
  · split
    · exact State.advances_of_same rfl
    · split
      · exact State.advances_of_same rfl
      · next hactive => exact State.beginFuse_advances fun _ => not_not.1 hactive

theorem State.closeLifecycle_advances : s.advances s.closeLifecycle.1 := by
  unfold State.closeLifecycle
  split
  · exact State.advances_of_same rfl
  · split
    · exact State.advances_of_same rfl
    · exact State.beginFuse_keyFree rfl

theorem State.lock_advances : s.advances s.lock.1 := by
  unfold State.lock
  split
  · exact State.advances_of_same rfl
  · split
    · exact State.advances_of_same rfl
    · exact State.beginFuse_keyFree rfl

theorem State.answerFrame_advances {s : State} {act : State × List Byte} (h : s.advances act.1) :
    s.advances (s.answerFrame act) := by
  unfold State.answerFrame
  split
  · split
    · exact h
    · exact State.advances_of_same rfl
  all_goals exact State.advances_of_same rfl

end

end Sys2Proof.Machine
end

section
/-! Every step moves the one-way cells forward (R171, R172): whatever raises fuse work or lets the programmer take it leaves the
one-way cells as they are. -/

namespace Sys2Proof.Machine

section
variable (s : State)

/-! ## The gate and the boot states (R12 to R15, R159, R160, R167) -/

theorem State.raiseOpening_advances : s.advances s.raiseOpening := by
  obtain ⟨hcells, hop⟩ := s.fuse.raise_cells .commit
  obtain ⟨hcells', hop'⟩ := (s.fuse.raise .commit).raise_cells .undemote
  unfold State.raiseOpening
  dsimp only
  split
  · exact State.advances_of_sameCells (Fuse.sameCells_trans hcells hcells') (.inl (hop'.trans hop))
  · exact State.advances_of_sameCells hcells (.inl hop)

theorem State.openGate_advances : s.advances s.openGate :=
  State.advances_after (t := (s.withGate Gate.open_).loadPatrol) (by simp)
    (State.advances_trans (State.raiseOpening_advances _) (State.fuseResume_advances _))

theorem State.latchGate_advances (cause : GateCause) : s.advances (s.latchGate cause) := by
  by_cases hl : s.gate.state = .latched
  · rw [State.latchGate, if_pos hl]
    exact State.advances_of_same rfl
  · obtain ⟨hcells, hop⟩ := s.fuse.raise_cells .demote
    have hlatching : s.advances (s.latching cause) := State.advances_of_sameCells hcells (.inl hop)
    rw [State.latchGate_of_not_latched hl]
    exact State.advances_trans (State.advances_then hlatching (by simp)) (State.fuseResume_advances _)

theorem State.judgeOpening_advances : s.advances s.judgeOpening := by
  unfold State.judgeOpening
  split
  · exact s.openGate_advances
  · exact State.advances_of_same rfl

theorem State.enterReleased_advances : s.advances s.enterReleased := by
  have hreleasing : s.releasing.fuse = s.fuse := by simp [State.releasing]
  rw [State.enterReleased_eq]
  split
  · exact State.advances_after hreleasing (State.latchGate_advances _ _)
  · exact State.advances_after hreleasing (State.judgeOpening_advances _)

theorem State.enterPreverify_advances : s.advances s.enterPreverify := by
  unfold State.enterPreverify
  dsimp only
  split
  · exact State.advances_after (by simp) (State.enterReleased_advances _)
  · exact State.advances_of_same (by simp)

theorem State.endReset_advances (fsz swl : BitVec 2) (low : Bool) : s.advances (s.endReset fsz swl low) := by
  have hreset : s.advances (s.volatileReset fsz swl low) := State.advances_of_sameCells ⟨rfl, rfl, rfl⟩ (.inr nofun)
  unfold State.endReset
  dsimp only
  split <;> exact State.advances_then hreset (by simp)

/-! ## The walk and the manifests under judgement (R7 to R13, R26 to R39) -/

theorem State.walkOn_advances (fuel : Nat) : s.advances (State.walkOn fuel s) := by
  induction fuel generalizing s with
  | zero => exact State.advances_of_same rfl
  | succ n ih =>
    have hrun : (State.walkRun s.walkFuel s).fuse = s.fuse := by simp
    unfold State.walkOn
    dsimp only
    split
    · exact State.advances_after hrun (State.enterPreverify_advances _)
    · exact State.advances_after hrun (State.advances_after (by simp) (ih (State.walkRun s.walkFuel s).fallback))
    · exact State.advances_of_same hrun

theorem State.walkOnAll_advances : s.advances s.walkOnAll := s.walkOn_advances _

theorem State.fallbackAndWalk_advances : s.advances s.fallbackAndWalk :=
  State.advances_after (by simp) s.fallback.walkOnAll_advances

theorem State.endSelecting_advances : s.advances s.endSelecting := by
  unfold State.endSelecting
  split
  · dsimp only
    split
    · exact State.advances_of_same (by simp)
    · exact State.advances_after (by simp) (State.walkOnAll_advances _)
  · exact State.advances_of_same rfl

theorem State.rejectRoot_advances (k : Bank) (i : Fin 8) : s.advances (s.rejectRoot k i) :=
  State.advances_after (by simp) (State.endSelecting_advances _)

theorem State.dropDelegate_advances (j : DelegateJob) : s.advances (s.dropDelegate j) :=
  State.advances_after (by simp) (State.walkOnAll_advances _)

theorem State.manifestFilled_advances (i : Fin 8) : s.advances (s.manifestFilled i) := by
  unfold State.manifestFilled State.rootFilled State.delegateFilled
  split
  · split
    · exact State.advances_of_same (by simp)
    · exact s.rejectRoot_advances _ _
  · split
    · split
      · split
        · exact State.advances_of_same (by simp)
        · exact s.dropDelegate_advances _
      · exact State.advances_of_same rfl
    · exact State.advances_of_same rfl

theorem State.rootKeyed_advances (k : Bank) (i : Fin 8) (d : List Byte) : s.advances (s.rootKeyed k i d) := by
  unfold State.rootKeyed
  split
  · exact State.advances_of_same (by simp)
  · exact s.rejectRoot_advances _ _

theorem State.delegateKeyed_advances (j : DelegateJob) (d : List Byte) : s.advances (s.delegateKeyed j d) := by
  unfold State.delegateKeyed
  split
  · exact State.advances_of_same (by simp)
  · exact s.dropDelegate_advances _

theorem State.checked_advances (q : CheckRequest) (pass : Bool) : s.advances (s.checked q pass) := by
  unfold State.checked
  split
  · split
    · exact State.advances_after (by simp) (State.endSelecting_advances _)
    · exact s.rejectRoot_advances _ _
  · split
    · split
      · exact State.advances_after (by simp) (State.walkOnAll_advances _)
      · exact s.dropDelegate_advances _
    · exact State.advances_of_same rfl
  · exact State.advances_of_same rfl

/-! ## Verdicts (R49, R53, R78) -/

theorem State.regionChanged_advances (g : ImageRegion) : s.advances (s.regionChanged g) := by
  unfold State.regionChanged
  split
  · split
    · exact s.enterReleased_advances
    · exact State.advances_of_same rfl
  · split
    · exact s.fallbackAndWalk_advances
    · exact State.advances_of_same rfl
  · exact s.judgeOpening_advances
  · split
    · exact s.latchGate_advances _
    · exact State.advances_of_same rfl
  · exact State.advances_of_same rfl

theorem State.verdictRecorded_fuse (t : Tables) (bad : Bool) (record : Nat) :
    (s.verdictRecorded t bad record).fuse = s.fuse := by
  cases bad <;> simp [State.verdictRecorded]

theorem State.takeVerdict_advances (r c : Nat) (d : List Byte) : s.advances (s.takeVerdict r c d) := by
  cases hi : s.tables.image r with
  | none =>
    have hnone : s.takeVerdict r c d = s := by simp only [State.takeVerdict, hi]
    exact State.advances_of_same (congrArg State.fuse hnone)
  | some g =>
    rw [State.takeVerdict_eq hi]
    generalize s.tables.verdict r g (g.first + c) d = v
    have hrecorded := s.verdictRecorded_fuse v.1 v.2.1 (g.first + c)
    cases v.2.2 with
    | none => exact State.advances_of_same hrecorded
    | some x => exact State.advances_after hrecorded (State.regionChanged_advances _ x.2)

theorem State.finishList_advances (j : ListJob) : s.advances (s.finishList j) := by
  unfold State.finishList
  split <;> exact State.advances_after (by simp) (State.walkOnAll_advances _)

theorem State.pieceHashed_advances (i : Fin 8) (j : ListJob) : s.advances (s.pieceHashed i j) := by
  unfold State.pieceHashed
  dsimp only
  split
  · exact State.advances_after (by simp) (State.finishList_advances _ _)
  · exact State.advances_of_same (by simp)

/-! ## The commands' own operations -/

theorem State.engineNext_advances {s t : State} (h : s.advances t) : s.advances t.engineNext :=
  State.advances_then h (by simp)

theorem State.burstCounted_advances (i : Fin 8) : s.advances (s.burstCounted i) := by
  unfold State.burstCounted
  dsimp only
  split
  · exact State.advances_of_same (by simp)
  · split
    · exact State.advances_after (by simp) (State.manifestFilled_advances _ _)
    · exact State.advances_of_same (by simp)

theorem State.burstEnds_advances : s.advances s.burstEnds := by
  unfold State.burstEnds
  split
  · split
    · dsimp only
      split
      · exact State.advances_after (by simp) (State.burstCounted_advances _ _)
      · exact State.advances_of_same (by simp)
    · exact State.advances_of_same rfl
  · exact State.advances_of_same rfl

theorem State.chunkHashed_advances : s.advances s.chunkHashed := by
  unfold State.chunkHashed
  split
  · split
    · next i _ _ _ r c _ => exact State.advances_then (s.takeVerdict_advances r c (s.slotDigest i)) (by simp)
    all_goals exact State.advances_of_same rfl
  · exact State.advances_of_same rfl

theorem State.listHashed_advances : s.advances s.listHashed := by
  unfold State.listHashed
  split
  · split
    · exact State.engineNext_advances (s.pieceHashed_advances _ _)
    · exact State.advances_of_same rfl
  · exact State.advances_of_same rfl

theorem State.keyHashed_advances : s.advances s.keyHashed := by
  unfold State.keyHashed
  split
  · next i _ _ =>
    have hdone : (s.passDone i).fuse = s.fuse := by simp
    dsimp only
    split
    · exact State.engineNext_advances (State.advances_after hdone (State.rootKeyed_advances _ _ _ _))
    · split
      · exact State.engineNext_advances (State.advances_after hdone (State.delegateKeyed_advances _ _ _))
      · exact State.advances_of_same rfl
    · exact State.advances_of_same rfl
  · exact State.advances_of_same rfl

theorem State.checkEnds_advances : s.advances s.checkEnds := by
  unfold State.checkEnds
  split
  · exact State.advances_after (by simp) (State.checked_advances _ _ _)
  · exact State.advances_of_same rfl

theorem State.wipeAdvance_advances : s.advances s.wipeAdvance := by
  unfold State.wipeAdvance
  split
  · exact State.advances_of_sameCells ⟨rfl, rfl, rfl⟩ (.inl rfl)
  · exact State.advances_of_same rfl

/-- The wipe's last sector asks for its lock clear (R131, R134). -/
theorem State.wipeErased_advances (o : Operation) : s.advances (s.wipeErased o) := by
  have hdone : s.advances (s.sectorDone o) := State.advances_after (by simp) (State.wipeAdvance_advances _)
  rw [State.wipeErased_eq]
  exact State.advances_trans (State.advances_then hdone (by simp)) (State.fuseResume_advances _)

theorem State.judged_advances (o : Operation) (x : Judgement) : s.advances (s.judged o x) := by
  unfold State.judged
  split
  · exact State.advances_of_same (by simp)
  · exact State.advances_of_same (by simp)
  · split
    · exact State.advances_of_same (by simp)
    · exact s.wipeErased_advances o

theorem State.pollEnds_advances : s.advances s.pollEnds := by
  unfold State.pollEnds
  split
  · dsimp only
    split
    · exact State.advances_after (by simp) (State.judged_advances _ _ _)
    · exact State.advances_of_same (by simp)
  · dsimp only
    split <;> exact State.advances_of_same (by simp)
  · exact State.advances_of_same rfl

theorem State.supplyRises_advances : s.advances s.supplyRises := by
  rw [State.supplyRises_eq]
  exact State.advances_after (t := s.supplyRisen) rfl (State.fuseResume_advances _)

theorem State.bootExpires_advances : s.advances s.bootExpires := by
  unfold State.bootExpires
  split
  · dsimp only
    split
    · exact State.advances_after (t := s.timerWraps.withAlerts { s.alerts with late := true }) (by simp)
        (State.latchGate_advances _ _)
    · exact State.advances_of_same (by simp)
  · exact State.advances_of_same rfl

theorem State.tick_advances : s.advances s.tick := by
  have htimer : s.advances s.tickTimer := by
    unfold State.tickTimer
    split
    · split
      · split
        · exact State.advances_of_same (by simp)
        · exact s.bootExpires_advances
        · exact State.advances_of_same (by simp)
      · exact State.advances_of_same rfl
    · exact State.advances_of_same rfl
  exact State.advances_then (u := s.tickTimer.tickGate.pollRetries) htimer (by simp)

end

/-! ## Every command -/

theorem exec_advances {c : Instr} {s t : State} (h : exec c s = .next t) : s.advances t := by
  cases c with
  -- the programmer and the commands that use it
  | fuseStepEnd => rw [next_inj h]; exact s.fuseStep_advances
  | fuseOperationEnd => rw [next_inj h]; exact s.fuseEnds_advances
  | slProvision slot d => rw [next_inj h]; exact State.answerFrame_advances (s.provision_advances slot d)
  | slRevoke slot => rw [next_inj h]; exact State.answerFrame_advances (s.revoke_advances slot)
  | slClose => rw [next_inj h]; exact State.answerFrame_advances s.closeLifecycle_advances
  | slLock => rw [next_inj h]; exact State.answerFrame_advances s.lock_advances
  -- the commands that raise fuse work, ask for a lock clear or let the programmer take its work
  | partResetEnd fsz swl low =>
    rw [next_inj h]
    split
    · exact s.endReset_advances fsz swl low
    · exact State.advances_of_same rfl
  | supplyWarningRise =>
    rw [next_inj h]
    split
    · exact State.advances_of_same rfl
    · exact s.supplyRises_advances
  | bootDeadlineExpiry => rw [next_inj h]; exact s.bootExpires_advances
  | burstComplete => rw [next_inj h]; exact s.burstEnds_advances
  | chunkHashComplete => rw [next_inj h]; exact s.chunkHashed_advances
  | listPieceHashComplete => rw [next_inj h]; exact s.listHashed_advances
  | keyPassComplete => rw [next_inj h]; exact s.keyHashed_advances
  | signatureCheckEnd => rw [next_inj h]; exact s.checkEnds_advances
  | pollPairComplete => rw [next_inj h]; exact s.pollEnds_advances
  -- the commands that leave the fuse block alone
  | slStatus | slRegion _ | slChunks _ _ | slCapture | slCounters | slKeys | slWipe | slPatrol | slUnknown _ =>
    rw [next_inj h]
    exact State.answerFrame_advances (State.advances_of_same (by simp))
  | cpReadArrival _ | cpWriteArrival _ _ | elIdent | elUnknownCommand _ =>
    rw [next_inj h]
    split <;> exact State.advances_of_same (by simp)
  | crstInAssert => rw [next_inj h]; exact State.advances_of_same (by simp [State.crstAsserts])
  | powerOn _ | nrstFall | brownOutFall | brownOutRecovery | supplyWarningFall | crstInDeassert | intakeDeadlineExpiry
  | patrolIntervalExpiry | pgateHalfPeriod | flashGrant | burstWordBoundary | spanPassComplete | cpWordReturn
  | cpReadAbandon | cpAccessEnd | sequenceSent | flashOperationEnd _ _ | pollRetryTick | wipeSectorStart | elFrameBegin
  | elRead _ | elStatus | elReadByteBoundary | elStatusByteBoundary | elWordReturn | elFrameEnd | slFrameEnd
  | slFrameBegin =>
    rw [next_inj h]
    exact State.advances_of_same (by simp)

/-- Settles O11: the one-way cells change at the end of a fuse operation or of a COMMIT's step alone, and the law says that the
operation in progress writes them forward (`State.written_forward`); PROVISION and REVOKE begin on the cells that the law
asks for. -/
theorem everyStepMovesTheCellsForward : Obligations.EveryStepMovesTheCellsForward := by
  intro s t hl h
  obtain rfl | ⟨c, rest, h⟩ := step_cases h
  · exact s.tick_advances hl
  · exact exec_advances (s := s.withPending rest) h hl

end Sys2Proof.Machine
end

section
/-! The ends of fuse operations (R172 to R175, R134): the cells written, the wipe completed by its lock clear, and the
programmer's next work. -/

namespace Sys2Proof.Machine

/-! ## The programmer after an operation's end (R173) -/

/-- The command ends the operation in progress with these cells and this wipe: the programmer takes its next work where it may,
and else nothing more happens. -/
def State.opEnds (s : State) (c : Instr) (f : Fuse) (w : Wipe) : Prop :=
  (s.live = true → s.alerts.supplyLow = false → ∃ t, exec c s = .next t ∧ t = (s.withFuse t.fuse).withWipe w ∧
    takesWork s.tables s.boot.active t.fuse s.fuse.work { f with op := none }) ∧
  (s.live = false ∨ s.alerts.supplyLow = true → exec c s = .next ((s.withFuse { f with op := none }).withWipe w))

section
variable {s : State} {c : Instr} {f : Fuse} {w : Wipe}

theorem State.opEnds_of_endFuse (hw : f.work = s.fuse.work)
    (he : exec c s = .next ((s.withFuse f).withWipe w).endFuse) : s.opEnds c f w := by
  let idle := (s.withFuse { f with op := none }).withWipe w
  have hresumes : exec c s = .next idle.fuseResume := he
  obtain ⟨hframe, htakes, hstays⟩ := idle.fuseResume_spec
  refine ⟨fun hl ha => ⟨_, hresumes, hframe, hw ▸ htakes (idle.fuseReady_iff.2 ⟨hl, rfl, ha⟩)⟩, fun h => ?_⟩
  have hnot : idle.fuseReady = false := Bool.eq_false_iff.2 fun hready => by
    obtain ⟨hl, -, ha⟩ := idle.fuseReady_iff.1 hready
    rcases h with h | h
    · exact absurd hl (Bool.eq_false_iff.1 h)
    · exact absurd h (Bool.eq_false_iff.1 ha)
  rw [hresumes, hstays hnot]

/-- Whatever an operation writes, the work list stays. -/
theorem Fuse.written_work (f : Fuse) (op : FuseOp) : (f.written op).work = f.work := by cases op <;> rfl

/-! ## FUSE_STEP_END (R172) -/

section
variable {i : Fin 8} {n : Nat} {rest : List (Fin 8 × Nat)} (ho : s.fuse.op = some (.commit ((i, n) :: rest)))
include ho

theorem exec_fuseStepEnd_belowTarget (hn : s.fuse.counters[i] + 1 < n) :
    exec .fuseStepEnd s = .next (s.withFuse (s.fuse.stepCounter i)) := by
  have hgoes : ({ s.fuse.stepCounter i with op := some (.commit ((i, n) :: rest)) } : Fuse) = s.fuse.stepCounter i :=
    congrArg (fun op => { s.fuse.stepCounter i with op := op }) ho.symm
  refine congrArg Host.Outcome.next ((State.fuseStep_eq ho).trans ((if_pos hn).trans ?_))
  exact congrArg s.withFuse hgoes

theorem exec_fuseStepEnd_nextCounter (hn : n ≤ s.fuse.counters[i] + 1) (hr : rest ≠ []) :
    exec .fuseStepEnd s = .next (s.withFuse { s.fuse.stepCounter i with op := some (.commit rest) }) :=
  congrArg Host.Outcome.next ((State.fuseStep_eq ho).trans ((if_neg (Nat.not_lt.2 hn)).trans (if_neg hr)))

theorem exec_fuseStepEnd_ends (hn : n ≤ s.fuse.counters[i] + 1) (hr : rest = []) :
    s.opEnds .fuseStepEnd (s.fuse.stepCounter i) s.wipe :=
  State.opEnds_of_endFuse rfl
    (congrArg Host.Outcome.next ((State.fuseStep_eq ho).trans ((if_neg (Nat.not_lt.2 hn)).trans (if_pos hr))))

end

/-! ## FUSE_OPERATION_END (R134, R173) -/

/-- An operation that is no COMMIT with steps to come and no lock clear ends with its cells written. -/
theorem exec_fuseOperationEnd_writes {op : FuseOp} (ho : s.fuse.op = some op) (hcommit : ∀ x l, op ≠ .commit (x :: l))
    (hclear : op ≠ .lockClear) : s.opEnds .fuseOperationEnd (s.fuse.written op) s.wipe := by
  have hends : s.fuseEnds = (s.withFuse (s.fuse.written op)).endFuse := by
    unfold State.fuseEnds
    split
    · next hnone => cases hnone.symm.trans ho
    · next x l hsteps => exact absurd (Option.some.inj (ho.symm.trans hsteps)) (hcommit x l)
    · next hlock => exact absurd (Option.some.inj (ho.symm.trans hlock)) hclear
    · next o _ _ hother => rw [Option.some.inj (ho.symm.trans hother)]
  exact State.opEnds_of_endFuse (s.fuse.written_work op) (congrArg Host.Outcome.next hends)

/-- The lock clear's end completes a wipe in CLEARING; in HALTED and in a part reset the wipe keeps its state (log 36). -/
theorem exec_fuseOperationEnd_lockClear (ho : s.fuse.op = some .lockClear) :
    s.opEnds .fuseOperationEnd (s.fuse.written .lockClear) (if s.live then s.wipe.cleared else s.wipe) :=
  State.opEnds_of_endFuse rfl (congrArg Host.Outcome.next (by simp only [State.fuseEnds, ho]))

theorem State.wipeCleared_eq (s : State) : (if s.live then s.wipe.cleared else s.wipe) =
    if s.live = true ∧ s.wipe.state = .clearing then { s.wipe with state := .off, k := 0, last := .completed }
    else s.wipe := by
  cases s.live with
  | false => rfl
  | true => simp [Wipe.cleared]

end

/-- Settles O60: a COMMIT's step raises its counter and ends the COMMIT with the last one (`State.fuseStep_eq`), every other
operation ends with the cells of `Fuse.written`, and the IDLE programmer takes its next work where it may (`State.opEnds_of_endFuse`). -/
theorem theProgrammerWritesItsCells : Obligations.TheProgrammerWritesItsCells := by
  intro s ended
  refine ⟨fun c n rest ho => ?_, fun b ho => ?_, fun ho => ?_, fun ho => ?_, fun ho => ?_, fun i d ho => ?_,
    fun i ho => ?_, fun ho => ?_⟩
  · exact ⟨exec_fuseStepEnd_belowTarget ho, exec_fuseStepEnd_nextCounter ho, exec_fuseStepEnd_ends ho⟩
  · exact exec_fuseOperationEnd_writes ho nofun nofun
  · exact exec_fuseOperationEnd_writes ho nofun nofun
  · exact exec_fuseOperationEnd_writes ho nofun nofun
  · exact s.wipeCleared_eq ▸ exec_fuseOperationEnd_lockClear ho
  · exact exec_fuseOperationEnd_writes ho nofun nofun
  · exact exec_fuseOperationEnd_writes ho nofun nofun
  · exact exec_fuseOperationEnd_writes ho nofun nofun

end Sys2Proof.Machine
end

section
/-! Frames of the Service Link (R176, R178, R181): what SL_DOUT sends, the decision event, and the commands that report. -/

namespace Sys2Proof.Machine

/-! ## SL_DOUT (R176, R181) -/

section
variable (l : ServiceLink) (n : Nat)

theorem ServiceLink.dout_of_deselected (h : l.selected = false) (k : Nat) : l.dout n k = false := by
  simp [ServiceLink.dout, h]

/-- The outgoing byte, most significant bit first. -/
theorem ServiceLink.dout_of_selected (h : l.selected = true) {k : Nat} (hk : k < 8) :
    l.dout n k = (l.sends n).getLsbD (7 - k) := by
  simp [ServiceLink.dout, h, BitVec.getMsbD, hk]

variable {l}

theorem ServiceLink.sends_receiving (h : l.frame = .receiving) : l.sends n = 0x00#8 := by simp [ServiceLink.sends, h]

theorem ServiceLink.sends_decided {bytes : List Byte} (h : l.frame = .decided bytes) : l.sends n = bytes.getD n 0x00#8 := by
  simp only [ServiceLink.sends, h]

end

/-! ## The decision event (R176) -/

section
variable {s : State}

/-- A frame begun outside a part reset receives its command. -/
theorem State.slBegins_receives (hd : s.sl.selected = false) (hr : s.lines.inReset = false) :
    s.slBegins = s.withSl { selected := true, frame := .receiving } := by
  simp [State.slBegins, hd, hr]

/-- In HALTED and in a part reset the frame is decided without a response. -/
theorem State.answerFrame_discards (hf : s.sl.frame = .receiving) (hs : s.live = false) (act : State × List Byte) :
    s.answerFrame act = s.withSl { s.sl with frame := .decided [] } := by
  simp [State.answerFrame, hf, hs]

/-- One frame carries one command (R176, log 1). -/
theorem State.answerFrame_ignores (hf : s.sl.frame ≠ .receiving) (act : State × List Byte) : s.answerFrame act = s := by
  unfold State.answerFrame
  split
  · next h => exact absurd h hf
  all_goals rfl

variable (s)

/-- Each command of the link is the decision event of its frame. -/
theorem exec_decidesFrame (n slot code : Byte) (start : Word) (digest : List Byte) :
    ∀ c ∈ [Instr.slStatus, .slRegion n, .slChunks n start, .slCapture, .slCounters, .slKeys, .slProvision slot digest,
        .slRevoke slot, .slClose, .slLock, .slWipe, .slPatrol, .slUnknown code],
      ∃ act, exec c s = .next (s.answerFrame act) := by
  intro c hc
  simp only [List.mem_cons, List.not_mem_nil, or_false] at hc
  rcases hc with rfl | rfl | rfl | rfl | rfl | rfl | rfl | rfl | rfl | rfl | rfl | rfl | rfl <;> exact ⟨_, rfl⟩

variable {s} {c : Instr} (hf : s.sl.frame = .receiving) (hs : s.live = true)
include hf hs

/-- The decision event in a live part: the command's effect, and its response in the frame. -/
theorem exec_answers {act : State × List Byte} (hc : exec c s = .next (s.answerFrame act)) {t : State} {bytes : List Byte}
    (ha : act = (t, bytes)) : exec c s = .next (t.withSl { s.sl with frame := .decided bytes }) := by
  rw [hc, State.answerFrame_of_live hs hf, ha]

/-! ## The commands that report (R55, R178) -/

theorem exec_slRegion_reports {n : Byte} {r : Region} (hr : s.tables.regions[n.toNat]? = some r) :
    exec (.slRegion n) s = .next (s.withSl { s.sl with frame := .decided (resultOk :: r.record) }) :=
  exec_answers hf hs rfl (by simp only [State.regionResponse, hr])

theorem exec_slRegion_badArg {n : Byte} (hr : s.tables.regions[n.toNat]? = none) :
    exec (.slRegion n) s = .next (s.withSl { s.sl with frame := .decided [resultBadArg] }) :=
  exec_answers hf hs rfl (by simp only [State.regionResponse, hr])

theorem exec_slChunks_reports {n : Byte} {start : Word} {g : ImageRegion} (hg : s.tables.image n.toNat = some g)
    (hc : start.toNat < g.count) : exec (.slChunks n start) s =
      .next (s.withSl { s.sl with frame := .decided (resultOk :: s.tables.chunksRecord g start.toNat) }) :=
  exec_answers hf hs rfl (by simp only [State.chunksResponse, hg, if_pos hc])

theorem exec_slChunks_noImage {n : Byte} (start : Word) (hg : s.tables.image n.toNat = none) :
    exec (.slChunks n start) s = .next (s.withSl { s.sl with frame := .decided [resultBadArg] }) :=
  exec_answers hf hs rfl (by simp only [State.chunksResponse, hg])

theorem exec_slChunks_noChunk {n : Byte} {start : Word} {g : ImageRegion} (hg : s.tables.image n.toNat = some g)
    (hc : g.count ≤ start.toNat) :
    exec (.slChunks n start) s = .next (s.withSl { s.sl with frame := .decided [resultBadArg] }) :=
  exec_answers hf hs rfl (by simp only [State.chunksResponse, hg, if_neg (Nat.not_lt.2 hc)])

end

/-- Settles O56: SL_DOUT is `ServiceLink.dout` of the byte that `ServiceLink.sends` gives; every command is the decision event
of its frame (`exec_decidesFrame`), which a live part answers (`exec_answers`), a stopped one discards and a decided frame ignores. -/
theorem theServiceLinkReports : Obligations.TheServiceLinkReports := by
  intro s sent
  refine ⟨fun hd hr => congrArg Host.Outcome.next (State.slBegins_receives hd hr), rfl, fun n => ⟨fun k hk => ?_, ?_, ?_⟩,
    fun n slot code start digest c hc => ?_, fun hf hs => ?_⟩
  · exact ⟨fun h => s.sl.dout_of_deselected n h k, fun h => s.sl.dout_of_selected n h hk⟩
  · exact ServiceLink.sends_receiving n
  · exact fun _ => ServiceLink.sends_decided n
  · obtain ⟨act, hexec⟩ := exec_decidesFrame s n slot code start digest c hc
    rw [hexec]
    exact ⟨fun hf hs => congrArg Host.Outcome.next (State.answerFrame_discards hf hs act),
      fun hf => congrArg Host.Outcome.next (State.answerFrame_ignores hf act)⟩
  · have hanswers {c : Instr} {bytes : List Byte} (hc : exec c s = .next (s.answerFrame (s, bytes))) :
        exec c s = .next (sent bytes) := exec_answers hf hs hc rfl
    refine ⟨hanswers rfl, fun _ => hanswers rfl, hanswers rfl, hanswers rfl, fun n => ?_, fun n start => ?_⟩
    · exact ⟨fun _ => exec_slRegion_reports hf hs, exec_slRegion_badArg hf hs⟩
    · exact ⟨fun _ => exec_slChunks_reports hf hs, exec_slChunks_noImage hf hs start, fun _ => exec_slChunks_noChunk hf hs⟩

end Sys2Proof.Machine
end

section
/-! The Service Link's commands that use the programmer, and WIPE (R130, R177, R179, R180): the checks in their order, and the
effect. -/

namespace Sys2Proof.Machine

/-! ## The checks (R177) -/

theorem keySlotArg_badArg {n : Byte} (h : 4 ≤ n.toNat) : keySlotArg n = none := dif_neg (Nat.not_lt.2 h)

theorem keySlotArg_slot : ∀ i : Fin 4, keySlotArg (BitVec.ofNat 8 i.val) = some i := by decide

theorem State.programmerBusy_iff (s : State) : s.programmerBusy = true ↔
    s.fuse.op.isSome = true ∨ s.fuse.work ≠ [] ∨ s.fuse.lockClear = true ∨ s.alerts.supplyLow = true := by
  simp [State.programmerBusy, or_assoc]

theorem Fuse.anyActive_iff (f : Fuse) : f.anyActive = true ↔ ∃ i : Fin 4, f.keys[i].state = .active := by
  simp only [Fuse.anyActive, List.any_eq_true, decide_eq_true_eq, Vector.mem_toList_iff]
  constructor
  · rintro ⟨k, hk, ha⟩
    obtain ⟨n, hn, rfl⟩ := Vector.getElem_of_mem hk
    exact ⟨⟨n, hn⟩, ha⟩
  · rintro ⟨i, ha⟩
    exact ⟨_, Vector.getElem_mem i.isLt, ha⟩

theorem Fuse.lockSettled_iff (f : Fuse) : f.lockSettled = true ↔
    f.lock = true ∧ f.lockClear = false ∧ f.op ≠ some .lockClear := by
  simp [Fuse.lockSettled, and_assoc]

/-! ## Result and effect (R177, R179, R180) -/

section
variable {s : State} (i : Fin 4) (d : List Byte)

theorem State.provision_badArg {n : Byte} (h : 4 ≤ n.toNat) : s.provision n d = (s, [resultBadArg]) := by
  simp only [State.provision, keySlotArg_badArg h]

theorem State.revoke_badArg {n : Byte} (h : 4 ≤ n.toNat) : s.revoke n = (s, [resultBadArg]) := by
  simp only [State.revoke, keySlotArg_badArg h]

theorem State.provision_slot : s.provision (BitVec.ofNat 8 i.val) d =
    if s.programmerBusy then (s, [resultBusy])
    else if s.fuse.lifecycle = .deployed ∨ s.fuse.keys[i].state ≠ .empty then (s, [resultRefused])
    else (s.beginFuse (.provision i d), [resultOk]) := by
  simp only [State.provision, keySlotArg_slot]

theorem State.revoke_slot : s.revoke (BitVec.ofNat 8 i.val) =
    if s.programmerBusy then (s, [resultBusy])
    else if s.fuse.keys[i].state ≠ .active then (s, [resultRefused])
    else (s.beginFuse (.revoke i), [resultOk]) := by
  simp only [State.revoke, keySlotArg_slot]

section
variable (hb : s.programmerBusy = true)
include hb

theorem State.provision_busy : s.provision (BitVec.ofNat 8 i.val) d = (s, [resultBusy]) :=
  (State.provision_slot i d).trans (if_pos hb)

theorem State.revoke_busy : s.revoke (BitVec.ofNat 8 i.val) = (s, [resultBusy]) := (State.revoke_slot i).trans (if_pos hb)

theorem State.closeLifecycle_busy : s.closeLifecycle = (s, [resultBusy]) := if_pos hb

theorem State.lock_busy (hl : ¬ s.fuse.lockSettled = true) : s.lock = (s, [resultBusy]) :=
  (if_neg hl).trans (if_pos hb)

end

section
variable (hb : ¬ s.programmerBusy = true)
include hb

theorem State.provision_refused (h : s.fuse.lifecycle = .deployed ∨ s.fuse.keys[i].state ≠ .empty) :
    s.provision (BitVec.ofNat 8 i.val) d = (s, [resultRefused]) :=
  (State.provision_slot i d).trans ((if_neg hb).trans (if_pos h))

theorem State.provision_begins (hl : s.fuse.lifecycle = .factory) (hk : s.fuse.keys[i].state = .empty) :
    s.provision (BitVec.ofNat 8 i.val) d = (s.beginFuse (.provision i d), [resultOk]) := by
  rw [State.provision_slot, if_neg hb, if_neg (by simpa [hl] using hk)]

theorem State.revoke_refused (h : s.fuse.keys[i].state ≠ .active) :
    s.revoke (BitVec.ofNat 8 i.val) = (s, [resultRefused]) :=
  (State.revoke_slot i).trans ((if_neg hb).trans (if_pos h))

theorem State.revoke_begins (h : s.fuse.keys[i].state = .active) :
    s.revoke (BitVec.ofNat 8 i.val) = (s.beginFuse (.revoke i), [resultOk]) :=
  (State.revoke_slot i).trans ((if_neg hb).trans (if_neg (not_not.2 h)))

theorem State.closeLifecycle_refused
    (h : s.fuse.lifecycle = .deployed ∨ ∀ i : Fin 4, s.fuse.keys[i].state ≠ .active) :
    s.closeLifecycle = (s, [resultRefused]) :=
  (if_neg hb).trans (if_pos (h.imp_right fun hnone hany =>
    let ⟨i, hi⟩ := s.fuse.anyActive_iff.1 hany
    hnone i hi))

theorem State.closeLifecycle_begins (hl : s.fuse.lifecycle = .factory) (h : ∃ i : Fin 4, s.fuse.keys[i].state = .active) :
    s.closeLifecycle = (s.beginFuse .close, [resultOk]) := by
  rw [State.closeLifecycle, if_neg hb, if_neg (by simp [hl, s.fuse.anyActive_iff.2 h])]

theorem State.lock_begins (hl : ¬ s.fuse.lockSettled = true) : s.lock = (s.beginFuse .lockSet, [resultOk]) :=
  (if_neg hl).trans (if_neg hb)

end

theorem State.lock_settled (hl : s.fuse.lockSettled = true) : s.lock = (s, [resultOk]) := if_pos hl

/-! ## WIPE (R130, R180) -/

theorem State.startWipe_refused (h : s.boot.state ≠ .released ∨ (s.wipe.state ≠ .off ∧ s.wipe.state ≠ .failed)) :
    s.startWipe = (s, [resultRefused]) :=
  if_pos (h.imp_right s.wipe.state.running_iff.2)

/-- The wipe of the inactive bank begins at sector 0. -/
theorem State.startWipe_begins {b : Bank} (hr : s.boot.state = .released) (ha : s.boot.active = some b)
    (hw : s.wipe.state = .off ∨ s.wipe.state = .failed) : s.startWipe = (s.withWipe
      { s.wipe with state := if s.alerts.supplyLow then .suspended else .waiting, k := 0, bank := some b.other },
      [resultOk]) := by
  have hnot : ¬ (s.boot.state ≠ .released ∨ s.wipe.state.running = true) := by
    rw [WipeState.running_iff]
    rintro (hn | ⟨hoff, hfailed⟩)
    · exact hn hr
    · exact hw.elim hoff hfailed
  rw [State.startWipe, if_neg hnot, ha]
  rfl

end

/-- Settles O59: each command is its result and effect in the frame (`exec_answers`), by the checks in R177's order
(`State.provision_slot`, `State.revoke_slot`, and `State.closeLifecycle`, `State.lock` and `State.startWipe` as they stand). -/
theorem theServiceLinkOrdersFuseWorkAndTheWipe : Obligations.TheServiceLinkOrdersFuseWorkAndTheWipe := by
  intro s hf hs sent busy begun
  have hbusy : busy ↔ s.programmerBusy = true := s.programmerBusy_iff.symm
  have hanswers {c : Instr} {act : State × List Byte} {t : State} {b : Byte}
      (hc : exec c s = .next (s.answerFrame act)) (ha : act = (t, [b])) : exec c s = .next (sent b t) :=
    exec_answers hf hs hc ha
  refine ⟨fun n d hn => ?_, fun i d => ⟨fun hb => ?_, fun hb => ?_⟩, fun hb => ?_, fun hb => ?_, ?_, fun h => ?_,
    fun b hr ha hw => ?_⟩
  · exact ⟨hanswers rfl (State.provision_badArg d hn), hanswers rfl (State.revoke_badArg hn)⟩
  · rw [hbusy] at hb
    exact ⟨hanswers rfl (State.provision_busy i d hb), hanswers rfl (State.revoke_busy i hb)⟩
  · rw [hbusy] at hb
    exact ⟨fun h => hanswers rfl (State.provision_refused i d hb h),
      fun hl hk => hanswers rfl (State.provision_begins i d hb hl hk),
      fun hk => hanswers rfl (State.revoke_refused i hb hk), fun hk => hanswers rfl (State.revoke_begins i hb hk)⟩
  · exact hanswers rfl (State.closeLifecycle_busy (hbusy.1 hb))
  · rw [hbusy] at hb
    exact ⟨fun h => hanswers rfl (State.closeLifecycle_refused hb h),
      fun hl h => hanswers rfl (State.closeLifecycle_begins hb hl h)⟩
  · intro settled
    have hsettled : settled ↔ s.fuse.lockSettled = true := s.fuse.lockSettled_iff.symm
    rw [hsettled, hbusy]
    exact ⟨fun h => hanswers rfl (State.lock_settled h), fun h hb => hanswers rfl (State.lock_busy hb h),
      fun h hb => hanswers rfl (State.lock_begins hb h)⟩
  · exact hanswers rfl (State.startWipe_refused h)
  · exact hanswers rfl (State.startWipe_begins hr ha hw)

end Sys2Proof.Machine
end

section
/-! The queue of commands: a step runs its front command, no command's meaning reaches the rest, and every step answers
(spec/95_what_each_step_holds.md). -/

namespace Sys2Proof.Machine

section
variable (s : State)

/-! ## The operations that build a state of their own, or answer a frame -/

theorem State.crstAsserts_pending : s.crstAsserts.pending = s.pending := by simp [State.crstAsserts]

/-- The end of a part reset gives the volatile state its values (R3) and keeps the queue. -/
theorem State.endReset_pending (fsz swl : BitVec 2) (low : Bool) : (s.endReset fsz swl low).pending = s.pending := by
  have hreset : (s.volatileReset fsz swl low).pending = s.pending := rfl
  unfold State.endReset
  dsimp only
  split <;> simp [hreset]

variable {s}

/-- A Service Link response leaves the queue as the command's own effect does. -/
theorem State.answerFrame_pending {act : State × List Byte} (ha : act.1.pending = s.pending) :
    (s.answerFrame act).pending = s.pending := by
  unfold State.answerFrame
  split
  · split
    · exact ha
    · rfl
  all_goals rfl

end

/-! ## Every command -/

/-- Every command answers a next state and leaves the queue as it is. -/
theorem exec_answers_keepsPending (c : Instr) (s : State) : ∃ t, exec c s = .next t ∧ t.pending = s.pending := by
  cases c with
  | partResetEnd fsz swl low =>
    refine ⟨_, rfl, ?_⟩
    split
    · exact s.endReset_pending fsz swl low
    · rfl
  | crstInAssert => exact ⟨_, rfl, s.crstAsserts_pending⟩
  | slStatus | slRegion _ | slChunks _ _ | slCapture | slCounters | slKeys | slProvision _ _ | slRevoke _ | slClose
  | slLock | slWipe | slPatrol | slUnknown _ => exact ⟨_, rfl, State.answerFrame_pending (by simp)⟩
  | supplyWarningRise | cpReadArrival _ | cpWriteArrival _ _ | elIdent | elUnknownCommand _ =>
    refine ⟨_, rfl, ?_⟩
    split <;> simp
  | powerOn _ | nrstFall | brownOutFall | brownOutRecovery | supplyWarningFall | crstInDeassert | intakeDeadlineExpiry
  | bootDeadlineExpiry | patrolIntervalExpiry | pgateHalfPeriod | flashGrant | burstWordBoundary | burstComplete
  | chunkHashComplete | listPieceHashComplete | keyPassComplete | spanPassComplete | signatureCheckEnd | cpWordReturn
  | cpReadAbandon | cpAccessEnd | sequenceSent | flashOperationEnd _ _ | pollPairComplete | pollRetryTick
  | wipeSectorStart | elFrameBegin | elRead _ | elStatus | elReadByteBoundary | elStatusByteBoundary | elWordReturn
  | elFrameEnd | slFrameEnd | slFrameBegin | fuseStepEnd | fuseOperationEnd =>
    exact ⟨_, rfl, by simp⟩

/-! ## One step -/

theorem step_of_command (c : Instr) (rest : List Instr) (s : State) :
    step (s.withPending (c :: rest)) = exec c (s.withPending rest) := rfl

theorem step_of_empty {s : State} (h : s.pending = []) : step s = .next s.tick := by
  rw [step, h]

/-- Settles O1: `step` looks at the queue alone to choose its command. -/
theorem stepRunsTheCommandAtTheFront : Obligations.StepRunsTheCommandAtTheFront := step_of_command

/-- Settles O2: a tick leaves the empty queue empty, and the front command, run with the queue's rest, leaves that rest
(`exec_answers_keepsPending`). -/
theorem everyStepAnswersAndTakesOneCommand : Obligations.EveryStepAnswersAndTakesOneCommand := by
  intro s
  cases hq : s.pending with
  | nil => exact ⟨s.tick, step_of_empty hq, by simp [hq]⟩
  | cons c rest =>
    obtain ⟨t, ht, hrest⟩ := exec_answers_keepsPending c (s.withPending rest)
    have hs : s = s.withPending (c :: rest) := hq ▸ s.withPending_self.symm
    exact ⟨t, by rw [hs, step_of_command]; exact ht, hrest⟩

end Sys2Proof.Machine
end

section
/-! The bytes of the link commands (R137, R176, R185, R186): the frames that decode, the length that a frame's first byte fixes, and
the bits that make its bytes. -/

namespace Sys2Proof

/-! ## Words and addresses by their bytes -/

theorem Word.append_bytes (w : Word) : w.extractLsb' 8 8 ++ w.extractLsb' 0 8 = w :=
  BitVec.extractLsb'_append_extractLsb' (w := 8) (len := 8)

theorem Addr.append_bytes (a : Addr) : a.extractLsb' 16 8 ++ a.extractLsb' 8 8 ++ a.extractLsb' 0 8 = a := by
  have hhigh : a.extractLsb' 16 8 ++ a.extractLsb' 8 8 = a.extractLsb' 8 16 :=
    BitVec.extractLsb'_append_extractLsb'_eq_extractLsb' rfl
  rw [hhigh]
  exact BitVec.extractLsb'_append_extractLsb' (w := 16) (len := 8)

/-- The bytes of an address made of three. -/
theorem Addr.bytes_of_append (high mid low : Byte) :
    (high ++ mid ++ low).extractLsb' 16 8 = high ∧ (high ++ mid ++ low).extractLsb' 8 8 = mid ∧
    (high ++ mid ++ low).extractLsb' 0 8 = low := by
  refine ⟨?_, ?_, BitVec.extractLsb'_append_eq_right⟩
  · rw [BitVec.extractLsb'_append_eq_of_le (by decide)]
    exact BitVec.extractLsb'_append_eq_left
  · rw [BitVec.extractLsb'_append_eq_of_le (by decide)]
    exact BitVec.extractLsb'_append_eq_right

/-! ## Frames whose length the first byte fixes -/

/-- No command's bytes begin another's, where the first byte fixes how many argument bytes follow it. -/
theorem decode_none_of_shorter {decode : List Byte → Option Instr} {arguments : Byte → Nat} (hnil : decode [] = none)
    (hlen : ∀ {b rest c}, decode (b :: rest) = some c → rest.length = arguments b) {p more : List Byte} {c : Instr}
    (h : decode (p ++ more) = some c) (hmore : more ≠ []) : decode p = none := by
  cases p with
  | nil => exact hnil
  | cons b rest =>
    rw [Option.eq_none_iff_forall_ne_some]
    intro d hd
    have hwhole : (rest ++ more).length = arguments b := hlen h
    rw [List.length_append, hlen hd] at hwhole
    exact hmore (List.length_eq_zero_iff.1 (by omega))

/-! ## Engine Link commands (R138, R185) -/

/-- The argument bytes of an Engine Link command by its code (R185). -/
def elArgumentBytes (code : Byte) : Nat := if code = elReadCode then 3 else 0

theorem elEncode_elRead (a : Addr) :
    elEncode (.elRead a) = some [elReadCode, a.extractLsb' 16 8, a.extractLsb' 8 8, a.extractLsb' 0 8] := rfl

section
variable {bytes : List Byte} {c : Instr}

/-- The frames that decode: READ with its address, and a command byte alone. -/
theorem elDecode_cases (h : elDecode bytes = some c) :
    (∃ high mid low, bytes = [elReadCode, high, mid, low] ∧ c = .elRead (high ++ mid ++ low)) ∨
    (bytes = [elStatusCode] ∧ c = .elStatus) ∨ (bytes = [elIdentCode] ∧ c = .elIdent) ∨
    ∃ b, b ∉ elCommandCodes ∧ bytes = [b] ∧ c = .elUnknownCommand b := by
  unfold elDecode at h
  split at h
  · next b =>
    split_ifs at h with hread hstatus hident
    · cases h; exact .inr (.inl ⟨by rw [hstatus], rfl⟩)
    · cases h; exact .inr (.inr (.inl ⟨by rw [hident], rfl⟩))
    · cases h
      refine .inr (.inr (.inr ⟨b, ?_, rfl, rfl⟩))
      simpa [elCommandCodes] using ⟨hread, hstatus, hident⟩
  · split_ifs at h with hread
    cases h
    exact .inl ⟨_, _, _, by rw [hread], rfl⟩
  · cases h

theorem elDecode_unknown {b : Byte} (h : b ∉ elCommandCodes) : elDecode [b] = some (.elUnknownCommand b) := by
  simp only [elCommandCodes, List.mem_cons, List.not_mem_nil, or_false, not_or] at h
  obtain ⟨hread, hstatus, hident⟩ := h
  exact (if_neg hread).trans ((if_neg hstatus).trans (if_neg hident))

/-- What decodes is spelled by the bytes it decodes from. -/
theorem elEncode_of_elDecode (h : elDecode bytes = some c) : elEncode c = some bytes ∧ c.wellFormed = true := by
  obtain ⟨high, mid, low, rfl, rfl⟩ | ⟨rfl, rfl⟩ | ⟨rfl, rfl⟩ | ⟨b, hb, rfl, rfl⟩ := elDecode_cases h
  · obtain ⟨hhigh, hmid, hlow⟩ := Addr.bytes_of_append high mid low
    exact ⟨by rw [elEncode_elRead, hhigh, hmid, hlow], rfl⟩
  · exact ⟨rfl, rfl⟩
  · exact ⟨rfl, rfl⟩
  · exact ⟨rfl, by simpa [Instr.wellFormed] using hb⟩

theorem elDecode_of_elEncode (hw : c.wellFormed = true) (h : elEncode c = some bytes) : elDecode bytes = some c := by
  cases c with
  | elRead a =>
    cases h
    rw [elDecode, if_pos rfl, Addr.append_bytes]
  | elStatus | elIdent => cases h; rfl
  | elUnknownCommand code =>
    cases h
    exact elDecode_unknown (by simpa [Instr.wellFormed] using hw)
  | _ => cases h

theorem elDecode_length {b : Byte} {rest : List Byte} (h : elDecode (b :: rest) = some c) :
    rest.length = elArgumentBytes b := by
  obtain ⟨high, mid, low, hbytes, -⟩ | ⟨hbytes, -⟩ | ⟨hbytes, -⟩ | ⟨code, hcode, hbytes, -⟩ := elDecode_cases h
  · cases hbytes; rfl
  · cases hbytes; rfl
  · cases hbytes; rfl
  · cases hbytes
    have hread : b ≠ elReadCode := fun hread => hcode (by rw [hread]; decide)
    exact (if_neg hread).symm

end

/-! ## Service Link commands (R176, R177, R186) -/

/-- The argument bytes of a Service Link command by its code (R186). -/
def slArgumentBytes (code : Byte) : Nat :=
  if code = 0x11#8 ∨ code = 0x21#8 then 1 else if code = 0x12#8 then 3 else if code = 0x20#8 then 33 else 0

theorem slEncode_slChunks (n : Byte) (start : Word) :
    slEncode (.slChunks n start) = some [0x12#8, n, start.extractLsb' 0 8, start.extractLsb' 8 8] := rfl

section
variable {bytes : List Byte} {c : Instr}

/-- A command of one byte: its code has no arguments and spells it. -/
theorem slPlain_some {b : Byte} (h : slPlain b = some c) :
    slEncode c = some [b] ∧ c.wellFormed = true ∧ slArgumentBytes b = 0 := by
  unfold slPlain at h
  split_ifs at h with h10 h13 h14 h15 h22 h23 h24 h25 hcode
  case neg =>
    cases h
    have hnot (d : Byte) (hd : d ∈ slCommandCodes) : b ≠ d := fun hb => hcode (by simpa [hb] using hd)
    refine ⟨rfl, by simpa [Instr.wellFormed] using hcode, ?_⟩
    simp [slArgumentBytes, hnot 0x11#8 (by decide), hnot 0x21#8 (by decide), hnot 0x12#8 (by decide),
      hnot 0x20#8 (by decide)]
  all_goals subst_vars; cases h; exact ⟨rfl, rfl, rfl⟩

theorem slPlain_unknown {b : Byte} (h : b ∉ slCommandCodes) : slPlain b = some (.slUnknown b) := by
  have hnot (d : Byte) (hd : d ∈ slCommandCodes) : b ≠ d := fun hb => h (hb ▸ hd)
  simp (disch := decide) [slPlain, hnot, h]

/-- The frames that decode: a command byte alone, or one with the arguments of its code. -/
theorem slDecode_cases (h : slDecode bytes = some c) :
    (∃ b, bytes = [b] ∧ slPlain b = some c) ∨ (∃ n, bytes = [0x11#8, n] ∧ c = .slRegion n) ∨
    (∃ slot, bytes = [0x21#8, slot] ∧ c = .slRevoke slot) ∨
    (∃ n low high, bytes = [0x12#8, n, low, high] ∧ c = .slChunks n (high ++ low)) ∨
    ∃ slot digest, digest.length = 32 ∧ bytes = 0x20#8 :: slot :: digest ∧ c = .slProvision slot digest := by
  unfold slDecode at h
  split at h
  · cases h
  · exact .inl ⟨_, rfl, h⟩
  · split_ifs at h with hregion hrevoke
    · cases h; exact .inr (.inl ⟨_, by rw [hregion], rfl⟩)
    · cases h; exact .inr (.inr (.inl ⟨_, by rw [hrevoke], rfl⟩))
  · split_ifs at h with hchunks
    cases h
    exact .inr (.inr (.inr (.inl ⟨_, _, _, by rw [hchunks], rfl⟩)))
  · split_ifs at h with hprovision
    obtain ⟨hcode, hdigest⟩ := hprovision
    cases h
    exact .inr (.inr (.inr (.inr ⟨_, _, hdigest, by rw [hcode], rfl⟩)))

/-- PROVISION's 32 digest bytes make it longer than the commands of two and of four bytes. -/
theorem slDecode_provision (slot : Byte) {digest : List Byte} (h : digest.length = 32) :
    slDecode (0x20#8 :: slot :: digest) = some (.slProvision slot digest) := by
  match digest, h with
  | x :: y :: z :: rest, h => exact if_pos ⟨rfl, h⟩

/-- What decodes is spelled by the bytes it decodes from. -/
theorem slEncode_of_slDecode (h : slDecode bytes = some c) : slEncode c = some bytes ∧ c.wellFormed = true := by
  obtain ⟨b, rfl, hb⟩ | ⟨n, rfl, rfl⟩ | ⟨slot, rfl, rfl⟩ | ⟨n, low, high, rfl, rfl⟩ | ⟨slot, digest, hd, rfl, rfl⟩ :=
    slDecode_cases h
  · obtain ⟨hbytes, hw, -⟩ := slPlain_some hb
    exact ⟨hbytes, hw⟩
  · exact ⟨rfl, rfl⟩
  · exact ⟨rfl, rfl⟩
  · have hlow : (high ++ low).extractLsb' 0 8 = low := BitVec.extractLsb'_append_eq_right
    have hhigh : (high ++ low).extractLsb' 8 8 = high := BitVec.extractLsb'_append_eq_left
    exact ⟨by rw [slEncode_slChunks, hlow, hhigh], rfl⟩
  · exact ⟨rfl, decide_eq_true hd⟩

theorem slDecode_of_slEncode (hw : c.wellFormed = true) (h : slEncode c = some bytes) : slDecode bytes = some c := by
  cases c with
  | slStatus | slCapture | slCounters | slKeys | slRegion _ | slRevoke _ | slClose | slLock | slWipe | slPatrol =>
    cases h; rfl
  | slChunks n start =>
    cases h
    rw [slDecode, if_pos rfl, Word.append_bytes]
  | slProvision slot digest =>
    cases h
    exact slDecode_provision slot (of_decide_eq_true hw)
  | slUnknown code =>
    cases h
    exact slPlain_unknown (by simpa [Instr.wellFormed] using hw)
  | _ => cases h

theorem slDecode_length {b : Byte} {rest : List Byte} (h : slDecode (b :: rest) = some c) :
    rest.length = slArgumentBytes b := by
  obtain ⟨code, hbytes, hcode⟩ | ⟨n, hbytes, -⟩ | ⟨slot, hbytes, -⟩ | ⟨n, low, high, hbytes, -⟩ |
    ⟨slot, digest, hd, hbytes, -⟩ := slDecode_cases h
  · cases hbytes
    exact (slPlain_some hcode).2.2.symm
  · cases hbytes; rfl
  · cases hbytes; rfl
  · cases hbytes; rfl
  · cases hbytes
    rw [List.length_cons, hd]
    rfl

end

/-! ## The bits of a frame (R137, R176) -/

/-- A byte's bits, most significant first. -/
def bitsOfByte (b : Byte) : List Bool := (List.range 8).map fun k => b.getLsbD (7 - k)

theorem ofBoolListBE_bitsOfByte (b : Byte) : (BitVec.ofBoolListBE (bitsOfByte b) : Byte) = b := by
  refine BitVec.eq_of_getMsbD_eq fun i (hi : i < 8) => ?_
  have hbit : (bitsOfByte b)[i]? = some (b.getLsbD (7 - i)) := by
    rw [bitsOfByte, List.getElem?_map, List.getElem?_range hi, Option.map_some]
  calc (BitVec.ofBoolListBE (bitsOfByte b)).getMsbD i
    _ = b.getLsbD (7 - i) := by rw [BitVec.getMsbD_ofBoolListBE, List.getD_eq_getElem?_getD, hbit, Option.getD_some]
    _ = b.getMsbD i := by simp [BitVec.getMsbD, hi]

theorem bytesOfBits_cons (b : Byte) (rest : List Bool) : bytesOfBits (bitsOfByte b ++ rest) = b :: bytesOfBits rest :=
  congrArg (· :: bytesOfBits rest) (ofBoolListBE_bitsOfByte b)

theorem bytesOfBits_part {part : List Bool} (h : part.length < 8) : bytesOfBits part = [] := by
  unfold bytesOfBits
  split
  · simp at h
    omega
  · rfl

theorem bytesOfBits_frame (bytes : List Byte) {part : List Bool} (h : part.length < 8) :
    bytesOfBits (bytes.flatMap bitsOfByte ++ part) = bytes := by
  induction bytes with
  | nil => exact bytesOfBits_part h
  | cons b rest ih => rw [List.flatMap_cons, List.append_assoc, bytesOfBits_cons, ih]

/-- Settles O4: the frames that decode (`elDecode_cases`, `slDecode_cases`) are the bytes of what they decode to, and their first
byte fixes their length, so that none begins another (`decode_none_of_shorter`). -/
theorem linkCommandsAreSpelledByTheirBytes : Obligations.LinkCommandsAreSpelledByTheirBytes := by
  refine ⟨fun c bytes hw => ⟨fun h => ?_, fun h => ?_⟩,
    fun c bytes => ⟨elEncode_of_elDecode, slEncode_of_slDecode⟩,
    fun high mid low n lo hi slot code digest hd => ⟨rfl, rfl, rfl, elDecode_unknown, rfl, rfl, rfl, rfl, rfl, rfl,
      slDecode_provision slot hd, rfl, rfl, rfl, rfl, rfl, slPlain_unknown⟩,
    fun bytes part hpart => bytesOfBits_frame bytes hpart⟩
  · have hdecode := elDecode_of_elEncode hw h
    refine ⟨hdecode, ?_⟩
    rintro p more rfl hmore
    exact decode_none_of_shorter rfl elDecode_length hdecode hmore
  · have hdecode := slDecode_of_slEncode hw h
    refine ⟨hdecode, ?_⟩
    rintro p more rfl hmore
    exact decode_none_of_shorter rfl slDecode_length hdecode hmore

end Sys2Proof
end

section
/-! The records of the Service Link, field by field (R187): the summary, the region records, the chunk states and the capture. -/

namespace Sys2Proof.Machine

/-! ## Bytes of flags -/

theorem boolByte_getLsbD {k : Nat} (hk : k < 8) (b : Bool) (n : Nat) :
    (boolByte k b).getLsbD n = (decide (n = k) && b) := by
  cases b with
  | false => simp [boolByte]
  | true =>
    rw [boolByte, if_pos rfl, BitVec.getLsbD_ofNat, Nat.testBit_two_pow, Bool.and_true]
    by_cases hn : n = k
    · simp [hn, hk]
    · simp [hn, Ne.symm hn]

theorem Alerts.byte_getLsbD (a : Alerts) (n : Nat) :
    a.byte.getLsbD n = [a.bad, a.late, a.violation, a.supplyLow, a.noBank].getD n false := by
  simp (disch := decide) only [Alerts.byte, BitVec.getLsbD_or, boolByte_getLsbD]
  match n with
  | 0 | 1 | 2 | 3 | 4 => simp
  | n + 5 => simp

/-! ## The summary record (R178) -/

theorem Region.isComplete_eq : Region.isComplete = fun x => match x with
    | .image g => decide (g.state = .complete)
    | .data _ => false := by
  funext x
  cases x <;> rfl

theorem Scan.patrolRunning_eq (c : Scan) : c.patrolRunning = decide (c.pass = .patrol ∨ c.pass = .patrolStopping) :=
  (Bool.decide_or _ _).symm

section
variable (s : State)

/-- Byte 13 of the summary record. -/
def State.activityByte : Byte :=
  boolByte 0 s.scan.patrolRunning ||| boolByte 1 s.fuse.lock ||| boolByte 2 s.fuse.op.isSome |||
  boolByte 3 s.fuse.lockClear ||| boolByte 4 s.filter.capture.isSome ||| boolByte 5 s.filter.failed

theorem State.activityByte_getLsbD (n : Nat) : s.activityByte.getLsbD n =
    [s.scan.patrolRunning, s.fuse.lock, s.fuse.op.isSome, s.fuse.lockClear, s.filter.capture.isSome,
      s.filter.failed].getD n false := by
  simp (disch := decide) only [State.activityByte, BitVec.getLsbD_or, boolByte_getLsbD]
  match n with
  | 0 | 1 | 2 | 3 | 4 | 5 => simp
  | n + 6 => simp

variable {s}

/-- The summary's 21 bytes, with the four of the last walk fault. -/
theorem State.summary_eq {kind form x y : Byte} (h : walkFaultBytes s.walk.lastFault = [kind, form, x, y]) :
    s.summary = [s.fuse.lifecycle.code, s.boot.state.code, bankCode s.boot.active, s.gate.state.code,
      gateCauseCode s.gate.cause, s.alerts.byte, s.lines.cause.code, kind, form, x, y,
      BitVec.ofNat 8 s.tables.regions.length, BitVec.ofNat 8 s.tables.completeCount, s.activityByte,
      bankCode s.fuse.demoted, BitVec.ofNat 8 s.fuse.work.length, s.wipe.state.code, BitVec.ofNat 8 s.wipe.k,
      s.wipe.last.code, BitVec.ofNat 8 s.filter.violations, BitVec.ofNat 8 (s.filter.violations / 256)] := by
  rw [State.summary, h]
  rfl

theorem walkFaultBytes_four (f : Option (WalkFault × WalkRef)) : ∃ kind form x y, walkFaultBytes f = [kind, form, x, y] := by
  match f with
  | none => exact ⟨_, _, _, _, rfl⟩
  | some (_, .entry _ _) => exact ⟨_, _, _, _, rfl⟩
  | some (_, .region _) => exact ⟨_, _, _, _, rfl⟩

end

/-- The boot state codes of R187, which gives HALTED none. -/
theorem BootState.code_eq {b : BootState} {v : Byte} (h : (match b with
      | .selecting => some 0x00#8
      | .walking => some 0x01#8
      | .preverify => some 0x02#8
      | .released => some 0x03#8
      | .noBank => some 0x04#8
      | .transparent => some 0x06#8
      | .halted => none) = some v) : b.code = v := by
  cases b with
  | halted => cases h
  | _ => exact Option.some.inj h

/-! ## The chunk-state record (R55) -/

theorem Tables.chunkCode_lt (t : Tables) (r : ImageRegion) (i : Nat) : t.chunkCode r i < 4 := by
  unfold Tables.chunkCode
  split
  · split <;> decide
  · decide

theorem Tables.ofNat_chunkCode (t : Tables) (r : ImageRegion) (i : Nat) : BitVec.ofNat 2 (t.chunkCode r i) =
    if i < r.count then
      match t.chunkState (r.first + i) with
      | .unchecked => 0#2
      | .good => 1#2
      | .bad => 2#2
    else 3#2 := by
  unfold Tables.chunkCode
  split
  · cases t.chunkState (r.first + i) <;> rfl
  · rfl

theorem Tables.chunksRecord_length (t : Tables) (r : ImageRegion) (start : Nat) :
    (t.chunksRecord r start).length = 16 := by
  rw [Tables.chunksRecord, List.length_map, List.length_range]

/-- Four positions of two bits make a byte, the first lowest. -/
theorem extractLsb'_of_positions {c : Nat → Nat} (hc : ∀ k, c k < 4) {m : Nat} (hm : m < 4) :
    (BitVec.ofNat 8 (c 0 + 4 * c 1 + 16 * c 2 + 64 * c 3)).extractLsb' (2 * m) 2 = BitVec.ofNat 2 (c m) := by
  have h0 := hc 0
  have h1 := hc 1
  have h2 := hc 2
  have h3 := hc 3
  refine BitVec.eq_of_toNat_eq ?_
  rw [BitVec.extractLsb'_toNat, BitVec.toNat_ofNat, BitVec.toNat_ofNat, Nat.shiftRight_eq_div_pow]
  match m, hm with
  | 0, _ | 1, _ | 2, _ | 3, _ => norm_num; omega

theorem Tables.chunksRecord_position (t : Tables) (r : ImageRegion) (start : Nat) {j : Nat} (hj : j < 64) :
    ∃ b, (t.chunksRecord r start)[j / 4]? = some b ∧
      b.extractLsb' (2 * (j % 4)) 2 = BitVec.ofNat 2 (t.chunkCode r (start + j)) := by
  have hbyte : j / 4 < 16 := by omega
  refine ⟨_, by rw [Tables.chunksRecord, List.getElem?_map, List.getElem?_range hbyte, Option.map_some], ?_⟩
  have hposition : start + 4 * (j / 4) + j % 4 = start + j := by omega
  rw [← hposition]
  exact extractLsb'_of_positions (c := fun k => t.chunkCode r (start + 4 * (j / 4) + k)) (fun _ => t.chunkCode_lt r _)
    (Nat.mod_lt j (by decide))

/-! ## The capture record (R128) -/

/-- A byte of a number's little-endian bytes, as bits of the word it stands for. -/
theorem ofNat_div_eq_extractLsb' {w : Nat} (v : BitVec w) (k : Nat) :
    BitVec.ofNat 8 (v.toNat / 2 ^ k) = v.extractLsb' k 8 := by
  rw [← Nat.shiftRight_eq_div_pow]
  rfl

theorem leBytes_two_of_word (w : Word) : leBytes 2 w.toNat = [w.extractLsb' 0 8, w.extractLsb' 8 8] := by
  rw [← ofNat_div_eq_extractLsb', ← ofNat_div_eq_extractLsb', Nat.pow_zero, Nat.div_one]
  rfl

theorem leBytes_three_of_addr (a : Addr) :
    leBytes 3 a.toNat = [a.extractLsb' 0 8, a.extractLsb' 8 8, a.extractLsb' 16 8] := by
  have hhigh : a.toNat / 2 ^ 16 = a.toNat / 256 / 256 := (Nat.div_div_eq_div_mul _ 256 256).symm
  rw [← ofNat_div_eq_extractLsb', ← ofNat_div_eq_extractLsb', ← ofNat_div_eq_extractLsb', hhigh, Nat.pow_zero,
    Nat.div_one]
  rfl

/-- The capture record of a refusal in a boot state that has a code. -/
theorem captureRecord_some {c : Capture} {b : Byte} (hb : c.boot.code = b) : captureRecord (some c) =
    [0x01#8, c.reason.code, c.addr.extractLsb' 0 8, c.addr.extractLsb' 8 8, c.addr.extractLsb' 16 8,
      c.value.extractLsb' 0 8, c.value.extractLsb' 8 8, b, c.gate.code] := by
  rw [captureRecord, leBytes_three_of_addr, leBytes_two_of_word, hb]
  rfl

/-- Settles O57: each record is a list of its fields' codes (`State.summary_eq`), and its bytes of flags and its chunk states are
read bit by bit (`Alerts.byte_getLsbD`, `State.activityByte_getLsbD`, `Tables.chunksRecord_position`). -/
theorem theRecordsHoldTheirFields : Obligations.TheRecordsHoldTheirFields := by
  intro s bank bootCode gateCode bits half
  refine ⟨?_, fun g => ?_, fun d => ?_, fun g start j hj => ?_, fun c b hb => ?_, rfl⟩
  · intro r
    obtain ⟨kind, form, x, y, hfault⟩ := walkFaultBytes_four s.walk.lastFault
    have hr : r = _ := State.summary_eq hfault
    rw [hr]
    refine ⟨rfl, rfl, fun b hb => congrArg some (BootState.code_eq hb), rfl, rfl, rfl,
      ⟨_, rfl, s.alerts.byte_getLsbD⟩, rfl, fun hnone => ?_, fun k ref hsome => ?_, rfl, ?_, ⟨_, rfl, ?_⟩, rfl, rfl, rfl, rfl,
      rfl, rfl, rfl⟩
    · rw [hnone] at hfault
      cases hfault
      rfl
    · rw [hsome] at hfault
      cases ref with
      | entry signer index => cases hfault; exact ⟨rfl, rfl⟩
      | region index => cases hfault; exact ⟨rfl, rfl⟩
    · exact congrArg (fun complete => some (BitVec.ofNat 8 (s.tables.regions.countP complete))) Region.isComplete_eq
    · rw [← s.scan.patrolRunning_eq]
      exact s.activityByte_getLsbD
  · intro r
    refine ⟨rfl, rfl, rfl, rfl, rfl, ⟨_, rfl, fun n => ?_⟩, rfl, rfl, rfl, ⟨rfl, rfl⟩, ⟨rfl, rfl⟩, ⟨rfl, rfl⟩, ⟨rfl, rfl⟩,
      ⟨rfl, rfl⟩, rfl, rfl⟩
    rw [boolByte_getLsbD (by decide)]
    cases n <;> simp
  · exact ⟨rfl, rfl, rfl, rfl, rfl, rfl, ⟨rfl, rfl⟩, ⟨rfl, rfl⟩, rfl⟩
  · obtain ⟨b, hb, hposition⟩ := s.tables.chunksRecord_position g start hj
    exact ⟨s.tables.chunksRecord_length g start, b, hb, hposition.trans (s.tables.ofNat_chunkCode g (start + j))⟩
  · exact captureRecord_some (BootState.code_eq hb)

end Sys2Proof.Machine
end
